-- ==== Sys2Proof/Word.lean ====
section
/-! DEFINITION. The words of the machine. -/

namespace Sys2Proof

/-- A byte (R3). -/
abbrev Byte := BitVec 8

/-- A 64-bit register value (R143). -/
abbrev W64 := BitVec 64

/-- A lane mask or a 512-bit mask register (R238). -/
abbrev W512 := BitVec 512

/-- A row of 512 bytes, byte k in bits [8k+7 : 8k] (R3, R236). -/
abbrev Row := BitVec 4096

end Sys2Proof
end

