-- ==== Sys2Proof/Config.lean ====
section
/-! DEFINITION. What the manual leaves open: free values, constants without a body (every one is named in the assumption log), and the
choices of an implementation. -/

namespace Sys2Proof.Config

/-- The value an atomic update returns from a location that does not exist (R210; log 21): free, by the counter of free values. -/
opaque freeWord : Nat → W64

/-- The choice between the two f32 values next to a faithful result (R254; log 8), a fixed function of the op and of its operand's code:
free; true takes the neighbour of larger magnitude. -/
opaque faithfulUp : Nat → Nat → Bool

/-- A bit of a die's entropy source (R309; log 9), by the counter of free values: free. -/
opaque entropyBit : Nat → Bool

/-- Whether a die's boot ROM accepts a first-stage image, by the die ID (R452; log 10): the Falcon-1024 check against a key whose digest is
fused in the die: free. -/
opaque imageAccepted : Nat → List (BitVec 8) → Bool

/-- A derivation of keys: one from every measurement, and no two the same. -/
structure KeyFn where
  key : List (BitVec 8) → List (BitVec 8) := fun bs => bs
  inj : ∀ a b, key a = key b → a = b := by exact fun _ _ h => h
deriving Inhabited

/-- The derivation by which a die's fused secret and the bytes of its first-stage measurement give the public key of its identity (R453; log 10):
free, but that changed firmware gives another key. -/
opaque identityKey : Nat → KeyFn

/-- The signature of that identity under bytes (R453; log 10): free, by a counter, since Falcon signatures are randomised. -/
opaque signature : Nat → Nat → List (BitVec 8) → Nat → List (BitVec 8)

/-- The accumulator of an integer cell after an MX block whose rounded sum is no 48-bit integer, by the accumulator before it and the f32 code of
the sum (R105, R273; log 25): free, a fixed function of the operands (R107). -/
opaque mxSum : W64 → Nat → W64

end Sys2Proof.Config
end

