-- ==== Sys2Proof/Machine/Bits.lean ====
section
/-! DEFINITION. Bit fields, bytes and keyed lists: the plain helpers every engine shares. -/

namespace Sys2Proof.Machine

/-- The bits [hi:lo] of a natural number read as an unsigned integer (R4). -/
def bitsN (x hi lo : Nat) : Nat := x / 2 ^ lo % 2 ^ (hi + 1 - lo)

/-- The bits [hi:lo] of a 64-bit value (R4). -/
def bits (x : W64) (hi lo : Nat) : Nat := bitsN x.toNat hi lo

/-- Bit k of a natural number. -/
def bitN (x k : Nat) : Bool := x / 2 ^ k % 2 == 1

/-- Bit k of a 64-bit value. -/
def bit (x : W64) (k : Nat) : Bool := bitN x.toNat k

/-- A truth value as a number. -/
def b2n (b : Bool) : Nat := if b then 1 else 0

/-- A 64-bit value. -/
def w64 (n : Nat) : W64 := BitVec.ofNat 64 n

/-- `x` with its bits [hi:lo] replaced by the low bits of `v`. -/
def setBitsN (x hi lo v : Nat) : Nat :=
  let w := 2 ^ (hi + 1 - lo)
  x / 2 ^ (hi + 1) * 2 ^ (hi + 1) + v % w * 2 ^ lo + x % 2 ^ lo

/-- A `w`-bit number read as two's complement. -/
def signedN (w n : Nat) : Int := if n % 2 ^ w < 2 ^ (w - 1) then (n % 2 ^ w : Nat) else ((n % 2 ^ w : Nat) : Int) - (2 ^ w : Nat)

/-- An integer modulo 2^w. -/
def wrapN (w : Nat) (i : Int) : Nat := (i % ((2 ^ w : Nat) : Int)).toNat

/-- The `n` lowest bytes of a number, lowest first (R3). -/
def bytesOf : Nat → Nat → List Byte
  | 0, _ => []
  | n + 1, x => BitVec.ofNat 8 x :: bytesOf n (x / 256)

/-- The number whose bytes, lowest first, are given (R3). -/
def ofBytes : List Byte → Nat
  | [] => 0
  | b :: bs => b.toNat + 256 * ofBytes bs

/-- The bytes of a row, lowest address first (R3). -/
def rowBytes (r : Row) : List Byte := bytesOf 512 r.toNat

/-- The row that holds the given bytes. -/
def rowOfBytes (bs : List Byte) : Row := BitVec.ofNat 4096 (Machine.ofBytes bs)

/-- Lane `k` of `e` bytes of a row (R233). -/
def laneN (r e k : Nat) : Nat := r / 2 ^ (8 * e * k) % 2 ^ (8 * e)

/-- A number made of lanes of `e` bytes, lane 0 lowest. -/
def ofLanes (e : Nat) : List Nat → Nat
  | [] => 0
  | x :: xs => x % 2 ^ (8 * e) + 2 ^ (8 * e) * ofLanes e xs

/-- The entry of key `k` in a list of keyed entries. -/
def find? {α : Type} (k : Nat) : List (Nat × α) → Option α
  | [] => none
  | (j, a) :: m => if j = k then some a else find? k m

/-- The list with the entry of key `k` set, keys rising. -/
def put {α : Type} (k : Nat) (v : α) : List (Nat × α) → List (Nat × α)
  | [] => [(k, v)]
  | (j, a) :: m => if j = k then (k, v) :: m else if k < j then (k, v) :: (j, a) :: m else (j, a) :: put k v m

/-- The list without the entry of key `k`. -/
def del {α : Type} (k : Nat) : List (Nat × α) → List (Nat × α)
  | [] => []
  | (j, a) :: m => if j = k then m else (j, a) :: del k m

/-- The entry of key `k`, or what an unlisted key holds. -/
def getD {α : Type} (k : Nat) (d : α) (m : List (Nat × α)) : α := (find? k m).getD d

/-- The elements with the element at position `i` replaced. -/
def setAt {α : Type} (i : Nat) (v : α) : List α → List α
  | [] => []
  | x :: xs => match i with
    | 0 => v :: xs
    | j + 1 => x :: setAt j v xs

/-- Word i of a descriptor. -/
def wordN (ws : List W64) (i : Nat) : W64 := ws.getD i 0

/-- The `n` numbers from `a` on. -/
def upFrom (a : Nat) : Nat → List Nat
  | 0 => []
  | n + 1 => a :: upFrom (a + 1) n

/-- Insertion of an element into a list ordered by `le`; equal elements keep their order. -/
def insertBy {α : Type} (le : α → α → Bool) (x : α) : List α → List α
  | [] => [x]
  | y :: ys => if le y x then y :: insertBy le x ys else x :: y :: ys

/-- A list ordered by `le`; equal elements keep their order. -/
def sortBy {α : Type} (le : α → α → Bool) (xs : List α) : List α := xs.foldl (fun acc x => insertBy le x acc) []

/-- How many bits of a number are 1, of its lowest `w`. -/
def popcountN : Nat → Nat → Nat
  | 0, _ => 0
  | w + 1, x => x % 2 + popcountN w (x / 2)

/-- The leading zeros of a `w`-bit number. -/
def clzN (w x : Nat) : Nat := if x % 2 ^ w = 0 then w else w - 1 - Nat.log2 (x % 2 ^ w)

/-- The trailing zeros of a `w`-bit number. -/
def ctzN : Nat → Nat → Nat
  | 0, _ => 0
  | w + 1, x => if x % 2 = 1 then 0 else 1 + ctzN w (x / 2)

/-- The floor of the square root, one bit of the result at a time from bit `k - 1` down. -/
def isqrtGo : Nat → Nat → Nat → Nat
  | 0, _, r => r
  | k + 1, x, r => let t := r + 2 ^ k; if t * t ≤ x then isqrtGo k x t else isqrtGo k x r

/-- The floor of the square root. -/
def isqrt (x : Nat) : Nat := isqrtGo (Nat.log2 x / 2 + 1) x 0

/-- The key served next among those that wait, each with its core's number: cores in turn after the one served last, and the first of its core
(R16). -/
def roundRobin (last : Nat) (qs : List (Nat × Nat)) : Option Nat :=
  let dist := fun (c : Nat) => (c + 64 - (last + 1) % 64) % 64
  (qs.foldl (fun (best : Option (Nat × Nat)) q => match best with
    | none => some q
    | some b => if dist q.2 < dist b.2 then some q else some b) none).map (·.1)

end Sys2Proof.Machine
end

