-- ==== Sys2Proof/Machine/Num.lean ====
section
/-! DEFINITION. Numbers: the element formats (R82 to R90), exact values, rounding (R97, R98), the conditions of R99,
encode and decode (R102 to R104), the counter hash (R110) and the fixed-order sum (R106).

An exact value is a dyadic `± m × 2^e` with its sign kept for zeros. A code's magnitude is its place in the list of the
format's non-negative values, so that rounding works on places and continues past the largest finite value (R97). -/

namespace Sys2Proof.Machine

/-- An exact real, an infinity or NaN (R112); `fin neg m e` is `± m × 2^e`. -/
inductive XReal where
  | nan
  | inf (neg : Bool)
  | fin (neg : Bool) (m : Nat) (e : Int)
deriving DecidableEq, Repr

/-- The conditions of R99. -/
structure Cond where
  nv : Bool := false
  dz : Bool := false
  ovf : Bool := false
  uf : Bool := false
  nx : Bool := false
deriving DecidableEq, Repr

/-- Both sets of conditions (R147). -/
def Cond.join (a b : Cond) : Cond := ⟨a.nv || b.nv, a.dz || b.dz, a.ovf || b.ovf, a.uf || b.uf, a.nx || b.nx⟩

/-- The conditions as fpstat[4:0] (R147). -/
def Cond.bits (c : Cond) : Nat := 16 * b2n c.nv + 8 * b2n c.dz + 4 * b2n c.ovf + 2 * b2n c.uf + b2n c.nx

/-- A floating-point format (R82): `prec` significant bits, `emin` the exponent of its smallest normal, `top` the place of its
largest finite value; its infinity, where it has one, is the next place. -/
structure FloatFmt where
  width : Nat
  prec : Nat
  emin : Int
  signed : Bool
  top : Nat
  hasInf : Bool
  ieee : Bool
  nanCode : Nat
deriving DecidableEq, Repr

/-- An element format. -/
inductive Fmt where
  | raw
  | flt (f : FloatFmt)
  | int (width : Nat) (signed : Bool)
deriving DecidableEq, Repr

/-- binary32, bf16, binary16, binary64 (R87, R88). -/
def f32Fmt : FloatFmt := ⟨32, 24, -126, true, 0x7F7FFFFF, true, true, 0x7FC00000⟩
def bf16Fmt : FloatFmt := ⟨16, 8, -126, true, 0x7F7F, true, true, 0x7FC0⟩
def f16Fmt : FloatFmt := ⟨16, 11, -14, true, 0x7BFF, true, true, 0x7E00⟩
def f64Fmt : FloatFmt := ⟨64, 53, -1022, true, 0x7FEFFFFFFFFFFFFF, true, true, 0x7FF8000000000000⟩

/-- Signed binary8 of precision p (R83): the bias is 2^(7-p). -/
def b8pFmt (p : Nat) (i : Bool) : FloatFmt := ⟨8, p, 1 - ((2 ^ (7 - p) : Nat) : Int), true, if i then 0x7E else 0x7F, i, false, 0x80⟩

/-- Unsigned binary8 of precision p (R84): the bias is 2^(8-p). -/
def b8nFmt (p : Nat) (i : Bool) : FloatFmt := ⟨8, p, 1 - ((2 ^ (8 - p) : Nat) : Int), false, if i then 0xFD else 0xFE, i, false, 0xFF⟩

/-- The format a 6-bit code names (R94); none where the code is undefined. -/
def fmtOf (c : Nat) : Option Fmt :=
  if c = 0 then some .raw
  else if c < 0x20 then
    if c % 8 = 0 then none
    else if c / 16 = 1 then some (.flt (b8nFmt (c % 8) (c / 8 % 2 == 1))) else some (.flt (b8pFmt (c % 8) (c / 8 % 2 == 1)))
  else if c = 0x20 then some (.flt bf16Fmt)
  else if c = 0x21 then some (.flt f16Fmt)
  else if c = 0x22 then some (.flt f32Fmt)
  else if c = 0x23 then some (.flt f64Fmt)
  else if 0x28 ≤ c ∧ c ≤ 0x2B then some (.int (8 * 2 ^ (c - 0x28)) true)
  else if 0x2C ≤ c ∧ c ≤ 0x2F then some (.int (8 * 2 ^ (c - 0x2C)) false)
  else none

/-- The width of an element in bits; raw has the width of a byte. -/
def Fmt.width : Fmt → Nat
  | .raw => 8
  | .flt f => f.width
  | .int w _ => w

/-- The size of an element in bytes. -/
def Fmt.size (f : Fmt) : Nat := f.width / 8

/-- True for a binary8 format or i8: the element formats of MX blocks (R91, R95). -/
def mxElemCode (c : Nat) : Bool := (decide (c < 0x20) && c % 8 != 0) || c == 0x28

/-- The type codes a lane may hold (R233). -/
def laneCodeOk (c : Nat) : Bool :=
  (decide (c < 0x20) && c % 8 != 0) || c == 0x20 || c == 0x21 || c == 0x22 || c == 0x28 || c == 0x29 || c == 0x2A ||
    c == 0x2C || c == 0x2D || c == 0x2E

/-- The value `± m × 2^e` of the place `n` among the non-negative values of a format (R83, R84, R87). -/
def FloatFmt.value (f : FloatFmt) (neg : Bool) (n : Nat) : XReal :=
  let h := 2 ^ (f.prec - 1)
  if n < h then .fin neg n (f.emin - (f.prec - 1 : Nat))
  else .fin neg (h + n % h) (((n / h : Nat) : Int) - 1 + f.emin - (f.prec - 1 : Nat))

/-- decode for a floating-point format (R83, R84, R87, R112). -/
def FloatFmt.decode (f : FloatFmt) (c : Nat) : XReal :=
  let c := c % 2 ^ f.width
  if f.ieee then
    let mag := c % 2 ^ (f.width - 1)
    let neg := c / 2 ^ (f.width - 1) == 1
    if mag ≤ f.top then f.value neg mag else if mag = f.top + 1 then .inf neg else .nan
  else if f.signed then
    let mag := c % 128
    let neg := c / 128 == 1
    if c = 0x80 then .nan else if mag ≤ f.top then f.value neg mag else .inf neg
  else if c = 0xFF then .nan
  else if c ≤ f.top then f.value false c else .inf false

/-- decode (R112): an integer element decodes to its integer. -/
def Fmt.decode (f : Fmt) (c : Nat) : XReal :=
  match f with
  | .raw => .fin false (c % 256) 0
  | .flt g => g.decode c
  | .int w s => let i := if s then signedN w c else ((c % 2 ^ w : Nat) : Int); .fin (decide (i < 0)) i.natAbs 0

/-- `m × 2^e` as an integer number of units of 2^u, rounded down, with what is left as a 17-bit fraction and a sticky bit. -/
structure Scaled where
  n : Nat
  /-- floor(2^16 × the fraction). -/
  frac : Nat
  /-- the fraction is greater than frac / 2^16. -/
  more : Bool
deriving DecidableEq, Repr

/-- `m × 2^e` in units of 2^u. -/
def scaleTo (m : Nat) (e u : Int) : Scaled :=
  if u ≤ e then ⟨m * 2 ^ (e - u).toNat, 0, false⟩
  else
    let s := (u - e).toNat
    -- A value below 2^-40 of a unit is below every threshold that is read.
    if m = 0 then ⟨0, 0, false⟩
    else if Nat.log2 m + 40 < s then ⟨0, 0, true⟩
    else
      let r := m % 2 ^ s
      let t := r * 2 ^ 16
      ⟨m / 2 ^ s, t / 2 ^ s, t % 2 ^ s != 0⟩

/-- True when the scaled value is no integer. -/
def Scaled.inexact (s : Scaled) : Bool := s.frac != 0 || s.more

/-- The choice between the lower and the upper neighbour of a magnitude (R97): true takes the upper one. Modes: 0 rne, 1 rz, 2 ru,
3 rd, 4 rs with coin `c`. For a negative value the neighbours change places. -/
def roundsUp (s : Scaled) (odd neg : Bool) (mode c : Nat) : Bool :=
  if !s.inexact then false
  else
    match mode with
    | 0 => if s.frac < 0x8000 then false else if s.frac = 0x8000 && !s.more then odd else true
    | 1 => false
    | 2 => !neg
    | 3 => neg
    | _ =>
      if neg then
        -- (x - lo) / (hi - lo) is one minus the magnitude's fraction; hi is the smaller magnitude.
        let thr := if s.more then 0x10000 - s.frac - 1 else 0x10000 - s.frac
        !decide (c < thr)
      else decide (c < s.frac)

/-- The place of `m × 2^e` in a floating-point format, rounded with no upper bound (R97), and whether it was exact. -/
def FloatFmt.place (f : FloatFmt) (neg : Bool) (m : Nat) (e : Int) (mode c : Nat) : Nat × Bool :=
  if m = 0 then (0, true)
  else
    let l : Int := (Nat.log2 m : Nat) + e
    let b := if l < f.emin then f.emin else l
    let s := scaleTo m e (b - (f.prec - 1 : Nat))
    let lo := (b - f.emin).toNat * 2 ^ (f.prec - 1) + s.n
    (if roundsUp s (lo % 2 == 1) neg mode c then lo + 1 else lo, !s.inexact)

/-- The code of a place and a sign. -/
def FloatFmt.code (f : FloatFmt) (neg : Bool) (n : Nat) : Nat :=
  if n = 0 then (if f.ieee && neg then 2 ^ (f.width - 1) else 0)
  else if neg && f.signed then 2 ^ (f.width - 1) + n else n

/-- The infinity of a sign, where the format has one. -/
def FloatFmt.infCode (f : FloatFmt) (neg : Bool) : Nat := if neg && !f.signed then f.nanCode else f.code neg (f.top + 1)

/-- The result of an overflow (R98). -/
def FloatFmt.overflow (f : FloatFmt) (neg : Bool) (mode : Nat) (ovf : Bool) : Nat :=
  if mode = 1 || (mode = 2 && neg) || (mode = 3 && !neg) then f.code neg f.top
  else if !ovf then f.code neg f.top
  else if f.hasInf then f.infCode neg else f.nanCode

/-- encode for a floating-point format, with the conditions of R99 (R102). -/
def FloatFmt.encode (f : FloatFmt) (x : XReal) (mode : Nat) (ovf : Bool) (c : Nat) : Nat × Cond :=
  match x with
  | .nan => (f.nanCode, {})
  | .inf neg =>
    if neg && !f.signed then (f.nanCode, { nv := true })
    else if f.hasInf then (f.infCode neg, {})
    else if !ovf then (f.code neg f.top, { nx := true })
    else (f.nanCode, { nv := true })
  | .fin neg m e =>
    let (n, exact) := f.place neg m e mode c
    if neg && !f.signed && m != 0 then
      if n = 0 then (0, { nx := true }) else (f.nanCode, { nv := true })
    else if f.top < n then (f.overflow neg mode ovf, { ovf := true, nx := true })
    else (f.code neg n, { uf := decide (0 < n ∧ n < 2 ^ (f.prec - 1)) && !exact, nx := !exact })

/-- Rounding to an integer (R97): the integer and whether it was exact. -/
def XReal.roundInt (neg : Bool) (m : Nat) (e : Int) (mode c : Nat) : Int × Bool :=
  let s := scaleTo m e 0
  let n := if roundsUp s (s.n % 2 == 1) neg mode c then s.n + 1 else s.n
  (if neg then -(n : Int) else (n : Int), !s.inexact)

/-- The least and the greatest value of an integer type (R89). -/
def intMin (w : Nat) (s : Bool) : Int := if s then -((2 ^ (w - 1) : Nat) : Int) else 0
def intMax (w : Nat) (s : Bool) : Int := if s then ((2 ^ (w - 1) : Nat) : Int) - 1 else ((2 ^ w : Nat) : Int) - 1

/-- sat (R112). -/
def satI (w : Nat) (s : Bool) (x : Int) : Int := if x < intMin w s then intMin w s else if intMax w s < x then intMax w s else x

/-- encode for an integer type, with the conditions of R99 (R102, R103). -/
def encodeInt (w : Nat) (s : Bool) (x : XReal) (mode c : Nat) : Nat × Cond :=
  match x with
  | .nan => (0, { nv := true })
  | .inf neg => (wrapN w (if neg then intMin w s else intMax w s), { nv := true, nx := true })
  | .fin neg m e =>
    let (i, exact) := XReal.roundInt neg m e mode c
    let j := satI w s i
    (wrapN w j, { nv := decide (i ≠ j), nx := !exact || decide (i ≠ j) })

/-- encode (R102); a raw element keeps the low byte. -/
def Fmt.encode (f : Fmt) (x : XReal) (mode : Nat) (ovf : Bool) (c : Nat) : Nat × Cond :=
  match f with
  | .raw => encodeInt 8 false x mode c
  | .flt g => g.encode x mode ovf c
  | .int w s => encodeInt w s x mode c

/-- encode without its conditions. -/
def Fmt.enc (f : Fmt) (x : XReal) (mode : Nat) (ovf : Bool) (c : Nat := 0) : Nat := (f.encode x mode ovf c).1

/-- The f32 code nearest to a value, ties to even, overflow to infinity. -/
def encF32 (x : XReal) : Nat := (f32Fmt.encode x 0 true 0).1

/-- The f64 code nearest to a value, ties to even, overflow to infinity. -/
def encF64 (x : XReal) : Nat := (f64Fmt.encode x 0 true 0).1

/-- The value of an f32 code. -/
def decF32 (c : Nat) : XReal := f32Fmt.decode c

/-- The value of an f64 code. -/
def decF64 (c : Nat) : XReal := f64Fmt.decode c

/-- The f32 values (+0 and one) and an integer as an exact value. -/
def XReal.zero : XReal := .fin false 0 0
def XReal.ofInt (i : Int) : XReal := .fin (decide (i < 0)) i.natAbs 0

/-- The sign of a value; NaN has none. -/
def XReal.neg? : XReal → Bool
  | .nan => false
  | .inf n => n
  | .fin n _ _ => n

def XReal.isNan : XReal → Bool
  | .nan => true
  | _ => false

def XReal.isInf : XReal → Bool
  | .inf _ => true
  | _ => false

/-- True for a finite zero of either sign. -/
def XReal.isZero : XReal → Bool
  | .fin _ m _ => m == 0
  | _ => false

def XReal.negate : XReal → XReal
  | .nan => .nan
  | .inf n => .inf (!n)
  | .fin n m e => .fin (!n) m e

def XReal.absv : XReal → XReal
  | .nan => .nan
  | .inf _ => .inf false
  | .fin _ m e => .fin false m e

/-- The value times 2^k. -/
def XReal.scale (x : XReal) (k : Int) : XReal :=
  match x with
  | .fin n m e => .fin n m (e + k)
  | y => y

/-- The signed integer of a finite value in units of 2^u, u no higher than its exponent. -/
def signedAt (n : Bool) (m : Nat) (e u : Int) : Int :=
  let k := m * 2 ^ (e - u).toNat
  if n then -(k : Int) else (k : Int)

/-- The exact sum (R88): an exact zero is -0 only of two negative zeros, or under rounding toward -inf (mode 3) of opposite ones;
inf - inf is NaN. -/
def XReal.add (mode : Nat) (x y : XReal) : XReal :=
  match x, y with
  | .nan, _ => .nan
  | _, .nan => .nan
  | .inf a, .inf b => if a = b then .inf a else .nan
  | .inf a, _ => .inf a
  | _, .inf b => .inf b
  | .fin a m e, .fin b k f =>
    if m = 0 && k = 0 then .fin (if a = b then a else mode == 3) 0 0
    else if m = 0 then .fin b k f
    else if k = 0 then .fin a m e
    else
      let u := if e ≤ f then e else f
      let s := signedAt a m e u + signedAt b k f u
      if s = 0 then .fin (mode == 3) 0 0 else .fin (decide (s < 0)) s.natAbs u

/-- The exact difference. -/
def XReal.sub (mode : Nat) (x y : XReal) : XReal := x.add mode y.negate

/-- The exact product; 0 times an infinity is NaN (R88). -/
def XReal.mul (x y : XReal) : XReal :=
  match x, y with
  | .nan, _ => .nan
  | _, .nan => .nan
  | .inf a, .inf b => .inf (a != b)
  | .inf a, .fin b k _ => if k = 0 then .nan else .inf (a != b)
  | .fin a m _, .inf b => if m = 0 then .nan else .inf (a != b)
  | .fin a m e, .fin b k f => .fin (a != b) (m * k) (e + f)

/-- The order of two values; none when one is NaN. -0 equals +0. -/
def XReal.cmp? (x y : XReal) : Option Ordering :=
  match x, y with
  | .nan, _ => none
  | _, .nan => none
  | .inf a, .inf b => some (if a = b then .eq else if a then .lt else .gt)
  | .inf a, _ => some (if a then .lt else .gt)
  | _, .inf b => some (if b then .gt else .lt)
  | .fin a m e, .fin b k f =>
    let u := if e ≤ f then e else f
    some (compare (signedAt a m e u) (signedAt b k f u))

def XReal.lt (x y : XReal) : Bool := x.cmp? y == some .lt
def XReal.le (x y : XReal) : Bool := x.cmp? y == some .lt || x.cmp? y == some .eq
def XReal.eqv (x y : XReal) : Bool := x.cmp? y == some .eq

/-- Some operand is NaN. -/
def anyNan (xs : List XReal) : Bool := xs.any XReal.isNan

/-- An exact quotient to at least 80 significant bits with a sticky bit, so that every rounding of R97 of it is that of the
quotient; `d` is not zero. -/
def quotient (neg : Bool) (n d : Nat) (e : Int) : XReal :=
  if n = 0 then .fin neg 0 0
  else
    let k := Nat.log2 d + 82
    let q := n * 2 ^ k / d
    let r := n * 2 ^ k % d
    .fin neg (2 * q + (if r = 0 then 0 else 1)) (e - k - 1)

/-- The exact quotient x / y in the IEEE sense (R88), sticky as in `quotient`. -/
def XReal.div (x y : XReal) : XReal :=
  match x, y with
  | .nan, _ => .nan
  | _, .nan => .nan
  | .inf _, .inf _ => .nan
  | .inf a, .fin b _ _ => .inf (a != b)
  | .fin a _ _, .inf b => .fin (a != b) 0 0
  | .fin a m e, .fin b k f =>
    if k = 0 then (if m = 0 then .nan else .inf (a != b))
    else quotient (a != b) m k (e - f)

/-- The square root to at least 80 significant bits with a sticky bit; NaN for a negative value, and -0 of -0. -/
def XReal.sqrt (x : XReal) : XReal :=
  match x with
  | .nan => .nan
  | .inf n => if n then .nan else .inf false
  | .fin n m e =>
    if m = 0 then .fin n 0 0
    else if n then .nan
    else
      let (m, e) := if e % 2 = 0 then (m, e) else (2 * m, e - 1)
      let m' := m * 2 ^ 164
      let r := isqrt m'
      .fin false (2 * r + (if r * r = m' then 0 else 1)) (e / 2 - 82 - 1)

/-- One operation of R88 with its conditions: `x` the exact result of operands `args`, rounded once. -/
def FloatFmt.result (f : FloatFmt) (args : List XReal) (x : XReal) (mode : Nat) (ovf : Bool) (c : Nat := 0) : Nat × Cond :=
  let (r, k) := f.encode x mode ovf c
  let nv := x.isNan && !anyNan args
  let dz := x.isInf && args.all (fun a => !a.isNan && !a.isInf)
  (r, { k with nv := k.nv || nv, dz := dz })

/-- Addition, multiplication and fused multiply-add of format f, rounded once (R88, R105). -/
def FloatFmt.addOp (f : FloatFmt) (a b : Nat) (mode : Nat) (ovf : Bool) (c : Nat := 0) : Nat × Cond :=
  f.result [f.decode a, f.decode b] ((f.decode a).add mode (f.decode b)) mode ovf c
def FloatFmt.subOp (f : FloatFmt) (a b : Nat) (mode : Nat) (ovf : Bool) (c : Nat := 0) : Nat × Cond :=
  f.result [f.decode a, f.decode b] ((f.decode a).sub mode (f.decode b)) mode ovf c
def FloatFmt.mulOp (f : FloatFmt) (a b : Nat) (mode : Nat) (ovf : Bool) (c : Nat := 0) : Nat × Cond :=
  f.result [f.decode a, f.decode b] ((f.decode a).mul (f.decode b)) mode ovf c
def FloatFmt.fmaOp (f : FloatFmt) (a b d : Nat) (mode : Nat) (ovf : Bool) (c : Nat := 0) : Nat × Cond :=
  f.result [f.decode a, f.decode b, f.decode d] (((f.decode a).mul (f.decode b)).add mode (f.decode d)) mode ovf c

/-- The f64 sum of two f64 codes, rne. -/
def addF64 (a b : Nat) : Nat := encF64 ((decF64 a).add 0 (decF64 b))

/-- pairsum (R106) over the f64 codes of 2^k values. -/
def pairsum : Nat → List Nat → Nat
  | 0, xs => xs.headD 0
  | k + 1, xs => addF64 (pairsum k (xs.take (2 ^ k))) (pairsum k (xs.drop (2 ^ k)))

/-- The counter hash CH (R110). -/
def chash (key ctr : Nat) : Nat :=
  let m := 2 ^ 64
  let x := (ctr * 0x9E3779B97F4A7C15 + key) % m
  let x := x ^^^ (x / 2 ^ 30)
  let x := x * 0xBF58476D1CE4E5B9 % m
  let x := x ^^^ (x / 2 ^ 27)
  let x := x * 0x94D049BB133111EB % m
  let x := x ^^^ (x / 2 ^ 31)
  x / 2 ^ 32

/-- The coin of a stochastic rounding (R100). -/
def coin (key ctr : Nat) : Nat := chash key (ctr % 2 ^ 64) / 2 ^ 16

/-- The value of an MX element under a block scale (R91). -/
def mxValue (f : Fmt) (c scale : Nat) : XReal :=
  if scale = 0xFF then .nan
  else if scale = 0 then (match f.decode c with | .nan => .nan | _ => .zero)
  else (f.decode c).scale ((scale : Int) - 128)

/-- floor(log2) of a finite non-zero magnitude. -/
def flog2 (m : Nat) (e : Int) : Int := (Nat.log2 m : Nat) + e

/-- floor(log2) of the largest finite value of an element format (R92). -/
def Fmt.emax (f : Fmt) : Int :=
  match f with
  | .flt g => (match g.value false g.top with | .fin _ m e => flog2 m e | _ => 0)
  | .int w s => if s then (w : Int) - 2 else (w : Int) - 1
  | .raw => 7

/-- The block scale of 32 values (R92). -/
def mxScale (f : Fmt) (xs : List XReal) : Nat :=
  let m := xs.foldl (fun (acc : Option Int) x => match x with
    | .fin _ m e => if m = 0 then acc else some (match acc with | none => flog2 m e | some a => if a < flog2 m e then flog2 m e else a)
    | _ => acc) none
  match m with
  | none => 0x80
  | some l => let s := l - f.emax + 128; (if s < 1 then 1 else if 254 < s then 254 else s).toNat

/-- The MX block of 32 values: the scale and the elements; `coins k` is the coin of element k (R92). -/
def mxEncode (f : Fmt) (xs : List XReal) (mode : Nat) (ovf : Bool) (coins : List Nat) : Nat × List Nat :=
  let s := mxScale f xs
  (s, (xs.zip coins).map (fun p => f.enc (p.1.scale (128 - (s : Int))) mode ovf p.2))

end Sys2Proof.Machine
end

