-- ==== Sys2Proof/Syntax.lean ====
section
/-! DEFINITION. The instruction set as one inductive: one constructor per row of spec/opcode_table.json.
A slot word (R60 to R68) carries its operand fields as bit vectors, from the high field to the low one, under the letters the
table gives them; the pop mask and the issue mode of the S0 word belong to the bundle (R53, R55) and are `Header`. A step that has no word (an event: an engine, a die, a switch or the host acts) carries the numbers of the
agent it names: `g` a context (`(die * 64 + core) * 4 + ctx`), `c` a core (`die * 64 + core`), `d` a die ID, `id` a message,
`u` a task binding of Compass, `p` a 64 KiB page number, `k` a command or migration, `m` a master of R441, `pk` a package. -/

namespace Sys2Proof

/-- One row of the opcode table. -/
inductive Instr where
  /-- JMP (R154). -/
  | jmp (j : BitVec 13)
  /-- JMPC (R154). -/
  | jmpc (q : BitVec 3) (j : BitVec 10)
  /-- JMPI (R154). -/
  | jmpi (s : BitVec 7)
  /-- JMPT (R154). -/
  | jmpt (t : BitVec 6) (i : BitVec 7)
  /-- JMPM (R154). -/
  | jmpm (j : BitVec 13)
  /-- CALL (R156). -/
  | call (j : BitVec 13)
  /-- CALLI (R156). -/
  | calli (s : BitVec 7)
  /-- LOOP (R149). -/
  | loop (s : BitVec 2) (n : BitVec 3) (c : BitVec 5) (b : BitVec 8)
  /-- LOOPI (R149). -/
  | loopi (s : BitVec 2) (n : BitVec 3) (c : BitVec 5) (b : BitVec 8)
  /-- LBRK (R151). -/
  | lbrk (n : BitVec 3)
  /-- WAIT (R160). -/
  | wait (w : BitVec 3)
  /-- TRAP (R164). -/
  | trap (k : BitVec 8)
  /-- BRK (R164). -/
  | brk (k : BitVec 8)
  /-- SPAWN (R139). -/
  | spawn (b : BitVec 3) (s : BitVec 7)
  /-- TLD (R142). -/
  | tld (w : BitVec 3) (d : BitVec 7)
  /-- TST (R142). -/
  | tst (w : BitVec 3) (s : BitVec 7)
  /-- SYSR (R147). -/
  | sysr (r : BitVec 6) (d : BitVec 7)
  /-- SYSW (R147). -/
  | sysw (r : BitVec 6) (s : BitVec 7)
  /-- GSUB (R142). -/
  | gsub (s : BitVec 7)
  /-- ADD (R170). -/
  | add (g : BitVec 4) (d : BitVec 7) (a : BitVec 7) (b : BitVec 7)
  /-- SUB (R170). -/
  | sub (g : BitVec 4) (d : BitVec 7) (a : BitVec 7) (b : BitVec 7)
  /-- MUL (R170). -/
  | mul (g : BitVec 4) (d : BitVec 7) (a : BitVec 7) (b : BitVec 7)
  /-- MULH (R170). -/
  | mulh (g : BitVec 4) (d : BitVec 7) (a : BitVec 7) (b : BitVec 7)
  /-- MULHN (R170). -/
  | mulhn (g : BitVec 4) (d : BitVec 7) (a : BitVec 7) (b : BitVec 7)
  /-- DIV (R170). -/
  | div (g : BitVec 4) (d : BitVec 7) (a : BitVec 7) (b : BitVec 7)
  /-- DIVN (R170). -/
  | divn (g : BitVec 4) (d : BitVec 7) (a : BitVec 7) (b : BitVec 7)
  /-- AND (R170). -/
  | and (g : BitVec 4) (d : BitVec 7) (a : BitVec 7) (b : BitVec 7)
  /-- OR (R170). -/
  | or (g : BitVec 4) (d : BitVec 7) (a : BitVec 7) (b : BitVec 7)
  /-- XOR (R170). -/
  | xor (g : BitVec 4) (d : BitVec 7) (a : BitVec 7) (b : BitVec 7)
  /-- ANDN (R170). -/
  | andn (g : BitVec 4) (d : BitVec 7) (a : BitVec 7) (b : BitVec 7)
  /-- SHL (R170). -/
  | shl (g : BitVec 4) (d : BitVec 7) (a : BitVec 7) (b : BitVec 7)
  /-- SHR (R170). -/
  | shr (g : BitVec 4) (d : BitVec 7) (a : BitVec 7) (b : BitVec 7)
  /-- SRA (R170). -/
  | sra (g : BitVec 4) (d : BitVec 7) (a : BitVec 7) (b : BitVec 7)
  /-- MIN (R170). -/
  | min (g : BitVec 4) (d : BitVec 7) (a : BitVec 7) (b : BitVec 7)
  /-- MAX (R170). -/
  | max (g : BitVec 4) (d : BitVec 7) (a : BitVec 7) (b : BitVec 7)
  /-- MINN (R170). -/
  | minn (g : BitVec 4) (d : BitVec 7) (a : BitVec 7) (b : BitVec 7)
  /-- MAXN (R170). -/
  | maxn (g : BitVec 4) (d : BitVec 7) (a : BitVec 7) (b : BitVec 7)
  /-- CMP (R170). -/
  | cmp (g : BitVec 4) (c : BitVec 4) (k : BitVec 3) (a : BitVec 7) (b : BitVec 7)
  /-- SEL (R170). -/
  | sel (s : BitVec 4) (d : BitVec 7) (a : BitVec 7) (b : BitVec 7)
  /-- LI (R170). -/
  | li (g : BitVec 4) (d : BitVec 7) (i : BitVec 14)
  /-- LIH (R170). -/
  | lih (g : BitVec 4) (d : BitVec 7) (i : BitVec 14)
  /-- CLZ (R170). -/
  | clz (g : BitVec 4) (d : BitVec 7) (a : BitVec 7)
  /-- CTZ (R170). -/
  | ctz (g : BitVec 4) (d : BitVec 7) (a : BitVec 7)
  /-- POPC (R170). -/
  | popc (g : BitVec 4) (d : BitVec 7) (a : BitVec 7)
  /-- BEXT (R170). -/
  | bext (g : BitVec 4) (d : BitVec 7) (a : BitVec 7) (b : BitVec 7)
  /-- BINS (R170). -/
  | bins (g : BitVec 4) (d : BitVec 7) (a : BitVec 7) (b : BitVec 7)
  /-- ADDSH_1 (R170). -/
  | addsh1 (g : BitVec 4) (d : BitVec 7) (a : BitVec 7) (b : BitVec 7)
  /-- ADDSH_2 (R170). -/
  | addsh2 (g : BitVec 4) (d : BitVec 7) (a : BitVec 7) (b : BitVec 7)
  /-- ADDSH_3 (R170). -/
  | addsh3 (g : BitVec 4) (d : BitVec 7) (a : BitVec 7) (b : BitVec 7)
  /-- ADDSH_5 (R170). -/
  | addsh5 (g : BitVec 4) (d : BitVec 7) (a : BitVec 7) (b : BitVec 7)
  /-- PAND (R171). -/
  | pand (g : BitVec 4) (d : BitVec 3) (a : BitVec 3) (b : BitVec 3)
  /-- POR (R171). -/
  | por (g : BitVec 4) (d : BitVec 3) (a : BitVec 3) (b : BitVec 3)
  /-- PNOT (R171). -/
  | pnot (g : BitVec 4) (d : BitVec 3) (a : BitVec 3)
  /-- FADD_F32 (R172). -/
  | faddF32 (g : BitVec 4) (d : BitVec 7) (a : BitVec 7) (b : BitVec 7)
  /-- FSUB_F32 (R172). -/
  | fsubF32 (g : BitVec 4) (d : BitVec 7) (a : BitVec 7) (b : BitVec 7)
  /-- FMUL_F32 (R172). -/
  | fmulF32 (g : BitVec 4) (d : BitVec 7) (a : BitVec 7) (b : BitVec 7)
  /-- FFMA_F32 (R172). -/
  | ffmaF32 (g : BitVec 4) (d : BitVec 7) (a : BitVec 7) (b : BitVec 7)
  /-- FCMP_F32 (R172). -/
  | fcmpF32 (g : BitVec 4) (c : BitVec 4) (k : BitVec 3) (a : BitVec 7) (b : BitVec 7)
  /-- FCVT (R173). -/
  | fcvt (g : BitVec 4) (d : BitVec 7) (a : BitVec 7) (r : BitVec 3) (c : BitVec 4)
  /-- FADD_F64 (R172). -/
  | faddF64 (g : BitVec 4) (d : BitVec 7) (a : BitVec 7) (b : BitVec 7)
  /-- FSUB_F64 (R172). -/
  | fsubF64 (g : BitVec 4) (d : BitVec 7) (a : BitVec 7) (b : BitVec 7)
  /-- FMUL_F64 (R172). -/
  | fmulF64 (g : BitVec 4) (d : BitVec 7) (a : BitVec 7) (b : BitVec 7)
  /-- FFMA_F64 (R172). -/
  | ffmaF64 (g : BitVec 4) (d : BitVec 7) (a : BitVec 7) (b : BitVec 7)
  /-- FCMP_F64 (R172). -/
  | fcmpF64 (g : BitVec 4) (c : BitVec 4) (k : BitVec 3) (a : BitVec 7) (b : BitVec 7)
  /-- LD_B (R206). -/
  | ldB (g : BitVec 4) (d : BitVec 7) (b : BitVec 7) (o : BitVec 8)
  /-- LD_H (R206). -/
  | ldH (g : BitVec 4) (d : BitVec 7) (b : BitVec 7) (o : BitVec 8)
  /-- LD_W (R206). -/
  | ldW (g : BitVec 4) (d : BitVec 7) (b : BitVec 7) (o : BitVec 8)
  /-- LD_D (R206). -/
  | ldD (g : BitVec 4) (d : BitVec 7) (b : BitVec 7) (o : BitVec 8)
  /-- LD_Q (R206). -/
  | ldQ (g : BitVec 4) (d : BitVec 7) (b : BitVec 7) (o : BitVec 8)
  /-- LD_O (R206). -/
  | ldO (g : BitVec 4) (d : BitVec 7) (b : BitVec 7) (o : BitVec 8)
  /-- LDN_B (R206). -/
  | ldnB (g : BitVec 4) (d : BitVec 7) (b : BitVec 7) (o : BitVec 8)
  /-- LDN_H (R206). -/
  | ldnH (g : BitVec 4) (d : BitVec 7) (b : BitVec 7) (o : BitVec 8)
  /-- LDN_W (R206). -/
  | ldnW (g : BitVec 4) (d : BitVec 7) (b : BitVec 7) (o : BitVec 8)
  /-- LD_W_ACQ (R192). -/
  | ldWAcq (g : BitVec 4) (d : BitVec 7) (b : BitVec 7) (o : BitVec 8)
  /-- LD_D_ACQ (R192). -/
  | ldDAcq (g : BitVec 4) (d : BitVec 7) (b : BitVec 7) (o : BitVec 8)
  /-- ST_B (R206). -/
  | stB (g : BitVec 4) (d : BitVec 7) (b : BitVec 7) (o : BitVec 8)
  /-- ST_H (R206). -/
  | stH (g : BitVec 4) (d : BitVec 7) (b : BitVec 7) (o : BitVec 8)
  /-- ST_W (R206). -/
  | stW (g : BitVec 4) (d : BitVec 7) (b : BitVec 7) (o : BitVec 8)
  /-- ST_D (R206). -/
  | stD (g : BitVec 4) (d : BitVec 7) (b : BitVec 7) (o : BitVec 8)
  /-- ST_Q (R206). -/
  | stQ (g : BitVec 4) (d : BitVec 7) (b : BitVec 7) (o : BitVec 8)
  /-- ST_O (R206). -/
  | stO (g : BitVec 4) (d : BitVec 7) (b : BitVec 7) (o : BitVec 8)
  /-- ST_W_REL (R193). -/
  | stWRel (g : BitVec 4) (d : BitVec 7) (b : BitVec 7) (o : BitVec 8)
  /-- ST_D_REL (R193). -/
  | stDRel (g : BitVec 4) (d : BitVec 7) (b : BitVec 7) (o : BitVec 8)
  /-- LDRO_W (R196). -/
  | ldroW (g : BitVec 4) (d : BitVec 7) (b : BitVec 7) (o : BitVec 8)
  /-- LDRO_D (R196). -/
  | ldroD (g : BitVec 4) (d : BitVec 7) (b : BitVec 7) (o : BitVec 8)
  /-- LDRO_Q (R196). -/
  | ldroQ (g : BitVec 4) (d : BitVec 7) (b : BitVec 7) (o : BitVec 8)
  /-- LDRO_O (R196). -/
  | ldroO (g : BitVec 4) (d : BitVec 7) (b : BitVec 7) (o : BitVec 8)
  /-- STNC_D (R195). -/
  | stncD (g : BitVec 4) (d : BitVec 7) (b : BitVec 7) (o : BitVec 8)
  /-- STNC_Q (R195). -/
  | stncQ (g : BitVec 4) (d : BitVec 7) (b : BitVec 7) (o : BitVec 8)
  /-- STNC_O (R195). -/
  | stncO (g : BitVec 4) (d : BitVec 7) (b : BitVec 7) (o : BitVec 8)
  /-- LDS (R207). -/
  | lds (g : BitVec 4) (d : BitVec 7) (b : BitVec 7) (z : BitVec 2) (o : BitVec 6)
  /-- STS (R207). -/
  | sts (g : BitVec 4) (d : BitVec 7) (b : BitVec 7) (z : BitVec 2) (o : BitVec 6)
  /-- VLD (R208). -/
  | vld (g : BitVec 4) (v : BitVec 7) (b : BitVec 7) (r : BitVec 3) (f : BitVec 1) (o : BitVec 4)
  /-- VST (R208). -/
  | vst (g : BitVec 4) (v : BitVec 7) (b : BitVec 7) (r : BitVec 3) (f : BitVec 1) (o : BitVec 4)
  /-- VLDS (R209). -/
  | vlds (g : BitVec 4) (v : BitVec 7) (b : BitVec 7) (o : BitVec 8)
  /-- VSTS (R209). -/
  | vsts (g : BitVec 4) (v : BitVec 7) (b : BitVec 7) (o : BitVec 8)
  /-- AMO_W (R210). -/
  | amoW (g : BitVec 4) (d : BitVec 7) (b : BitVec 7) (c : BitVec 4) (o : BitVec 2) (s : BitVec 2)
  /-- AMO_D (R210). -/
  | amoD (g : BitVec 4) (d : BitVec 7) (b : BitVec 7) (c : BitVec 4) (o : BitVec 2) (s : BitVec 2)
  /-- CAS_W (R210). -/
  | casW (g : BitVec 4) (d : BitVec 7) (b : BitVec 7) (o : BitVec 2) (s : BitVec 2)
  /-- CAS_D (R210). -/
  | casD (g : BitVec 4) (d : BitVec 7) (b : BitVec 7) (o : BitVec 2) (s : BitVec 2)
  /-- XADD (R211). -/
  | xadd (g : BitVec 4) (d : BitVec 7) (b : BitVec 7) (w : BitVec 1)
  /-- XGET (R211). -/
  | xget (g : BitVec 4) (d : BitVec 7) (b : BitVec 7) (r : BitVec 1)
  /-- FENCE (R194). -/
  | fence (g : BitVec 4) (k : BitVec 3) (s : BitVec 3)
  /-- PRF (R212). -/
  | prf (g : BitVec 4) (b : BitVec 7) (o : BitVec 8)
  /-- PROBE (R212). -/
  | probe (g : BitVec 4) (d : BitVec 7)
  /-- VADD (R245). -/
  | vadd (k : BitVec 3) (g : BitVec 2) (d : BitVec 7) (a : BitVec 7) (b : BitVec 7)
  /-- VSUB (R245). -/
  | vsub (k : BitVec 3) (g : BitVec 2) (d : BitVec 7) (a : BitVec 7) (b : BitVec 7)
  /-- VMUL (R245). -/
  | vmul (k : BitVec 3) (g : BitVec 2) (d : BitVec 7) (a : BitVec 7) (b : BitVec 7)
  /-- VFMA (R245). -/
  | vfma (k : BitVec 3) (g : BitVec 2) (d : BitVec 7) (a : BitVec 7) (b : BitVec 7)
  /-- VFMS (R245). -/
  | vfms (k : BitVec 3) (g : BitVec 2) (d : BitVec 7) (a : BitVec 7) (b : BitVec 7)
  /-- VMIN (R247). -/
  | vmin (k : BitVec 3) (g : BitVec 2) (d : BitVec 7) (a : BitVec 7) (b : BitVec 7)
  /-- VMAX (R247). -/
  | vmax (k : BitVec 3) (g : BitVec 2) (d : BitVec 7) (a : BitVec 7) (b : BitVec 7)
  /-- VABS (R247). -/
  | vabs (k : BitVec 3) (g : BitVec 2) (d : BitVec 7) (a : BitVec 7)
  /-- VNEG (R247). -/
  | vneg (k : BitVec 3) (g : BitVec 2) (d : BitVec 7) (a : BitVec 7)
  /-- VCLAMP (R248). -/
  | vclamp (k : BitVec 3) (g : BitVec 2) (d : BitVec 7) (a : BitVec 7) (b : BitVec 7)
  /-- VAND (R249). -/
  | vand (k : BitVec 3) (g : BitVec 2) (d : BitVec 7) (a : BitVec 7) (b : BitVec 7)
  /-- VOR (R249). -/
  | vor (k : BitVec 3) (g : BitVec 2) (d : BitVec 7) (a : BitVec 7) (b : BitVec 7)
  /-- VXOR (R249). -/
  | vxor (k : BitVec 3) (g : BitVec 2) (d : BitVec 7) (a : BitVec 7) (b : BitVec 7)
  /-- VSHL (R249). -/
  | vshl (k : BitVec 3) (g : BitVec 2) (d : BitVec 7) (a : BitVec 7) (b : BitVec 7)
  /-- VSHR (R249). -/
  | vshr (k : BitVec 3) (g : BitVec 2) (d : BitVec 7) (a : BitVec 7) (b : BitVec 7)
  /-- VSRA (R249). -/
  | vsra (k : BitVec 3) (g : BitVec 2) (d : BitVec 7) (a : BitVec 7) (b : BitVec 7)
  /-- VCMP (R251). -/
  | vcmp (k : BitVec 3) (g : BitVec 2) (c : BitVec 4) (q : BitVec 3) (a : BitVec 7) (b : BitVec 7)
  /-- VSEL (R252). -/
  | vsel (k : BitVec 3) (g : BitVec 2) (d : BitVec 7) (a : BitVec 7) (b : BitVec 7)
  /-- VMOV (R252). -/
  | vmov (k : BitVec 3) (g : BitVec 2) (d : BitVec 7) (a : BitVec 7)
  /-- VBCS (R252). -/
  | vbcs (k : BitVec 3) (g : BitVec 2) (d : BitVec 7) (b : BitVec 7)
  /-- VLANE (R252). -/
  | vlane (k : BitVec 3) (g : BitVec 2) (d : BitVec 7)
  /-- VADD_S (R245). -/
  | vaddS (k : BitVec 3) (g : BitVec 2) (d : BitVec 7) (a : BitVec 7) (b : BitVec 7)
  /-- VSUB_S (R245). -/
  | vsubS (k : BitVec 3) (g : BitVec 2) (d : BitVec 7) (a : BitVec 7) (b : BitVec 7)
  /-- VMUL_S (R245). -/
  | vmulS (k : BitVec 3) (g : BitVec 2) (d : BitVec 7) (a : BitVec 7) (b : BitVec 7)
  /-- VFMA_S (R245). -/
  | vfmaS (k : BitVec 3) (g : BitVec 2) (d : BitVec 7) (a : BitVec 7) (b : BitVec 7)
  /-- VFMS_S (R245). -/
  | vfmsS (k : BitVec 3) (g : BitVec 2) (d : BitVec 7) (a : BitVec 7) (b : BitVec 7)
  /-- VMIN_S (R247). -/
  | vminS (k : BitVec 3) (g : BitVec 2) (d : BitVec 7) (a : BitVec 7) (b : BitVec 7)
  /-- VMAX_S (R247). -/
  | vmaxS (k : BitVec 3) (g : BitVec 2) (d : BitVec 7) (a : BitVec 7) (b : BitVec 7)
  /-- VCLAMP_S (R248). -/
  | vclampS (k : BitVec 3) (g : BitVec 2) (d : BitVec 7) (a : BitVec 7) (b : BitVec 7)
  /-- VAND_S (R249). -/
  | vandS (k : BitVec 3) (g : BitVec 2) (d : BitVec 7) (a : BitVec 7) (b : BitVec 7)
  /-- VOR_S (R249). -/
  | vorS (k : BitVec 3) (g : BitVec 2) (d : BitVec 7) (a : BitVec 7) (b : BitVec 7)
  /-- VXOR_S (R249). -/
  | vxorS (k : BitVec 3) (g : BitVec 2) (d : BitVec 7) (a : BitVec 7) (b : BitVec 7)
  /-- VSHL_S (R249). -/
  | vshlS (k : BitVec 3) (g : BitVec 2) (d : BitVec 7) (a : BitVec 7) (b : BitVec 7)
  /-- VSHR_S (R249). -/
  | vshrS (k : BitVec 3) (g : BitVec 2) (d : BitVec 7) (a : BitVec 7) (b : BitVec 7)
  /-- VSRA_S (R249). -/
  | vsraS (k : BitVec 3) (g : BitVec 2) (d : BitVec 7) (a : BitVec 7) (b : BitVec 7)
  /-- VCMP_S (R251). -/
  | vcmpS (k : BitVec 3) (g : BitVec 2) (c : BitVec 4) (q : BitVec 3) (a : BitVec 7) (b : BitVec 7)
  /-- VSEL_S (R252). -/
  | vselS (k : BitVec 3) (g : BitVec 2) (d : BitVec 7) (a : BitVec 7) (b : BitVec 7)
  /-- VEXP (R254). -/
  | vexp (k : BitVec 3) (g : BitVec 2) (d : BitVec 7) (a : BitVec 7)
  /-- VLOG (R254). -/
  | vlog (k : BitVec 3) (g : BitVec 2) (d : BitVec 7) (a : BitVec 7)
  /-- VTANH (R254). -/
  | vtanh (k : BitVec 3) (g : BitVec 2) (d : BitVec 7) (a : BitVec 7)
  /-- VSIG (R254). -/
  | vsig (k : BitVec 3) (g : BitVec 2) (d : BitVec 7) (a : BitVec 7)
  /-- VGELU (R254). -/
  | vgelu (k : BitVec 3) (g : BitVec 2) (d : BitVec 7) (a : BitVec 7)
  /-- VSILU (R254). -/
  | vsilu (k : BitVec 3) (g : BitVec 2) (d : BitVec 7) (a : BitVec 7)
  /-- VRSQRT (R254). -/
  | vrsqrt (k : BitVec 3) (g : BitVec 2) (d : BitVec 7) (a : BitVec 7)
  /-- VSQRT (R254). -/
  | vsqrt (k : BitVec 3) (g : BitVec 2) (d : BitVec 7) (a : BitVec 7)
  /-- VRCP (R254). -/
  | vrcp (k : BitVec 3) (g : BitVec 2) (d : BitVec 7) (a : BitVec 7)
  /-- VRCPE (R255). -/
  | vrcpe (k : BitVec 3) (g : BitVec 2) (d : BitVec 7) (a : BitVec 7)
  /-- VRCPN (R256). -/
  | vrcpn (k : BitVec 3) (g : BitVec 2) (d : BitVec 7) (a : BitVec 7) (b : BitVec 7)
  /-- VRSQE (R255). -/
  | vrsqe (k : BitVec 3) (g : BitVec 2) (d : BitVec 7) (a : BitVec 7)
  /-- VRSQN (R256). -/
  | vrsqn (k : BitVec 3) (g : BitVec 2) (d : BitVec 7) (a : BitVec 7) (b : BitVec 7)
  /-- VCVT (R257). -/
  | vcvt (k : BitVec 3) (g : BitVec 2) (d : BitVec 7) (a : BitVec 7) (r : BitVec 1) (u : BitVec 6)
  /-- VPERM (R258). -/
  | vperm (k : BitVec 3) (g : BitVec 2) (d : BitVec 7) (a : BitVec 7) (b : BitVec 7)
  /-- VSLIDE (R258). -/
  | vslide (k : BitVec 3) (g : BitVec 2) (d : BitVec 7) (a : BitVec 7) (b : BitVec 7)
  /-- VSORT (R259). -/
  | vsort (k : BitVec 3) (g : BitVec 2) (d : BitVec 7) (a : BitVec 7)
  /-- VRED (R260). -/
  | vred (k : BitVec 3) (g : BitVec 2) (d : BitVec 7) (a : BitVec 7)
  /-- MPUSH (R261). -/
  | mpush (g : BitVec 2) (q : BitVec 3)
  /-- MINV (R261). -/
  | minv (g : BitVec 2)
  /-- MPOP (R261). -/
  | mpop (g : BitVec 2)
  /-- MSET (R261). -/
  | mset (g : BitVec 2) (t : BitVec 1) (q : BitVec 3) (a : BitVec 7)
  /-- MGET (R261). -/
  | mget (g : BitVec 2) (d : BitVec 7) (t : BitVec 1) (q : BitVec 3)
  /-- VSLIDE_S (R258). -/
  | vslideS (k : BitVec 3) (g : BitVec 2) (d : BitVec 7) (a : BitVec 7) (b : BitVec 7)
  /-- MCFG (R266). -/
  | mcfg (g : BitVec 4) (a : BitVec 7) (b : BitVec 7)
  /-- CPL (R277). -/
  | cpl (g : BitVec 4) (a : BitVec 7) (l : BitVec 4)
  /-- MLD (R278). -/
  | mld (g : BitVec 4) (a : BitVec 7) (c : BitVec 1)
  /-- MMK (R280). -/
  | mmk (g : BitVec 4) (a : BitVec 7) (b : BitVec 7) (z : BitVec 1)
  /-- MMC (R281). -/
  | mmc (g : BitVec 4) (a : BitVec 7) (b : BitVec 7) (z : BitVec 1)
  /-- MSP (R282). -/
  | msp (g : BitVec 4) (a : BitVec 7) (b : BitVec 7) (z : BitVec 1) (n : BitVec 2)
  /-- MDP (R283). -/
  | mdp (g : BitVec 4) (a : BitVec 7)
  /-- MDR (R284). -/
  | mdr (g : BitVec 4) (a : BitVec 7) (b : BitVec 7) (s : BitVec 7)
  /-- MSTR (R288). -/
  | mstr (g : BitVec 4) (a : BitVec 7) (b : BitVec 7) (s : BitVec 7)
  /-- MZERO (R279). -/
  | mzero (g : BitVec 4)
  /-- MTAB (R289). -/
  | mtab (g : BitVec 4) (a : BitVec 7) (b : BitVec 7)
  /-- MHIST (R290). -/
  | mhist (g : BitVec 4) (a : BitVec 7) (b : BitVec 7) (r : BitVec 1) (c : BitVec 1) (l : BitVec 1)
  /-- MBIND (R291). -/
  | mbind (g : BitVec 4) (a : BitVec 7) (t : BitVec 2) (y : BitVec 6)
  /-- MST (R292). -/
  | mst (g : BitVec 4) (a : BitVec 7)
  /-- MFENCE (R296). -/
  | mfence (g : BitVec 4)
  /-- CPY (R220). -/
  | cpy (g : BitVec 4) (a : BitVec 7) (b : BitVec 7) (h : BitVec 8)
  /-- CPYT (R221). -/
  | cpyt (g : BitVec 4) (a : BitVec 7) (b : BitVec 7) (h : BitVec 8)
  /-- CPYX (R222). -/
  | cpyx (g : BitVec 4) (a : BitVec 7) (b : BitVec 7) (h : BitVec 8)
  /-- CPYC (R223). -/
  | cpyc (g : BitVec 4) (a : BitVec 7) (b : BitVec 7) (h : BitVec 8)
  /-- BARM (R217). -/
  | barm (g : BitVec 4) (a : BitVec 7) (b : BitVec 7) (h : BitVec 8)
  /-- BARR (R217). -/
  | barr (g : BitVec 4) (a : BitVec 7) (h : BitVec 8)
  /-- BQ (R217). -/
  | bq (g : BitVec 4) (a : BitVec 7)
  /-- QINIT (R330). -/
  | qinit (g : BitVec 4) (a : BitVec 7) (b : BitVec 7) (h : BitVec 8)
  /-- QADD (R331). -/
  | qadd (g : BitVec 4) (a : BitVec 7) (b : BitVec 7) (h : BitVec 8)
  /-- QMERGE (R311). -/
  | qmerge (g : BitVec 4) (a : BitVec 7) (b : BitVec 7) (h : BitVec 8)
  /-- QMERGEAT (R326). -/
  | qmergeat (g : BitVec 4) (a : BitVec 7) (b : BitVec 7) (h : BitVec 8)
  /-- QQUERY (R312). -/
  | qquery (g : BitVec 4) (a : BitVec 7) (b : BitVec 7) (h : BitVec 8)
  /-- MMERGE (R306). -/
  | mmerge (g : BitVec 4) (a : BitVec 7) (b : BitVec 7) (h : BitVec 8)
  /-- HINIT (R330). -/
  | hinit (g : BitVec 4) (a : BitVec 7) (h : BitVec 8)
  /-- HADD (R314). -/
  | hadd (g : BitVec 4) (a : BitVec 7) (b : BitVec 7) (h : BitVec 8)
  /-- HMERGE (R315). -/
  | hmerge (g : BitVec 4) (a : BitVec 7) (b : BitVec 7) (h : BitVec 8)
  /-- HTOP (R316). -/
  | htop (g : BitVec 4) (a : BitVec 7) (b : BitVec 7) (h : BitVec 8)
  /-- DINIT (R330). -/
  | dinit (g : BitVec 4) (a : BitVec 7) (b : BitVec 7) (h : BitVec 8)
  /-- DADD (R318). -/
  | dadd (g : BitVec 4) (a : BitVec 7) (b : BitVec 7) (h : BitVec 8)
  /-- DMERGE (R319). -/
  | dmerge (g : BitVec 4) (a : BitVec 7) (b : BitVec 7) (h : BitVec 8)
  /-- DEST (R320). -/
  | dest (g : BitVec 4) (a : BitVec 7) (h : BitVec 8)
  /-- STOPEN (R342). -/
  | stopen (g : BitVec 4) (a : BitVec 7) (b : BitVec 7) (h : BitVec 8)
  /-- STLD (R343). -/
  | stld (g : BitVec 4) (a : BitVec 7) (b : BitVec 7) (h : BitVec 8)
  /-- STST (R336). -/
  | stst (g : BitVec 4) (a : BitVec 7) (b : BitVec 7) (h : BitVec 8)
  /-- STMARK (R338). -/
  | stmark (g : BitVec 4) (a : BitVec 7) (h : BitVec 8)
  /-- STBACK (R339). -/
  | stback (g : BitVec 4) (a : BitVec 7) (b : BitVec 7) (h : BitVec 8)
  /-- STFORK (R340). -/
  | stfork (g : BitVec 4) (a : BitVec 7) (b : BitVec 7) (h : BitVec 8)
  /-- STPIN (R341). -/
  | stpin (g : BitVec 4) (a : BitVec 7) (b : BitVec 7) (h : BitVec 8)
  /-- STCLOSE (R342). -/
  | stclose (g : BitVec 4) (a : BitVec 7) (h : BitVec 8)
  /-- STQ (R352). -/
  | stq (g : BitVec 4) (a : BitVec 7) (b : BitVec 7)
  /-- MIG (R376). -/
  | mig (g : BitVec 4) (a : BitVec 7) (b : BitVec 7) (h : BitVec 8)
  /-- PKSET (R377). -/
  | pkset (g : BitVec 4) (a : BitVec 7) (b : BitVec 7)
  /-- OWN (R378). -/
  | own (g : BitVec 4) (a : BitVec 7)
  /-- OCINV (R379). -/
  | ocinv (g : BitVec 4) (a : BitVec 7) (b : BitVec 7) (h : BitVec 8)
  /-- LRENEW (R361). -/
  | lrenew (g : BitVec 4) (h : BitVec 8)
  /-- HNOTE (R447). -/
  | hnote (g : BitVec 4) (a : BitVec 7) (b : BitVec 7) (h : BitVec 8)
  /-- HINTR (R447). -/
  | hintr (g : BitVec 4) (a : BitVec 7) (h : BitVec 8)
  /-- GATH (R386). -/
  | gath (g : BitVec 4) (a : BitVec 7) (h : BitVec 8)
  /-- SCAT (R386). -/
  | scat (g : BitVec 4) (a : BitVec 7) (h : BitVec 8)
  /-- SCATA (R386). -/
  | scata (g : BitVec 4) (a : BitVec 7) (h : BitVec 8)
  /-- FQREAD (R393). -/
  | fqread (g : BitVec 4) (a : BitVec 7) (b : BitVec 7) (h : BitVec 8)
  /-- FREP (R391). -/
  | frep (g : BitVec 4) (a : BitVec 7)
  /-- FDROP (R391). -/
  | fdrop (g : BitVec 4) (a : BitVec 7) (b : BitVec 7)
  /-- WLNEW (R395). -/
  | wlnew (g : BitVec 4) (a : BitVec 7) (b : BitVec 7) (h : BitVec 8)
  /-- WLPUSH (R396). -/
  | wlpush (g : BitVec 4) (a : BitVec 7) (h : BitVec 8)
  /-- WLPOP (R396). -/
  | wlpop (g : BitVec 4) (a : BitVec 7) (h : BitVec 8)
  /-- WLINS (R397). -/
  | wlins (g : BitVec 4) (a : BitVec 7) (b : BitVec 7) (h : BitVec 8)
  /-- WLSTAT (R398). -/
  | wlstat (g : BitVec 4) (a : BitVec 7)
  /-- CQSEND (R425). -/
  | cqsend (g : BitVec 4) (a : BitVec 7) (b : BitVec 7) (h : BitVec 8)
  /-- CST (R434). -/
  | cst (g : BitVec 4) (a : BitVec 7) (b : BitVec 7)
  /-- COPEN (R408). -/
  | copen (g : BitVec 4) (a : BitVec 7) (b : BitVec 7) (h : BitVec 8)
  /-- CPUT (R423). -/
  | cput (g : BitVec 4) (a : BitVec 7) (h : BitVec 8)
  /-- CGET (R423). -/
  | cget (g : BitVec 4) (a : BitVec 7) (h : BitVec 8)
  /-- CRED (R419). -/
  | cred (g : BitVec 4) (a : BitVec 7) (h : BitVec 8)
  /-- CXF (R421). -/
  | cxf (g : BitVec 4) (a : BitVec 7) (h : BitVec 8)
  /-- CBAR (R419). -/
  | cbar (g : BitVec 4) (a : BitVec 7) (h : BitVec 8)
  /-- CSMP (R428). -/
  | csmp (g : BitVec 4) (a : BitVec 7) (h : BitVec 8)
  /-- CSTR (R424). -/
  | cstr (g : BitVec 4) (a : BitVec 7) (b : BitVec 7) (h : BitVec 8)
  /-- NOP (R46). -/
  | nop
  /-- RET (R157). -/
  | ret
  /-- SUSPEND (R140). -/
  | suspend
  /-- YIELD (R140). -/
  | yield
  /-- END (R140). -/
  | endTask
  /-- ERET (R164). -/
  | eret
  /-- HALT (R166). -/
  | halt
  /-- NOP_SCALAR (R46). -/
  | nopScalar
  /-- NOP_MEMORY (R46). -/
  | nopMemory
  /-- NOP_VECTOR0 (R46). -/
  | nopVector0
  /-- NOP_VECTOR1 (R46). -/
  | nopVector1
  /-- NOP_ARRAY (R46). -/
  | nopArray
  /-- NOP_ENGINE (R46). -/
  | nopEngine
  /-- BUNDLE_ISSUE (R42). -/
  | bundleIssue (g : Nat)
  /-- BUNDLE_FETCH (R148). -/
  | bundleFetch (g : Nat)
  /-- FAIRNESS_BOUND (R128). -/
  | fairnessBound (c : Nat)
  /-- LOAD_ANSWER (R189). -/
  | loadAnswer (id : Nat)
  /-- WRITE_ACKNOWLEDGEMENT (R187). -/
  | writeAcknowledgement (id : Nat)
  /-- STORE_REJECTION (R201). -/
  | storeRejection (id : Nat)
  /-- PROBE_ANSWER (R190). -/
  | probeAnswer (id : Nat)
  /-- DEPENDENCY_ENTRY_AGE_PROBE (R190). -/
  | dependencyEntryAgeProbe (g : Nat) (j : Nat)
  /-- CAUSAL_WRITE_APPLY (R363). -/
  | causalWriteApply (id : Nat)
  /-- READ_REQUEST_SERVE (R189). -/
  | readRequestServe (id : Nat)
  /-- PROBE_REQUEST_SERVE (R190). -/
  | probeRequestServe (id : Nat)
  /-- ATOMIC_UPDATE_SERVE (R198). -/
  | atomicUpdateServe (id : Nat)
  /-- WRITE_RESEND_TIMEOUT (R364). -/
  | writeResendTimeout (id : Nat)
  /-- TARGET_UNREACHABLE (R364). -/
  | targetUnreachable (id : Nat)
  /-- GAZETTEER_ENTRY_EXPIRY (R362). -/
  | gazetteerEntryExpiry (d : Nat) (p : Nat)
  /-- HOME_OWNER_QUERY (R362). -/
  | homeOwnerQuery (id : Nat)
  /-- HOME_OWNER_ANSWER (R362). -/
  | homeOwnerAnswer (id : Nat)
  /-- REDIRECT (R370). -/
  | redirect (id : Nat)
  /-- NOT_HERE (R371). -/
  | notHere (id : Nat)
  /-- SIGNPOST_RELAY (R368). -/
  | signpostRelay (id : Nat)
  /-- WRITE_RESOLUTION (R371). -/
  | writeResolution (id : Nat)
  /-- LINEAGE_FRONTIER_REPORT (R365). -/
  | lineageFrontierReport (d : Nat) (p : Nat) (t : Nat)
  /-- SIGNPOST_RETIREMENT (R369). -/
  | signpostRetirement (d : Nat) (p : Nat)
  /-- LINEAGE_DROP (R369). -/
  | lineageDrop (d : Nat) (p : Nat)
  /-- SIGNPOST_REMOVE (R369). -/
  | signpostRemove (d : Nat) (p : Nat)
  /-- MIGRATION_REQUEST (R366). -/
  | migrationRequest (k : Nat)
  /-- MIGRATION_COPY_ROUND (R367). -/
  | migrationCopyRound (k : Nat)
  /-- MIGRATION_FREEZE (R367). -/
  | migrationFreeze (k : Nat)
  /-- FREEZE_TIMEOUT (R367). -/
  | freezeTimeout (k : Nat)
  /-- MIGRATION_CUTOVER (R367). -/
  | migrationCutover (k : Nat)
  /-- MIGRATION_COMPLETE (R376). -/
  | migrationComplete (k : Nat)
  /-- LEASE_REQUEST (R359). -/
  | leaseRequest (d : Nat) (u : Nat) (p : Nat)
  /-- LEASE_RELEASE (R359). -/
  | leaseRelease (d : Nat) (u : Nat) (p : Nat)
  /-- HA_UOP_WRITE_LEAF (R357). -/
  | haUopWriteLeaf (m : Nat) (d : Nat)
  /-- HA_UOP_CREATE (R357). -/
  | haUopCreate (m : Nat) (d : Nat)
  /-- HA_UOP_REMOVE (R357). -/
  | haUopRemove (m : Nat) (d : Nat)
  /-- HOME_RECORD_CREATE (R357). -/
  | homeRecordCreate (d : Nat)
  /-- HOST_GRAPH_SUBMIT (R442). -/
  | hostGraphSubmit (m : Nat) (d : Nat) (v : BitVec 64)
  /-- HOST_GRAPH_DISABLE (R442). -/
  | hostGraphDisable (m : Nat) (d : Nat) (v : BitVec 64)
  /-- TASK_PLACEMENT (R126). -/
  | taskPlacement (d : Nat) (u : Nat)
  /-- PASSED_OVER_RESERVATION (R126). -/
  | passedOverReservation (d : Nat) (u : Nat)
  /-- TASK_LAUNCH (R116). -/
  | taskLaunch (d : Nat) (u : Nat)
  /-- RESIDENCY_REFUSED (R123). -/
  | residencyRefused (d : Nat) (u : Nat)
  /-- RECORD_WRITE_BACK (R141). -/
  | recordWriteBack (d : Nat) (u : Nat)
  /-- OVERFLOW_QUEUE_REFILL (R125). -/
  | overflowQueueRefill (d : Nat)
  /-- CONDITIONAL_NODE_RUN (R135). -/
  | conditionalNodeRun (d : Nat) (u : Nat)
  /-- COPY_NODE_RUN (R230). -/
  | copyNodeRun (d : Nat) (u : Nat)
  /-- COLLECTIVE_NODE_RUN (R410). -/
  | collectiveNodeRun (d : Nat) (u : Nat)
  /-- NOTIFY_NODE_RUN (R444). -/
  | notifyNodeRun (d : Nat) (u : Nat)
  /-- JOIN_NODE_END (R118). -/
  | joinNodeEnd (d : Nat) (u : Nat)
  /-- QUANTUM_EXPIRY (R129). -/
  | quantumExpiry (d : Nat) (u : Nat)
  /-- HOST_PREEMPTION_REQUEST (R129). -/
  | hostPreemptionRequest (d : Nat) (u : Nat) (drain : Bool)
  /-- PREEMPTION_TAKE_EFFECT (R130). -/
  | preemptionTakeEffect (g : Nat)
  /-- SAVE_COMPLETE (R133). -/
  | saveComplete (g : Nat)
  /-- SPAWN_ANSWER (R139). -/
  | spawnAnswer (g : Nat)
  /-- WAIT_COMPLETE (R160). -/
  | waitComplete (g : Nat)
  /-- WAIT_TIMEOUT (R160). -/
  | waitTimeout (g : Nat)
  /-- COPY_COMMAND_START (R213). -/
  | copyCommandStart (c : Nat) (ch : Nat)
  /-- COPY_UNIT_CREDIT (R224). -/
  | copyUnitCredit (c : Nat) (ch : Nat) (k : Nat)
  /-- COPY_FAULT (R225). -/
  | copyFault (c : Nat) (ch : Nat) (k : Nat)
  /-- COPY_COMMAND_LEAVE (R224). -/
  | copyCommandLeave (c : Nat) (ch : Nat) (k : Nat)
  /-- SURVEY_COMMAND_RUN (R322). -/
  | surveyCommandRun (c : Nat)
  /-- QMERGEAT_OWNER_APPLY (R326). -/
  | qmergeatOwnerApply (id : Nat)
  /-- QMERGEAT_ACK (R326). -/
  | qmergeatAck (id : Nat)
  /-- TAP_ROW_INSERT (R325). -/
  | tapRowInsert (c : Nat)
  /-- ARRAY_INSTRUCTION_START (R293). -/
  | arrayInstructionStart (c : Nat)
  /-- ARRAY_PASS_INTERRUPT (R297). -/
  | arrayPassInterrupt (c : Nat)
  /-- ARRAY_INSTRUCTION_COMPLETE (R296). -/
  | arrayInstructionComplete (c : Nat)
  /-- ARRAY_RELEASE (R264). -/
  | arrayRelease (c : Nat)
  /-- STREAM_ROW_CREDIT (R424). -/
  | streamRowCredit (c : Nat) (k : Nat)
  /-- STATE_COMMAND_APPLY (R347). -/
  | stateCommandApply (d : Nat)
  /-- ST_WATCH_ARM (R344). -/
  | stWatchArm (m : Nat) (d : Nat) (v : BitVec 64)
  /-- ST_WATCH_DISARM (R344). -/
  | stWatchDisarm (m : Nat) (d : Nat) (v : BitVec 64)
  /-- INDEX_ELEMENT_ISSUE (R385). -/
  | indexElementIssue (c : Nat) (k : Nat)
  /-- INDEX_ELEMENT_ARRIVAL (R386). -/
  | indexElementArrival (c : Nat) (k : Nat) (e : Nat)
  /-- ELEMENT_PARK (R388). -/
  | elementPark (c : Nat) (k : Nat) (e : Nat)
  /-- BITMAP_TEST_AND_SET (R397). -/
  | bitmapTestAndSet (c : Nat) (k : Nat) (e : Nat)
  /-- CONTRIBUTION_SEND (R429). -/
  | contributionSend (d : Nat) (k : Nat)
  /-- SLOT_CONTRIBUTION_ARRIVAL (R411). -/
  | slotContributionArrival (id : Nat)
  /-- CONTRIBUTION_REFUSED_RESEND (R411). -/
  | contributionRefusedResend (id : Nat)
  /-- SLOT_TIMEOUT (R414). -/
  | slotTimeout (i : Nat)
  /-- LATE_WINDOW_END (R414). -/
  | lateWindowEnd (i : Nat)
  /-- RESULT_DELIVERY (R415). -/
  | resultDelivery (id : Nat)
  /-- COLLECTIVE_COMPLETE (R419). -/
  | collectiveComplete (d : Nat) (k : Nat)
  /-- QUEUE_MESSAGE_ARRIVAL (R425). -/
  | queueMessageArrival (id : Nat)
  /-- QUEUE_MESSAGE_RESEND (R425). -/
  | queueMessageResend (id : Nat)
  /-- CG_GROUP_CREATE (R407). -/
  | cgGroupCreate (m : Nat) (d : Nat) (v : BitVec 64)
  /-- CG_GROUP_DELETE (R407). -/
  | cgGroupDelete (m : Nat) (d : Nat) (v : BitVec 64)
  /-- PORT_LINK_DOWN (R406). -/
  | portLinkDown (d : Nat) (k : Nat)
  /-- PORT_LINK_UP (R406). -/
  | portLinkUp (d : Nat) (k : Nat)
  /-- BAR2_ACCESS (R439). -/
  | bar2Access (pk : Nat) (fn : Nat) (x : Nat) (wr : Bool) (n : Nat) (v : Nat)
  /-- BAR4_ACCESS (R440). -/
  | bar4Access (pk : Nat) (port : Nat) (x : Nat) (wr : Bool) (n : Nat) (v : Nat)
  /-- REGISTER_WRITE (R437). -/
  | registerWrite (m : Nat) (d : Nat) (off : Nat) (v : BitVec 64)
  /-- The read of a register by master m, which the table has with the writes of R437. -/
  | registerRead (m : Nat) (d : Nat) (off : Nat)
  /-- HOST_RUN_REQUEST (R442). -/
  | hostRunRequest (m : Nat) (c : Nat) (v : BitVec 64)
  /-- EVENT_SET_WRITE (R147). -/
  | eventSetWrite (m : Nat) (c : Nat) (v : BitVec 64)
  /-- EVENT_CLR_WRITE (R147). -/
  | eventClrWrite (m : Nat) (c : Nat) (v : BitVec 64)
  /-- PAGE_IN_REFUSE (R445). -/
  | pageInRefuse (m : Nat) (d : Nat) (v : BitVec 64)
  /-- HR_CFG1_WRITE (R443). -/
  | hrCfg1Write (m : Nat) (d : Nat) (v : BitVec 64)
  /-- HR_HEAD_WRITE (R445). -/
  | hrHeadWrite (m : Nat) (d : Nat) (v : BitVec 64)
  /-- RING_ENTRY_WRITE (R444). -/
  | ringEntryWrite (pk : Nat) (r : Nat)
  /-- RING_COALESCE_TIMEOUT (R446). -/
  | ringCoalesceTimeout (pk : Nat) (r : Nat)
  /-- SPAD_HASH_APPLY (R179). -/
  | spadHashApply (c : Nat)
  /-- ECC_CORRECTED (R448). -/
  | eccCorrected (d : Nat) (src : Nat) (a : Nat)
  /-- UNCORRECTABLE_ERROR (R448). -/
  | uncorrectableError (d : Nat) (src : Nat) (a : Nat)
  /-- IDLE_ENTRY (R450). -/
  | idleEntry (d : Nat)
  /-- IDLE_WAKE (R450). -/
  | idleWake (d : Nat)
  /-- DROOP_STRETCH (R451). -/
  | droopStretch (c : Nat)
  /-- DROOP_RELEASE (R451). -/
  | droopRelease (c : Nat)
  /-- COLD_RESET (R9). -/
  | coldReset (pk : Nat)
  /-- STAGE_MEASUREMENT (R452). -/
  | stageMeasurement (d : Nat) (i : Nat) (digest : Nat)
  /-- ATTESTATION_REQUEST (R453). -/
  | attestationRequest (m : Nat) (d : Nat) (nonce : Nat)
  /-- MC_POWER_ON (R454). -/
  | mcPowerOn (pk : Nat)
  /-- MC_POWER_OFF (R454). -/
  | mcPowerOff (pk : Nat)
  /-- MC_COLD_RESET (R454). -/
  | mcColdReset (pk : Nat)
  /-- MC_READ_ERRORS (R454). -/
  | mcReadErrors (pk : Nat)
  /-- MC_READ_SENSORS (R454). -/
  | mcReadSensors (pk : Nat)
  /-- MC_ATTESTATION (R454). -/
  | mcAttestation (d : Nat) (nonce : Nat)
  /-- MC_FIRMWARE_UPDATE (R454). -/
  | mcFirmwareUpdate (pk : Nat) (img : List (BitVec 8))
  /-- MC_SET_PACKAGE_NUMBER (R454). -/
  | mcSetPackageNumber (pk : Nat) (n : Nat)
  /-- REFERENCE_TICK (R147). -/
  | referenceTick
  /-- INDEX_COMMAND_APPLY (R381). -/
  | indexCommandApply (c : Nat) (k : Nat)
  /-- TEST_AND_SET_ANSWER (R397). -/
  | testAndSetAnswer (c : Nat) (k : Nat) (e : Nat)
  /-- TRANSFER_UNIT_CREDIT (R423). -/
  | transferUnitCredit (d : Nat) (k : Nat)
  /-- COLLECTIVE_COMMAND_START (R430). -/
  | collectiveCommandStart (d : Nat)
  /-- LEASE_RENEWAL_COMPLETE (R361). -/
  | leaseRenewalComplete (d : Nat) (u : Nat)
  /-- GAZETTEER_ENTRY_REPLACEMENT (R362). -/
  | gazetteerEntryReplacement (d : Nat) (p : Nat)
  /-- FLIT_RECEIVE_ERROR (R406). -/
  | flitReceiveError (d : Nat) (k : Nat)
deriving DecidableEq, Repr

/-- The part of the S0 word that belongs to the bundle and not to its S0 instruction: the pop mask (R53), and the issue mode with the
loop level it names (R55). In loop and loopi bits [17:13] are operands of the instruction instead (R60, R61). -/
structure Header where
  pop : BitVec 8
  mode : BitVec 2
  level : BitVec 3
deriving DecidableEq, Repr

/-- No queue popped, always issued. -/
def Header.none : Header := ⟨0, 0, 0⟩

/-- The slot of a bundle (R18); scalar units A and B share one opcode space (R62). -/
inductive Slot where
 | s0 | s1 | s2 | s3 | s4 | s5 | s6 | s7
deriving DecidableEq, Repr

/-- The number of a slot (R18). -/
def Slot.num : Slot → Nat
 | .s0 => 0 | .s1 => 1 | .s2 => 2 | .s3 => 3 | .s4 => 4 | .s5 => 5 | .s6 => 6 | .s7 => 7

/-- The opcode space a slot decodes by: S1 and S2 share one (R62, R71). -/
inductive Space where
 | control | scalar | memory | vector0 | vector1 | array | engine
deriving DecidableEq, Repr

def Slot.space : Slot → Space
 | .s0 => .control | .s1 => .scalar | .s2 => .scalar | .s3 => .memory | .s4 => .vector0 | .s5 => .vector1 | .s6 => .array | .s7 => .engine

end Sys2Proof
end

