-- ==== Sys2Proof/Machine/State.lean ====
section
/-! DEFINITION. The state of the machine as plain data. Every map is a list of keyed entries with rising keys; an unlisted key holds
what its accessor names. Numbers of dies, cores and contexts are domain-wide: die ID `d` (R14), core `c = d * 64 + core number`,
context `g = c * 4 + context number`. -/

namespace Sys2Proof.Machine

/-- Why a step stops. -/
inductive Fault where
  /-- Raised by an event of the agenda that names a die, core, context or package outside the domain of R2 (512 packages). Safe: the
  hardware has no such unit. -/
  | noSuchUnit
deriving DecidableEq, Repr

/-- Why an instruction has no meaning here. -/
inductive Refusal where
  /-- Raised by an arm of exec whose instruction is not modelled yet, by its mnemonic. Safe. -/
  | notModelled (mnemonic : String)
deriving DecidableEq, Repr

/-- A list of keyed entries. -/
abbrev Map (α : Type) := List (Nat × α)

/-- A pending-set entry: a write of `origin` to `target` and all before it (R188). -/
structure Ent where
  origin : Nat
  target : Nat
  seq : Nat
deriving DecidableEq, Repr

/-- A dependency entry, with the tick since which it is held and whether a probe for it is under way (R188, R190). -/
structure Dep where
  ent : Ent
  since : Nat
  probing : Bool
  /-- the token of the earliest load that brought it (the model's own; log 23). -/
  brought : Nat
deriving DecidableEq, Repr

/-- A loop level: loop.count.n (R153) and the VA of the first bundle of its body (R167). -/
structure Level where
  act : Bool
  stg : Nat
  len : Nat
  iter : Nat
  count : Nat
  start : W64
deriving DecidableEq, Repr

/-- A wait in progress: the tick of its first consideration and the conditions seen true (R160). -/
structure WaitSt where
  t0 : Nat
  seen : Nat
deriving DecidableEq, Repr

/-- A pending deferred trap: trap.info, the VA of the faulting command's bundle (R34, R167), the token of the command when it reports
to l5, and the core rows, the scratchpad bytes (offset and length) and the global bytes (IA and length) it writes: results whose reading
raises it (R34). -/
structure Deferred where
  info : W64
  va : W64
  l5 : Option Nat
  rows : List Nat
  spad : List (Nat × Nat)
  mem : List (Nat × Nat)
deriving DecidableEq, Repr

/-- A poison mark: the cause that a read raises and its trap.info (R36, R200). -/
structure Poison where
  cause : Nat
  info : W64
deriving DecidableEq, Repr

/-- How the bytes of an answered load become register values (R206, R210, R211). -/
inductive LoadKind where
  /-- n bytes, sign-extended or zero-extended into the listed registers, 8 bytes each. -/
  | scalar (n : Nat) (signed : Bool) (regs : List Nat)
  /-- the rounded form of xget. -/
  | cell (reg : Nat)
  /-- a row of the bound tile: row number of the core, lane type, page format, MX block form, rounding, overflow, draw start, key. -/
  | row (r : Nat) (t f : Nat) (mx : Bool) (rnd : Nat) (ovf : Bool) (draw : Nat) (seed : Nat)
  /-- the read-only cache alone (prf, R212). -/
  | cacheOnly
deriving DecidableEq, Repr

/-- A load of a context whose answers have not all returned. -/
structure Load where
  kind : LoadKind
  /-- the requests still awaited, each with the offset of its bytes in the result. -/
  parts : Map Nat
  /-- the bytes that have returned, by offset. -/
  buf : Map (List Byte)
  denial : Option Poison
  acquire : Bool
  /-- fills the read-only cache (R196). -/
  ro : Bool
  /-- bytes of the first sector before the first byte wanted. -/
  skip : Nat
deriving DecidableEq, Repr

/-- The state of a context (R133). -/
inductive Life where
  | free | reserved | active | saving
deriving DecidableEq, Repr

/-- The trap registers (R162). -/
structure TrapRegs where
  cause : W64
  pc : W64
  info : W64
  vec : W64
  keep0 : W64
  keep1 : W64
deriving DecidableEq, Repr

/-- What a context holds of an asynchronous command it issued to l5 (R26): the token of its last-issued writer. -/
structure L5 where
  tok : Nat
  waiting : Bool
deriving DecidableEq, Repr

/-- A bundle fetched ahead (R148): its bytes with the key and the IA of its page, or the cause its fetch raises with trap.info. -/
inductive Fetched where
  | bytes (bs : List Byte) (key ia : Nat)
  | failed (cause : Nat) (info : W64)
deriving DecidableEq, Repr

/-- Why a task has left its context and awaits its write-back (R140, R141). -/
inductive Stop where
  | suspend | yield | ended | faulted (code : Nat)
deriving DecidableEq, Repr

/-- The state of one context (R31). -/
structure Ctx where
  /-- s0-s63, o0-o15, l0-l5 by their specifier number (R50, R143); unlisted 0. -/
  regs : Map W64
  pc : W64
  /-- p7-p0, p0 reads 1 (R147). -/
  pred : BitVec 8
  /-- m1-m7 (R238); unlisted 0. -/
  masks : Map W512
  /-- the mask stack, top first (R239). -/
  mstack : List W512
  levels : Map Level
  /-- the loop nest as it stood at the entry of the handler, by which issue modes go while trap.cause.act is 1 (R162). -/
  entryLevels : Map Level
  /-- loop.stride.n.k by 4n + k (R153); unlisted 0. -/
  strides : Map W64
  /-- wait descriptor words by 8 * descriptor + word (R159); unlisted 0. -/
  wd : Map W64
  wdSel : W64
  trap : TrapRegs
  fpstat : W64
  seed : W64
  seedCtr : W64
  pkr : W64
  shadowBase : W64
  shadowTop : W64
  vbind : W64
  vrot : W64
  /-- window words by 2k and 2k + 1 (R175); unlisted 0. -/
  wnd : Map W64
  deps : List Dep
  loads : Map Load
  /-- registers, predicates (128 + k) and rows (256 + row) whose write is pending, with the token of the writer (R20, R145). -/
  pend : List (Nat × Nat)
  /-- l5's last-issued writer (R26). -/
  l5 : L5
  deferred : Map Deferred
  /-- poison marks of s, o and l registers (R200). -/
  poison : Map Poison
  /-- poisoned registers, and rows as 256 + row, whose cause has been raised: no synchronisation bundle raises it again (R34, R200). -/
  raised : List Nat
  /-- strides to be added to s60 to s63 when a pending write of them is made (R150). -/
  addends : Map W64
  /-- the bundle fetched last, with its VA (R45, R148). -/
  fetched : Option (W64 × Fetched)
  /-- a probe instruction under way: its destination, its count and its token (R26, R212). -/
  probeOp : Option (Nat × Nat × Nat)
  wait : Option WaitSt
  /-- a suspend or yield whose bundle, at this PC, has committed, while a load of the bundle is still to write s0 to s2 (R140). -/
  stopping : Option (W64 × Stop)
  life : Life
  halted : Bool
  /-- the task bound to the context, by its number in Compass of the die (R133). -/
  task : Option Nat
  /-- a pre-emption request: true when draining (R129, R130). -/
  preempt : Option Bool
  /-- unapplied state-store commands of this context (R337, R347). -/
  storeOut : Nat
deriving DecidableEq, Repr

/-- Every register at its reset value; where the manual prints none, 0 (log 2). -/
def Ctx.init : Ctx :=
  { regs := [], pc := 0, pred := 1, masks := [], mstack := [], levels := [], entryLevels := [], strides := [], wd := [], wdSel := 0,
    trap := ⟨0, 0, 0, 0, 0, 0⟩, fpstat := 0, seed := 0, seedCtr := 0, pkr := 0, shadowBase := 0, shadowTop := 0, vbind := 0,
    vrot := 0, wnd := [], deps := [], loads := [], pend := [], l5 := ⟨0, false⟩, deferred := [], poison := [], raised := [], addends := [], fetched := none, probeOp := none,
    wait := none, stopping := none, life := .free, halted := false, task := none, preempt := none, storeOut := 0 }

/-- A footprint region in force: mode 1 r, 2 w, 3 rw (R120). -/
structure Region where
  mode : Nat
  base : Nat
  len : Nat
deriving DecidableEq, Repr

/-- What an asynchronous command keeps of its issue (R26, R38, R100, R457): its context and task, its bundle's VA, its handle, its l5
token, the pending set of the context at that moment, its windows, footprint card, pkr, system mode, and draw. -/
structure Tag where
  g : Nat
  u : Nat
  va : W64
  h : Nat
  tok : Nat
  ents : List Ent
  wnd : Map W64
  card : List Region
  pkr : W64
  sys : Bool
  seed : W64
  draw : Nat
deriving DecidableEq, Repr

/-- A lease held or asked for: the 64 KiB page it was asked for, the value of x recorded at its grant, and its stage: 0 asked,
1 held for page-in, 2 granted, 3 refused (R359). -/
structure Lease where
  page : Nat
  x : Bool
  stage : Nat
deriving DecidableEq, Repr

/-- A record that Compass knows, with its live copy (R113, R132). -/
structure Task where
  ia : Nat
  graph : Nat
  /-- the eight words of the live copy. -/
  words : List W64
  /-- the state code of R132. -/
  st : Nat
  /-- the number of its first submission since it was last armed (R121, R122). -/
  subm : Option Nat
  /-- the order among the ready records of its priority: the submission number, or that of its last yield (R140). -/
  order : Nat
  spawner : Option Nat
  /-- 0 no pool slot, 1 an ordinary slot, 2 a reserve slot (R125). -/
  slot : Nat
  /-- WAITING after a suspension (R122). -/
  suspended : Bool
  /-- the domain-wide core it is placed on or whose tiles or scratchpad it holds. -/
  core : Option Nat
  /-- its context (R133). -/
  ctx : Option Nat
  /-- its scratchpad units and its physical tiles, in ascending order (R126, R127, R177). -/
  units : List Nat
  tiles : List Nat
  /-- the footprint card in force (R120, R361). -/
  card : List Region
  leases : List Lease
  /-- the lrenews under way in their order of issue, each with whether it has asked for its leases, with the new card and leases of the
  first (R361). -/
  renews : List (Tag × Bool)
  newCard : List Region
  newLeases : List Lease
  /-- the tick of its binding to a context (R129), and since when it has been passed over (R126). -/
  bound : Nat
  passed : Option Nat
  /-- the core reserved for it after 2^16 ticks (R126). -/
  reserved : Option Nat
  /-- its next launch restores the save area (R130); with it, scratchpad and tiles are to be restored from there. -/
  restore : Bool
  drained : Bool
  stop : Option Stop
  /-- it has ended and gives up its tiles and scratchpad when the array is released (R140, R264). -/
  closing : Bool
  /-- faults found while it has no context: pending deferred traps by cause (R124, R141). -/
  faults : Map Deferred
  /-- the pending faults are loaded at the next launch (R141). -/
  loadFaults : Bool
  /-- dependency entries of an ended binding that are to be probed before the write-back (R191). -/
  deps : List Ent
  /-- its lost elements since its launch (R389, R393). -/
  lost : Nat
  /-- the words of its saved scratchpad that had an uncorrectable error, by offset / 32 (R36; log 84). -/
  spoiled : List Nat
  /-- its record may set sys (R117). -/
  sysOk : Bool
  /-- the tick at which its quantum began (R129). -/
  quantum : Nat
  /-- the last-issued writer of l5 and the pending traps at its save, with the rows they name as 128 * task tile + row: what a pending trap
  still says of the results the faulting work writes (R26, R34). -/
  l5 : L5
  kept : Map Deferred
  /-- the loop nest at the entry of its handler, at its save (R162). -/
  nest : Map Level
  /-- of a collective node: the sequence number that it took at its launch (R409). -/
  number : Option Nat
  /-- its work lists as the index engine left them: the header's and the ring's bytes, by header offset (R394). -/
  lists : Map (List Byte)
deriving DecidableEq, Repr

/-- What is left to do of an event of a graph (R119, R125, R134, R135): records to submit, release or re-arm by their IA, and the end of a
conditional node with its own restored count. -/
inductive Act where
  | accept (ia : Nat)
  | release (ia : Nat)
  | rearm (ia count : Nat)
  | endNode (u : Nat) (self : Option Nat)
deriving DecidableEq, Repr

/-- A graph that Compass has accepted (R119). -/
structure Graph where
  list : Nat
  wset : Nat
  pkr0 : W64
  ovq : Nat
  bcount : Nat
  ring : Nat
  qlog : Nat
  ovlog : Nat
  btab : Nat
  bsnap : Nat
  stat : Nat
  /-- the overflow queue, front first, and how many entries have been written to it (R125). -/
  queue : List Nat
  tail : Nat
  /-- records that became ready while the queue was full, front first, each with the rest of its event's processing (R125). -/
  blocked : List (Nat × List Act)
  frec : Nat
  fcode : Nat
  disabled : Bool
deriving DecidableEq, Repr

/-- A spawn that Compass has not answered (R139): its context and task, the predicate base, the record's IA, the pending set of the context,
and the token of its predicates; or a gsub that Compass has still to read (R43, R142), with its pkr, which has no predicates. -/
structure Spawn where
  g : Nat
  u : Nat
  pb : Nat
  ia : Nat
  ents : List Ent
  tok : Nat
  gsub : Bool
  pkr : W64
deriving DecidableEq, Repr

/-- Compass of a die (R113 to R142). -/
structure Compass where
  graphs : Map Graph
  tasks : Map Task
  nextUid : Nat
  nextGraph : Nat
  /-- the graph refilled last from its overflow queue (R125). -/
  lastRefill : Nat
  /-- leases given up, by task and page, whose release has not reached the owner (R359): each waits for the task's commands with tokens below
  its mark (R123). -/
  releases : List (Nat × Nat × Nat)
  spawns : List Spawn
deriving DecidableEq, Repr

/-- The issue selector of a core (R128): the context that issued last, its consecutive issues, and whether it yields the next pick: by the
fairness bound, or because it has stalled, suspended or ended since. -/
structure Selector where
  last : Nat
  count : Nat
  yielding : Bool
deriving DecidableEq, Repr

/-- An atomic update at the owner (R197, R210, R211). -/
inductive Atomic where
  /-- amo of width w and operator op with its operand. -/
  | amo (w op opnd : Nat)
  | cas (w cmp new : Nat)
  /-- xadd of an f64 or f32 operand. -/
  | xadd (f32 : Bool) (v : Nat)
deriving DecidableEq, Repr

/-- What a request asks of the owner (R187, R190, R195). -/
inductive MKind where
  | read | write | writeNc | probe
  | atomic (a : Atomic)
deriving DecidableEq, Repr

/-- Where a request stands: held at its origin, asking the home, on its way to `target` or held there, served, answered
redirect only, answered not here. -/
inductive Stage where
  | wait | query | sent | served | redirected | notHere
deriving DecidableEq, Repr

/-- The answer of the owner: the bytes read, the stamps they carry (R189), the page's key, why the access was denied (R358), or how a write was
rejected (R201: true for key). -/
structure Answer where
  bytes : List Byte
  stamps : List Ent
  key : Nat
  denied : Option Nat
  rejected : Option Bool
  /-- of an mx.apart block: the key of the scale page, and whether the denial or rejection is that page's (R93, R208). -/
  key2 : Option Nat
  second : Bool
  /-- a signpost relayed the request: the page and its owner (R370). -/
  redirect : Option (Nat × Nat)
  /-- the redirect has been taken by the origin. -/
  taken : Bool
  /-- what the page's writers knew, and how many writes had been applied, when the request was served (the model's own; log 23). -/
  past : Map Nat
  seen : Nat
deriving DecidableEq, Repr

def Answer.none : Answer := ⟨[], [], 0, .none, .none, .none, false, .none, false, [], 0⟩

/-- A request of a memory port on its way (R187 to R191, R363 to R371). -/
structure Msg where
  kind : MKind
  origin : Nat
  /-- the issuing context, and the task it was bound to. -/
  g : Nat
  task : Option Nat
  /-- the load it belongs to, and whether one waits for it. -/
  tok : Option Nat
  ia : Nat
  n : Nat
  /-- the scale byte of an mx.apart block (R93, R95). -/
  ia2 : Option Nat
  data : List Byte
  /-- the write-enable vector (R201). -/
  wen : Nat
  /-- the entries it carries (R189). -/
  ents : List Ent
  /-- the stamp of a causal write (R188). -/
  stamp : List Ent
  /-- its sequence numbers by target, the identity of R364 first (R371). -/
  ids : List (Nat × Nat)
  target : Nat
  /-- the signposts that relayed it, first relay first (R368). -/
  path : List Nat
  stage : Stage
  ans : Answer
  /-- the ticks of its first and of its last sending, and whether its target was recorded as unreachable (R364). -/
  first : Nat
  last : Nat
  unreachable : Bool
  /-- what its origin die knew when it was sent (the model's own; log 23). -/
  past : Map Nat
deriving DecidableEq, Repr

/-- A resolution on its way from the owner that applied a write to a die that answered it not here (R371). -/
structure Resolution where
  die : Nat
  origin : Nat
  seq : Nat
deriving DecidableEq, Repr

/-- A former owner in a page's lineage: the die, the tick of the cutover and the frontiers it is known to have reached (R365). -/
structure Lin where
  die : Nat
  tick : Nat
  frontier : Map Nat
deriving DecidableEq, Repr

/-- Who wrote the bytes of a page, each origin with the number of its latest write in the order of application, and what those writers
knew (the model's own; log 23). -/
structure Hist where
  wrote : Map Nat
  past : Map Nat
deriving DecidableEq, Repr

/-- What the owner holds of a page besides its leaf (R359, R365, R367). -/
structure PageSt where
  big : Bool
  leases : Nat
  lineage : List Lin
deriving DecidableEq, Repr

/-- A home record (R354). -/
structure HomeRec where
  owner : Nat
  big : Bool
  comp : Option Nat
  migrating : Bool
  lastCut : Option Nat
deriving DecidableEq, Repr

/-- A gazetteer entry (R362). -/
structure Gaz where
  big : Bool
  owner : Nat
  since : Nat
deriving DecidableEq, Repr

/-- A signpost: the owner at cutover, the tick of the cutover, and its retirement: 0 none, 1 the home tells the owner to drop it,
2 the owner has confirmed (R368, R369). -/
structure Sign where
  owner : Nat
  since : Nat
  stage : Nat
deriving DecidableEq, Repr

/-- The frontier of an origin at a die and the numbers above it that are resolved (R363). -/
structure Front where
  f : Nat
  above : List Nat
deriving DecidableEq, Repr

/-- A migration (R366, R367): phase 0 requested, 1 copying, 2 frozen, 3 ended with a code. -/
structure Mig where
  tag : Tag
  pages : List Nat
  src : Nat
  dst : Nat
  phase : Nat
  rounds : Nat
  /-- sectors written after they were copied, by IA / 32. -/
  dirty : List Nat
  /-- sectors copied during the freeze. -/
  copied : Nat
  frozenAt : Nat
  /-- the destination's frames, by page, and the table pages taken. -/
  frames : Map Nat
  tables : List Nat
  code : Nat
deriving DecidableEq, Repr

/-- A host ring (R443, R446): its registers, the pending count and the tick of the oldest pending entry. -/
structure Ring where
  cfg0 : W64
  cfg1 : W64
  tail : Nat
  head : Nat
  ovf : Nat
  pending : Nat
  oldest : Nat
deriving DecidableEq, Repr

/-- An entry on its way to a ring: its kind, its source die, words 1 to 7 (R444). -/
structure RingEntry where
  ring : Nat
  kind : Nat
  die : Nat
  words : List W64
deriving DecidableEq, Repr

/-- An attestation report (R453): the die ID, the eight measurement registers, the nonce, the identity public key, and the signature. -/
structure Report where
  die : Nat
  measure : List Nat
  nonce : Nat
  key : List Byte
  sig : List Byte
deriving DecidableEq, Repr

/-- What a host has posted and the device has not done yet: an access of a function through BAR2 (R439), a write of hi.gsub or hi.gdis of a die
(R442), or a write of cg.ent at the group and with the rank map that cg.sel and cg.map named (R407). -/
inductive Posted where
  | access (fn x : Nat) (wr : Bool) (n v : Nat)
  | submit (d : Nat) (v : W64)
  | disable (d : Nat) (v : W64)
  | group (d i map : Nat) (v : W64)
deriving DecidableEq, Repr

/-- The state of one package (R33, R443). -/
structure Pkg where
  /-- the package number that ctx.id reads (R14). -/
  number : Nat
  rings : Map Ring
  hrSel : W64
  /-- entries not yet written, in the order of their events (R444, R449). -/
  waiting : List RingEntry
  /-- what the device has written to host memory, by host address / 8 (R444). -/
  host : Map W64
  /-- MSI-X messages sent, by 2^11 * port + vector (R446). -/
  msix : Map Nat
  /-- hi.ltr (R450). -/
  ltr : Nat
  /-- it is powered (R454). -/
  on : Bool
  /-- the firmware image in the management controller's flash (R452, R454). -/
  flash : List Byte
  /-- the error records made since the cold reset, as the management controller reads them (R449, R454). -/
  errors : List (List W64)
  /-- what the management controller has answered last (R454). -/
  mcOut : List W64
  /-- what a host read through an aperture has returned last; none for Unsupported Request (R439 to R441). -/
  answer : Option (List Byte)
  /-- the dependency entries of the functions' causal contexts (R439). -/
  fnDeps : Map (List Ent)
  /-- accesses and register writes that must wait for a page, in their order of arrival (R407, R439, R442). -/
  posted : List Posted
deriving DecidableEq, Repr

/-- A package after reset. -/
def Pkg.init : Pkg :=
  { number := 0, rings := [], hrSel := 0, waiting := [], host := [], msix := [], ltr := 2 ^ 32 - 1, on := true, flash := [], errors := [], mcOut := [],
    answer := none, fnDeps := [], posted := [] }

/-- A copy command, queued or running (R213, R218): its descriptor's words, the bases of its sides (an IA or a scratchpad offset) with
their scale distances, formats and geometries, its destination extent, the units done, the source elements that a cpyc has read and not yet used, each with its format, its code and the scale of its
block (R93), the bytes credited, and its fault with the address of R225. -/
structure CopyCmd where
  tag : Tag
  node : Bool
  words : List W64
  sbase : Nat
  dbase : Nat
  ssd : Int
  dsd : Int
  sfmt : Nat
  sgeo : Nat
  dfmt : Nat
  dgeo : Nat
  dlo : Nat
  dlen : Nat
  run : Bool
  pos : Nat
  ahead : List (Nat × Nat × Nat)
  cred : Nat
  fault : Option (Nat × Nat)
deriving DecidableEq, Repr

/-- A copy channel with its status (R213, R214). -/
structure Channel where
  cmds : Map CopyCmd
  flt : Bool
  sub : Nat
  fctx : Nat
  fh : Nat
  fcnt : Nat
  off : Nat
deriving DecidableEq, Repr

def Channel.init : Channel := ⟨[], false, 0, 0, 0, 0, 0⟩

/-- A cell of the array (R263): the bits of c0 and c1; acc as the code of an f32 cell or as an exact integer; x; t as a code of the cell type. -/
structure Cell where
  c0 : Nat
  c1 : Nat
  acc : Int
  x : Nat
  t : Nat
deriving DecidableEq, Repr

/-- The parts of the array's storage that hold an uncorrectable error (R300, R448): c0, c1, acc, x and t of the cells, the program store, the
user table, and the histogram tags. -/
structure ArrayMarks where
  c0 : Bool
  c1 : Bool
  acc : Bool
  x : Bool
  t : Bool
  prog : Bool
  table : Bool
  tags : List Nat
deriving DecidableEq, Repr

def ArrayMarks.clean : ArrayMarks := ⟨false, false, false, false, false, false, false, []⟩

/-- An array instruction, queued or running (R293): the opcode and control bits of its word, its operand values and draw at issue, the image
of cpl, the scratchpad extents it has not read, the core rows it holds (true: it writes them), the rows that its own bundle writes, as they stood
before with whether they were poisoned (R237), and the beats done (R295, R297). -/
structure ArrayCmd where
  tag : Tag
  op : Nat
  word : Nat
  av : W64
  bv : W64
  ctl : Nat
  img : List Nat
  reads : List (Nat × Nat)
  rows : List (Nat × Bool)
  old : Map (Row × Bool)
  run : Bool
  beat : Nat
deriving DecidableEq, Repr

/-- The user activation table (R289). -/
structure UserTable where
  lo : Nat
  h : Nat
  entries : List Nat
deriving DecidableEq, Repr

/-- The array state of a core (R263). -/
structure ArrayUnit where
  /-- the holder, by its number in Compass of the die. -/
  holder : Option Nat
  /-- the holder is to release it once its instructions have completed (R264). -/
  rel : Bool
  conf : Bool
  cfg0 : W64
  cfg1 : W64
  /-- the first L micro-ops. -/
  prog : List Nat
  /-- the cells by 128 i + j; none listed: every cell as after the claim. -/
  cells : List Cell
  table : Option UserTable
  /-- histogram counters by 32 tag + bin; unlisted 0. -/
  hist : Map Nat
  /-- lowest exponents by tag; unlisted -126. -/
  low : Map Int
  queue : Map ArrayCmd
  /-- the running pass has stopped at an interrupt point, with the queue behind it (R297). -/
  paused : Bool
  /-- what of its storage has an uncorrectable error (R300, R448). -/
  bad : ArrayMarks
deriving DecidableEq, Repr

/-- The array as a new holder finds it, and with no holder (R263). -/
def ArrayUnit.init : ArrayUnit := ⟨none, false, false, 0, 0, [0], [], none, [], [], [], false, ArrayMarks.clean⟩

/-- A Survey command, queued or sent to an owner (R322): its opcode, its operand values, the IA of its global side, and its result or total. -/
structure SurveyCmd where
  tag : Tag
  op : Nat
  av : W64
  bv : W64
  ia : Nat
  total : Nat
  /-- qmergeat: the sketch's bytes once it has been sent to the owner, and how that answered: some none well, some of a sub-cause not. -/
  sent : Option (List Byte)
  answer : Option (Option Nat)
deriving DecidableEq, Repr

/-- The armed tap (R325): the arming command's tag, a DC or a QS, its scratchpad offset, and abs. -/
structure Tap where
  tag : Tag
  dc : Bool
  off : Nat
  abs : Bool
deriving DecidableEq, Repr

/-- An open stream (R424): the tag of its cstr with its handle, its target, its row counter, and the rows not yet written, each with the tag
of its mstr. -/
structure Stream where
  tag : Tag
  /-- the S7 word of its cstr. -/
  word : Nat
  /-- it is closed, and ends once its rows are written. -/
  shut : Bool
  grp : Nat
  rank : Nat
  off : Nat
  cap : Nat
  count : Nat
  /-- rows not yet written: the row number, the tag of its mstr and its 512 bytes. -/
  rows : List (Nat × Tag × List Byte)
deriving DecidableEq, Repr

-- ENGINES

/-- A waypoint (R338): its position, its pinned bit and its frozen pages, by page number of the state. -/
structure Way where
  pos : Nat
  pin : Bool
  pages : Map Nat
deriving DecidableEq, Repr

/-- An open state slot (R332): its state as page numbers of the arena, by page number of the state; an unlisted page reads 0. -/
structure StSlot where
  owner : Nat
  pos : Nat
  size : Nat
  share : Bool
  cap : Nat
  state : Map Nat
  /-- ascending by position. -/
  ring : List Way
deriving DecidableEq, Repr

/-- A state-store command not yet applied (R347). -/
structure StCmd where
  tag : Tag
  op : Nat
  av : W64
  bv : W64
  total : Nat
deriving DecidableEq, Repr

/-- The watch of a slot (R344): whether it is armed, its drain bit and its position. -/
structure Watch where
  arm : Bool
  drain : Bool
  w : Nat
deriving DecidableEq, Repr

/-- The state store of a die (R332 to R352). -/
structure StStore where
  ctl : W64
  base : W64
  size : W64
  wsel : W64
  whit : W64
  /-- watches by slot (R344); one not listed is all zero. -/
  watch : Map Watch
  slots : Map StSlot
  /-- the arena pages in use, by page number: their bytes; an unlisted byte is 0. -/
  pages : Map (List Host.Cell)
  /-- 32-byte words of the arena pages with an uncorrectable error in the state cache, by arena offset / 32 (R349, R448). -/
  bad : List Nat
  queue : Map StCmd
  /-- the core whose command was taken last (R16). -/
  last : Nat
deriving DecidableEq, Repr

def StStore.init : StStore := ⟨0, 0, 0, 0, 0, [], [], [], [], [], 63⟩

/-- An element of an index command in flight, or an item of a wlins (R385, R397): its order of issue, its index, its address as computed
and as an IA, the tag it accesses by, the cause found at its issue, and the old bit of its test-and-set. -/
structure Elem where
  ord : Nat
  idx : Nat
  ea : Nat
  ia : Nat
  tag : Tag
  fault : Option Nat
  ans : Option Bool
deriving DecidableEq, Repr

/-- An index or work-list command (R381): its queue slot, its opcode, its S7 word, its operand values, its descriptor's words, its elements
issued, in flight and not yet done, its item size, the bytes credited, and whether an element was lost. -/
structure IdxCmd where
  tag : Tag
  slot : Nat
  op : Nat
  word : Nat
  av : W64
  bv : W64
  desc : List W64
  z : Nat
  next : Nat
  els : Map Elem
  left : Nat
  cred : Nat
  lost : Bool
deriving DecidableEq, Repr

/-- An entry of the fault queue (R390): the command, its task, and what the entry shows. -/
structure Park where
  cmd : Nat
  u : Nat
  kind : Nat
  slot : Nat
  h : Nat
  cause : Nat
  elem : Nat
  ctx : Nat
  ea : Nat
  /-- the entry has an uncorrectable error (R448). -/
  bad : Bool
deriving DecidableEq, Repr

/-- The index engine of a core (R381): its queue and the fault queue by slot. -/
structure IndexUnit where
  queue : Map IdxCmd
  parked : Map Park
deriving DecidableEq, Repr

/-- The state of one core (R32). -/
structure Core where
  /-- the valid rows of the four physical tiles, by 128 * tile + row (R236); an unlisted row is invalid and reads 0. -/
  rows : Map Row
  /-- poison marks of rows, by the same number (R167, R200). -/
  rowPoison : Map Poison
  /-- the 4 MiB of scratchpad, by core address; unlisted 0 (R178). -/
  spad : List Host.Cell
  /-- the granules whose written bit is 1, by core address / 1,024 (R178). -/
  written : List Nat
  /-- 32-byte words of the scratchpad with an uncorrectable error, by core address / 32 (R448). -/
  badSpad : List Nat
  /-- spad.hash in force and pending, and spad.conf (R179, R181). -/
  hash : W64
  hashPend : Option W64
  conf : W64
  /-- the 64 event bits (R147). -/
  event : W64
  sel : Selector
  /-- the read-only cache: the 32 bytes and the key of a sector, by IA / 32 (R196). -/
  roc : Map (List Byte × Nat)
  /-- its sectors with an uncorrectable error, by IA / 32, each with its place in the SRAM (R448). -/
  badRoc : Map Nat
  /-- the first request whose answer may fill it: none from before the last invalidation does (R196). -/
  rocFrom : Nat
  array : ArrayUnit
  /-- Survey's queue in S7 issue order, and qmergeat commands at their owners (R322, R326). -/
  survey : Map SurveyCmd
  tap : Option Tap
  /-- rows that the tap has accepted, each with the number of its acceptance, as 128 f32 codes (R288, R325). -/
  tapRows : List (Nat × List Nat)
  /-- the open streams (R424). -/
  streams : Map Stream
  index : IndexUnit
  copy0 : Channel
  copy1 : Channel
  /-- pw.droop, and whether the clock is stretched now (R451). -/
  droop : Nat
  stretched : Bool
deriving DecidableEq, Repr

/-- A core after reset. -/
def Core.init : Core :=
  { rows := [], rowPoison := [], spad := [], written := [], badSpad := [], hash := 0, hashPend := none, conf := 0, event := 0,
    sel := ⟨0, 0, false⟩, roc := [], badRoc := [], rocFrom := 0, array := ArrayUnit.init, survey := [], tap := none, tapRows := [], streams := [], index := ⟨[], []⟩, copy0 := Channel.init, copy1 := Channel.init, droop := 0, stretched := false }

/-- The signature of a collective (R413). -/
structure ColSig where
  kind : Nat
  op : Nat
  typ : Nat
  nsk : Bool
  len : Nat
  hash : Nat
  tag : Nat
deriving DecidableEq, Repr

/-- What a node of the canonical tree holds (R412, R414): the ranks that contributed to it, each with its die, the payload (for a transform
every rank's, by rank), NaN-seen, and the missing ranks. -/
structure ColPart where
  who : List (Nat × Nat)
  data : Map (List Byte)
  nan : Bool
  miss : List Nat
deriving DecidableEq, Repr

/-- Ranks of a group that take part in an exchange: count of them, from the first on, step apart (R422). -/
structure Ranks where
  first : Nat
  step : Nat
  count : Nat
deriving DecidableEq, Repr

/-- A reduction slot (R411 to R414): its key, its switch by tier and block, the group's size, its timeout, the tick of its allocation, the parts
it holds by child, and its phase: 0 open, 1 passed up, 2 late window with no result yet, 3 late window with its result, 4 failed, 5 freed after its late window but for
the contributions that it holds until the result arrives; with the ranks that take part, and whether their payloads are gathered and not combined (R422). -/
structure Slot where
  grp : Nat
  seq : Nat
  chunk : Nat
  tier : Nat
  block : Nat
  n : Nat
  sub : Ranks
  gather : Bool
  tmo : Nat
  alloc : Nat
  sig : ColSig
  parts : Map ColPart
  phase : Nat
  since : Nat
  /-- late contributors that wait for the result. -/
  late : List (Nat × Nat)
  res : Option ColPart
  /-- ranks answered with failure. -/
  failed : Nat
deriving DecidableEq, Repr

/-- A contribution on its way up to a switch, or an answer on its way down to a member (R411, R415): 0 the result, 1 late, 2 expired, 3 failure. -/
structure ColMsg where
  grp : Nat
  seq : Nat
  chunk : Nat
  n : Nat
  sub : Ranks
  gather : Bool
  tmo : Nat
  sig : ColSig
  up : Bool
  tier : Nat
  block : Nat
  idx : Nat
  /-- it tells a higher switch that a slot failed. -/
  bad : Bool
  part : ColPart
  /-- the member's rank and die, of an answer. -/
  rank : Nat
  die : Nat
  ans : Nat
  /-- the tick of a refusal (R411). -/
  refused : Option Nat
deriving DecidableEq, Repr

/-- A queue message on its way (R425): the sending die and command, the target die, its group and queue, the value, and the tick of a refusal. -/
structure QMsg where
  src : Nat
  cmd : Nat
  dst : Nat
  grp : Nat
  q : Nat
  val : W64
  refused : Option Nat
deriving DecidableEq, Repr

/-- The answer to a chunk (R415), with the payloads of an exchange that another one follows (R422). -/
structure ColAns where
  ans : Nat
  nan : Bool
  miss : List Nat
  tok : Nat
  data : Map (List Byte)
deriving DecidableEq, Repr

/-- A collective command (R430), queued or in flight: its opcode, S7 word and operand values, whether it is rejected, its group with its
size, rank and tmo, its sequence number, its signature, its descriptor's words, the bases of its sides and whether they are scratchpad, trp, its status area,
its byte total, its phase (0 queued, 1 taken, 2 contributed or sent, 3 done), the answers by chunk, the exchanges of a transform that are over with what the
member holds after them (R422), the bytes credited so far, and its fault. -/
structure ColCmd where
  tag : Tag
  node : Bool
  op : Nat
  word : Nat
  av : W64
  bv : W64
  rej : Bool
  grp : Nat
  n : Nat
  rank : Nat
  tmo : Nat
  seq : Nat
  sig : ColSig
  ws : List W64
  /-- the layout descriptors of a transform, source then destination. -/
  lay : List W64
  sbase : Nat
  dbase : Nat
  ssp : Bool
  dsp : Bool
  trp : Bool
  sta : Option Nat
  total : Nat
  phase : Nat
  got : Map ColAns
  exch : Nat
  held : List Byte
  pos : Nat
  cred : Nat
  fault : Option Nat
deriving DecidableEq, Repr

/-- A group at a die (R407 to R409, R425): cg.ent's fields and cg.map, the rank map, the next sequence number, the member task, its receive
region, whether its latches are bound, the receive queues, and their entries with an uncorrectable error: the queue, the entries before it, and its
place in the SRAM (R448). -/
structure Grp where
  v : Bool
  st : Nat
  ltmo : Nat
  n : Nat
  rank : Nat
  map : W64
  dies : List Nat
  seq : Nat
  member : Option Nat
  region : Option (Nat × Nat)
  bound : Bool
  queues : Map (List W64)
  spoilt : List (Nat × Nat × Nat)
deriving DecidableEq, Repr

/-- A group's registers after reset (R407). -/
def Grp.init : Grp := ⟨false, 0, 4, 1, 0, 0, [], 0, none, none, false, [], []⟩

/-- A fabric port (R406). -/
structure Port where
  up : Bool
  lanes : Nat
  rty : Nat
  err : Nat
deriving DecidableEq, Repr

/-- The collective engine of a die with its fabric ports, and the core whose command was taken last (R16). -/
structure CollUnit where
  sel : W64
  grps : Map Grp
  queue : Map ColCmd
  ports : Map Port
  last : Nat
deriving DecidableEq, Repr

/-- The state of one die (R33). -/
structure Die where
  /-- the tick of its last cold reset (R147). -/
  tickBase : Nat
  compass : Compass
  /-- the home table; unlisted 0 (R353). -/
  htab : Map Nat
  haCtl : W64
  haRoot : W64
  haHsel : W64
  haUia : W64
  haUval : W64
  haUop : W64
  haPool : W64
  /-- the frames consumed from the front of the frame ring, and the frames and table pages returned to the pools (R357, R367). -/
  poolFront : Nat
  poolFrames : List Nat
  poolTables : List Nat
  /-- the op 2 under way: the page, its size and its companion (R357). -/
  haPend : Option (Nat × Bool × Option Nat)
  /-- the core whose migration request was taken last (R16). -/
  haLast : Nat
  /-- home records of the pages homed here, by 64 KiB page number of the first page (R354). -/
  homeRecs : Map HomeRec
  /-- the pages owned here, by the same number. -/
  pages : Map PageSt
  /-- the gazetteer (R362), by the same number. -/
  gaz : Map Gaz
  signs : Map Sign
  /-- redirect holds: the page and the last request that is not held (R370). -/
  rholds : Map Nat
  /-- the last sequence number used, by target (R187). -/
  lastSeq : Map Nat
  /-- frontiers, by origin (R363). -/
  fronts : Map Front
  /-- by origin, the latest write that what was read here can depend on; 2048 stands for every origin (the model's own; log 23). -/
  past : Map Nat
  /-- the origin whose atomic update was served last, by location (R198). -/
  atomLast : Map Nat
  store : StStore
  coll : CollUnit
  /-- the node copier (R230). -/
  copier : Channel
  /-- 32-byte words of the HBM with an uncorrectable error, by PA / 32, with the source code of R448. -/
  bad : Map Nat
  /-- the rings of this die's page-in, watch and error entries (R444). -/
  hiRmap : W64
  /-- hi.flag, hi.ecc, pw.state (R442, R448, R450). -/
  hiFlag : W64
  hiEcc : Nat
  pwState : Nat
  /-- the access table by entry, 256 bits each, hi.asel, and whether the table has been written since the cold reset (R441). -/
  access : Map Nat
  asel : Nat
  tableWritten : Bool
  /-- hi.apb of the functions of the port at this die (R439). -/
  apb : Map Nat
  /-- the first-stage image failed its verification (R452); its digest; the measurement registers; the report given last (R453). -/
  recovery : Bool
  firstStage : Nat
  measure : Map Nat
  report : Option Report
deriving DecidableEq, Repr

/-- A die after reset. -/
def Die.init : Die :=
  { tickBase := 0, compass := ⟨[], [], 0, 0, 0, [], []⟩, htab := [], haCtl := 0, haRoot := 0, haHsel := 0, haUia := 0, haUval := 0, haUop := 0,
    haPool := 0, poolFront := 0, poolFrames := [], poolTables := [], haPend := none, haLast := 63, homeRecs := [], pages := [], gaz := [], signs := [], rholds := [], lastSeq := [], fronts := [], past := [], atomLast := [], store := StStore.init, coll := ⟨0, [], [], [], 63⟩, copier := Channel.init, bad := [], hiRmap := 0,
    hiFlag := 0, hiEcc := 0, pwState := 0, access := [], asel := 0, tableWritten := false, apb := [], recovery := false, firstStage := 0, measure := [], report := none }

/-- The bundle in flight: the state its slots read (R19), and what they have found (the model's own). -/
structure Frame where
  on : Bool
  pre : Ctx
  /-- the rows of the core and their poison marks before the bundle. -/
  rows : Map Row
  marks : Map Poison
  /-- the group whose queues are bound to the latches before the bundle, with them (R52). -/
  latches : Option (Nat × Map (List W64))
  /-- event bits that waits of lower-numbered contexts consume (R161). -/
  taken : Nat
  /-- the slot being run and its word, for trap.info (R48, R165). -/
  slot : Nat
  word : BitVec 32
  /-- the cause a slot raises, with its trap.info. -/
  trap : Option (Nat × W64)
  stall : Bool
  /-- the slot waits for an engine, or for accesses, and not for an operand (R42, R47). -/
  busy : Bool
  /-- the die and the IA whose owner the home is to be asked for while the bundle stalls (R362). -/
  need : Option (Nat × Nat)
  /-- dependency entries are to be probed while the bundle stalls (R188, R194). -/
  probe : Bool
  /-- the bundle is not eligible for end-of-body processing (R150). -/
  jumped : Bool
  /-- the floating-point conditions raised so far (R147). -/
  conds : Nat
  wait : Option WaitSt
  stop : Option Stop
  halt : Bool
  /-- the first number free when the bundle began: requests from it on are the bundle's own. -/
  first : Nat
  /-- the shadow stack is to be spilled or refilled while the bundle stalls (R156, R157). -/
  refill : Bool
  /-- the bundle is a synchronisation bundle (R34). -/
  sync : Bool
deriving DecidableEq, Repr

/-- No bundle in flight. -/
def Frame.none : Frame :=
  { on := false, pre := Ctx.init, rows := [], marks := [], latches := .none, taken := 0, slot := 0, word := 0, trap := .none, stall := false, busy := false, need := .none, probe := false, jumped := false,
    conds := 0, wait := .none, stop := .none, halt := false, first := 0, refill := false, sync := false }

/-- The whole machine. -/
structure State where
  /-- reference ticks since power-on (R7). -/
  tick : Nat
  /-- HBM of every die, by die * 2^40 + PA (R13). -/
  mem : List Host.Cell
  /-- the stamps of the writes whose bytes memory holds, by IA (R189). -/
  stamps : Map (List Ent)
  /-- the writes applied so far, and the history of each page (the model's own; log 23). -/
  applied : Nat
  hist : Map Hist
  dies : Map Die
  cores : Map Core
  ctxs : Map Ctx
  pkgs : Map Pkg
  /-- requests under way (R187). -/
  net : Map Msg
  resolutions : Map Resolution
  migs : Map Mig
  /-- the reduction slots of the switches (R411), their expiry marks (R414), the collective messages under way, and the queue messages (R425). -/
  slots : Map Slot
  marks : Map Nat
  colMsgs : Map ColMsg
  qMsgs : Map QMsg
  /-- log2 of the ranks that a switch of each tier serves, lowest tier first (R407; log 14). -/
  tiers : List Nat
  nextId : Nat
  /-- the events to come, for the model's timing and the outside world (R11, R455). -/
  agenda : List Instr
  /-- the context whose slot instructions exec runs. -/
  cur : Nat
  bun : Frame
  /-- the counter of free values. -/
  free : Nat
  /-- bundles issued since the last tick, for the order of events with an empty agenda. -/
  cyc : Nat
deriving DecidableEq, Repr

/-- The machine after reset (R9). -/
def State.reset : State :=
  { tick := 0, mem := [], stamps := [], applied := 0, hist := [], dies := [], cores := [], ctxs := [], pkgs := [], net := [], resolutions := [], migs := [], slots := [], marks := [], colMsgs := [], qMsgs := [], tiers := [2, 11], nextId := 0, agenda := [],
    cur := 0, bun := Frame.none, free := 0, cyc := 0 }

/-- A context; an unlisted one is as after reset. -/
def State.ctx (s : State) (g : Nat) : Ctx := getD g Ctx.init s.ctxs

/-- A core; an unlisted one is as after reset. -/
def State.core (s : State) (c : Nat) : Core := getD c Core.init s.cores

/-- A die; an unlisted one is as after reset. -/
def State.die (s : State) (d : Nat) : Die := getD d Die.init s.dies

/-- A package; an unlisted one is as after reset. -/
def State.pkg (s : State) (k : Nat) : Pkg := getD k Pkg.init s.pkgs

def State.setPkg (s : State) (k : Nat) (p : Pkg) : State := { s with pkgs := put k p s.pkgs }
def State.setCtx (s : State) (g : Nat) (c : Ctx) : State := { s with ctxs := put g c s.ctxs }
def State.setCore (s : State) (c : Nat) (k : Core) : State := { s with cores := put c k s.cores }
def State.setDie (s : State) (d : Nat) (k : Die) : State := { s with dies := put d k s.dies }

end Sys2Proof.Machine
end

