-- ==== Sys2Proof/Machine/Ops.lean ====
section
/-! DEFINITION. The named operations over memory, contexts, cores and dies, the entries for the host's rings (R444, R449), taking a
trap (R162, R163), ending a task with cause 0x06 (R124) and the return from a handler (R164). -/

namespace Sys2Proof.Machine

/-- The byte at an address; an unlisted address reads 0 (log 1). -/
def cellGet (m : List Host.Cell) (a : Nat) : Byte := getD a 0 m

/-- The cells with one byte written; a byte of 0 is not listed. -/
def cellPut (m : List Host.Cell) (a : Nat) (v : Byte) : List Host.Cell := if v = 0 then m.filter (fun c => c.1 != a) else put a v m

/-- `n` bytes from an address on. -/
def cellsGet (m : List Host.Cell) (a n : Nat) : List Byte := (upFrom a n).map (cellGet m)

/-- Bytes written from an address on. -/
def cellsPut : List Host.Cell → Nat → List Byte → List Host.Cell
  | m, _, [] => m
  | m, a, v :: vs => cellsPut (cellPut m a v) (a + 1) vs

/-- The cells outside [a, a + n). -/
def cellsClear (m : List Host.Cell) (a n : Nat) : List Host.Cell := m.filter (fun c => decide (c.1 < a) || decide (a + n ≤ c.1))

/-- The canonical form of cells: addresses strictly rising above `lo`, no byte equal to what an unlisted address reads as. -/
def cellsWfFrom : Nat → List Host.Cell → Bool
  | _, [] => true
  | lo, (a, v) :: m => decide (lo ≤ a) && v != 0 && cellsWfFrom (a + 1) m

/-- The canonical form of a memory. -/
def Memory.wf (m : List Host.Cell) : Bool := cellsWfFrom 0 m

/-- The installed HBM of a die in bytes (R13). -/
def hbmBytes : Nat := 3 * 2 ^ 36

/-- The key of a physical address of a die. -/
def paKey (d pa : Nat) : Nat := d * 2 ^ 40 + pa

/-- Bytes of a die's HBM. -/
def State.readPA (s : State) (d pa n : Nat) : List Byte := cellsGet s.mem (paKey d pa) n

/-- A die's HBM with bytes written. -/
def State.writePA (s : State) (d pa : Nat) (bs : List Byte) : State := { s with mem := cellsPut s.mem (paKey d pa) bs }

/-- The die, the core and the context number of a context (R14). -/
def dieOfCtx (g : Nat) : Nat := g / 256
def coreOfCtx (g : Nat) : Nat := g / 4
def dieOfCore (c : Nat) : Nat := c / 64

/-- The units of the domain (R2): 2,048 dies, 64 cores per die, 4 contexts per core, 512 packages. -/
def dieOk (d : Nat) : Bool := decide (d < 2048)
def coreOk (c : Nat) : Bool := decide (c < 2048 * 64)
def ctxOk (g : Nat) : Bool := decide (g < 2048 * 256)
def pkgOk (p : Nat) : Bool := decide (p < 512)

/-- A step of a unit of the domain. -/
def onUnit (ok : Bool) (t : State) : Host.Outcome State Fault Refusal := if ok then .next t else .fault .noSuchUnit

def State.modCtx (s : State) (g : Nat) (f : Ctx → Ctx) : State := s.setCtx g (f (s.ctx g))
def State.modCore (s : State) (c : Nat) (f : Core → Core) : State := s.setCore c (f (s.core c))
def State.modDie (s : State) (d : Nat) (f : Die → Die) : State := s.setDie d (f (s.die d))
def State.modPkg (s : State) (k : Nat) (f : Pkg → Pkg) : State := s.setPkg k (f (s.pkg k))

/-- The bundle in flight changed. -/
def State.modBun (s : State) (f : Frame → Frame) : State := { s with bun := f s.bun }

/-- The context whose slot instructions run, as it stands and as the bundle's slots read it (R19). -/
def State.me (s : State) : Ctx := s.ctx s.cur
def State.pre (s : State) : Ctx := if s.bun.on then s.bun.pre else s.me
def State.modMe (s : State) (f : Ctx → Ctx) : State := s.modCtx s.cur f
def State.myCore (s : State) : Nat := coreOfCtx s.cur
def State.myDie (s : State) : Nat := dieOfCtx s.cur

/-- The rows of the core as the bundle's slots read them (R19). -/
def State.preRows (s : State) : Map Row := if s.bun.on then s.bun.rows else (s.core s.myCore).rows

/-- The poison marks of the core's rows as the bundle's slots read them (R19). -/
def State.preMarks (s : State) : Map Poison := if s.bun.on then s.bun.marks else (s.core s.myCore).rowPoison

/-- A task of a die's Compass. -/
def State.task? (s : State) (d u : Nat) : Option Task := find? u (s.die d).compass.tasks
def State.setTask (s : State) (d u : Nat) (t : Task) : State :=
  s.modDie d (fun k => { k with compass := { k.compass with tasks := put u t k.compass.tasks } })
def State.modTask (s : State) (d u : Nat) (f : Task → Task) : State :=
  match s.task? d u with | none => s | some t => s.setTask d u (f t)
def State.graph? (s : State) (d i : Nat) : Option Graph := find? i (s.die d).compass.graphs
def State.modGraph (s : State) (d i : Nat) (f : Graph → Graph) : State :=
  match s.graph? d i with
  | none => s
  | some g => s.modDie d (fun k => { k with compass := { k.compass with graphs := put i (f g) k.compass.graphs } })

/-- The task bound to a context. -/
def State.boundTask (s : State) (g : Nat) : Option Task := (s.ctx g).task.bind (fun u => s.task? (dieOfCtx g) u)

/-- Word k of a task's live record (R113). -/
def Task.word (t : Task) (k : Nat) : W64 := t.words.getD k 0

/-- The fields of record word 1 (R113). -/
def Task.pred (t : Task) : Nat := bits (t.word 1) 63 48
def Task.affv (t : Task) : Bool := bit (t.word 1) 41
def Task.affcore (t : Task) : Nat := bits (t.word 1) 40 35
def Task.preemptible (t : Task) : Bool := bit (t.word 1) 34
def Task.sys (t : Task) : Bool := bit (t.word 1) 33
def Task.spad (t : Task) : Nat := bits (t.word 1) 32 26
def Task.tileNeed (t : Task) : Nat := bits (t.word 1) 25 23
def Task.prio (t : Task) : Nat := bits (t.word 1) 22 21
def Task.kind (t : Task) : Nat := bits (t.word 1) 20 17
def Task.snap (t : Task) : Bool := bit (t.word 1) 16
def Task.succ (t : Task) : Nat := bits (t.word 2) 51 0
def Task.fpc (t : Task) : Nat := bits (t.word 3) 51 0
def Task.save (t : Task) : Nat := bits (t.word 7) 39 0 * 4096

/-- A context whose task runs in system mode (R117). -/
def State.sysMode (s : State) (g : Nat) : Bool := match s.boundTask g with | none => false | some t => t.sys

/-- The die ID of a die (R14): by the number that its package has been given. -/
def State.dieId (s : State) (d : Nat) : Nat := (s.pkg (d / 4)).number * 4 + d % 4

/-- The die that a die ID names for die d (R14): one of its own package when the number is that package's, else one of the first package that has
been given the number; 2048, where no die is, when none has. -/
def State.dieAt (s : State) (d id : Nat) : Nat :=
  if (s.pkg (d / 4)).number = id / 4 then d / 4 * 4 + id % 4
  else match (upFrom 0 512).find? (fun k => (s.pkg k).number == id / 4) with
    | some k => 4 * k + id % 4
    | none => 2048

/-- A request, a submission, a register access or a message wakes an idle die (R450). -/
def State.wake (s : State) (d : Nat) : State := if (s.die d).pwState = 0 then s else s.modDie d (fun k => { k with pwState := 0 })

/-- The ticks since a die's cold reset (R147). -/
def State.dieTick (s : State) (d : Nat) : Nat := s.tick - (s.die d).tickBase

/-- An entry on its way to a host ring (R444). -/
def State.toRing (s : State) (d ring kind : Nat) (words : List W64) : State :=
  s.modPkg (d / 4) (fun p => { p with waiting := p.waiting ++ [⟨ring, kind, s.dieId d, words⟩] })

/-- The words of an error record (R449): class, core (255 for none), engine, address, cause or syndrome, trap.pc, trap.info, record IA, and
the die's tick. -/
def State.errorWords (s : State) (d cls core eng : Nat) (addr cause pc info rec : W64) : List W64 :=
  [w64 (cls + 256 * core + 65536 * eng), addr, cause, pc, info, rec, w64 (s.dieTick d)]

/-- A record kept for the management controller (R454). -/
def State.keepRecord (s : State) (d : Nat) (ws : List W64) : State := s.modPkg (d / 4) (fun p => { p with errors := p.errors ++ [ws] })

/-- The engine of the wait table that detects a cause, 0 where none does (R159, R449): a copy channel by trap.info. -/
def causeEngine (cause : Nat) (info : W64) : Nat :=
  match cause with
  | 0x10 => 4
  | 0x11 => bits info 60 60
  | 0x12 => 2
  | 0x13 => 5
  | 0x14 => 3
  | 0x15 => 7
  | _ => 0

/-- The error record of a die (R449), kept and sent to its ring. -/
def State.errorRecord (s : State) (d cls core eng : Nat) (addr cause pc info rec : W64) : State :=
  let ws := s.errorWords d cls core eng addr cause pc info rec
  (s.keepRecord d ws).toRing d (bits (s.die d).hiRmap 41 32) 6 ws

/-- The IA of the record of the task bound to a context. -/
def State.recordOf (s : State) (g : Nat) : W64 := match s.boundTask g with | none => 0 | some t => w64 t.ia

/-- A context that returns to FREE (R133): its registers take their reset values at the next launch. -/
def Ctx.freed (c : Ctx) : Ctx := { c with life := .free, task := none, wait := none, stopping := none, halted := false, preempt := none }

/-- A holder of the array releases it: its instructions run on, and the array state is discarded after them (R264). -/
def State.releaseArray (s : State) (c u : Nat) : State :=
  s.modCore c (fun k => if k.array.holder = some u then { k with array := { k.array with rel := true, paused := false } } else k)

/-- The context that issued last has stalled, or has left its task: the round starts after it (R128). -/
def State.endTurn (s : State) (g : Nat) : State :=
  if (s.core (coreOfCtx g)).sel.last = g % 4 && (s.core (coreOfCtx g)).sel.count != 0
  then s.modCore (coreOfCtx g) (fun k => { k with sel := ⟨g % 4, 0, true⟩ }) else s

/-- The task leaves its context for the reason `w`; its record is written back later (R140, R141). Its dependency entries go with it
(R191), and so do its pending deferred traps, which a task ended by cause 0x06 loses. It releases the array (R264). -/
def State.leaveContext (s : State) (g : Nat) (w : Stop) : State :=
  let c := s.ctx g
  let fs := match w with | .faulted _ => [] | _ => c.deferred
  let s := match c.task with
    | none => s
    | some u => (s.modTask (dieOfCtx g) u (fun t => { t with stop := some w, ctx := none, deps := c.deps.map Dep.ent, faults := fs })).releaseArray (coreOfCtx g) u
  (s.modCtx g Ctx.freed).endTurn g

/-- A carried word: the register's value, or a free one when the load that was to write it has failed (R113, R200). -/
def State.carried (s : State) (g n : Nat) : W64 := if (find? n (s.ctx g).poison).isSome then Config.freeWord (s.free + n) else getD n 0 (s.ctx g).regs

/-- A task stops after the commit of its bundle at `pc` (R140): suspend and yield leave the resume PC and s0 to s2 in the live record. -/
def State.stopTask (s : State) (g : Nat) (pc : W64) (w : Stop) : State :=
  match (s.ctx g).task with
  | none => s
  | some u =>
    let s := if w == .suspend || w == .yield then
        ({ s with free := s.free + 3 }).modTask (dieOfCtx g) u (fun t =>
          { t with words := setAt 6 (s.carried g 2) (setAt 5 (s.carried g 1) (setAt 4 (s.carried g 0) (setAt 0 (w64 ((pc.toNat + 32) % 2 ^ 57)) t.words))) })
      else s
    s.leaveContext g w

/-- s0, s1 or s2 waits for a write: they are the words a task carries over (R140). -/
def Ctx.carryPending (c : Ctx) : Bool := c.pend.any (fun p => decide (p.1 < 3))

/-- A stop that waited for s0 to s2 takes place once they are there. -/
def State.finishStop (s : State) (g : Nat) : State :=
  match (s.ctx g).stopping with
  | some (pc, w) => if (s.ctx g).carryPending then s else s.stopTask g pc w
  | none => s

/-- Some task holds scratchpad of a core (R179). -/
def State.allocated (s : State) (c : Nat) : Bool := (s.die (dieOfCore c)).compass.tasks.any (fun q => q.2.core == some c && !q.2.units.isEmpty)

/-- A pending spad.hash takes effect at the first moment at which the core holds no scratchpad allocation (R179). -/
def State.settleHash (s : State) (c : Nat) : State :=
  match (s.core c).hashPend with
  | none => s
  | some v => if s.allocated c then s else s.modCore c (fun k => { k with hash := w64 (bits v 59 0 + bits v 63 60 * 2 ^ 60), hashPend := none })

/-- An ended task gives up its tiles and its scratchpad, and is forgotten once its graph is (R22, R140). -/
def State.freeAlloc (s : State) (d u : Nat) : State :=
  match s.task? d u with
  | none => s
  | some t =>
    (if (s.graph? d t.graph).isNone then s.modDie d (fun k => { k with compass := { k.compass with tasks := del u k.compass.tasks } })
    else s.setTask d u { t with units := [], tiles := [], core := none, closing := false }).settleHash (t.core.getD 0)

/-- Cause 0x06 ends the task (R124): no handler; the record becomes FAULTED with fault code 3. -/
def State.endFaulted (s : State) (g : Nat) (pc info : W64) : State :=
  let s := s.modCtx g (fun c => { c with trap := { c.trap with cause := 6, pc := pc, info := info } })
  s.leaveContext g (.faulted 3)

/-- A trap is fatal while a handler is active or none is installed (R163). -/
def TrapRegs.fatal (t : TrapRegs) : Bool := bit t.cause 8 || !bit t.vec 0

/-- The handler entry of R162. -/
def Ctx.enterHandler (c : Ctx) (cause : Nat) (pc info : W64) : Ctx :=
  { c with trap := { c.trap with cause := w64 (256 + cause), pc := pc, info := info }, pc := w64 (bits c.trap.vec 56 5 * 32), wait := none,
           entryLevels := c.levels }

/-- A context takes a trap (R124, R162, R163): cause 0x06 ends the task; a fatal trap is reported and ends the task; every other
one enters the handler. -/
def State.takeTrap (s : State) (g cause : Nat) (pc info : W64) : State :=
  if cause = 6 then s.endFaulted g pc info
  else if (s.ctx g).trap.fatal then
    let s := s.errorRecord (dieOfCtx g) 3 (coreOfCtx g % 64) (causeEngine cause info) 0 (w64 cause) pc info (s.recordOf g)
    s.endFaulted g pc 0
  else s.modCtx g (fun c => c.enterHandler cause pc info)

/-- A slot raises a cause: within a bundle it is noted, the first one standing, and the bundle commits nothing (R19, R47); an
instruction run by itself takes it. -/
def State.raise (s : State) (cause : Nat) (info : W64) : State :=
  if s.bun.on then s.modBun (fun f => { f with trap := some (f.trap.getD (cause, info)) })
  else s.takeTrap s.cur cause s.me.pc info

/-- A slot must wait: the bundle stalls and commits nothing (R42); an instruction run by itself leaves the state as it is. -/
def State.stall (s : State) : State := if s.bun.on then s.modBun (fun f => { f with stall := true }) else s

/-- A slot waits for an engine or for accesses, its operands being there: the bundle stalls, but causes of its slots are raised (R42, R47). -/
def State.hold (s : State) : State := if s.bun.on then s.modBun (fun f => { f with busy := true }) else s

/-- A slot waits for an access that may have to ask a home for an owner first (R362). -/
def State.holdFor (s : State) (n : Option (Nat × Nat)) : State :=
  if s.bun.on then s.modBun (fun f => { f with busy := true, need := f.need.or n }) else s

/-- A slot that waits while `c` holds (R42). -/
def State.waitWhile (s : State) (c : Bool) (k : State) : State := if c then s.hold else k

/-- A request is not of the bundle in flight: what a slot waits for lies before its bundle (R19). -/
def State.before (s : State) (id : Nat) : Bool := !s.bun.on || decide (id < s.bun.first)

/-- The stall of a slot that waits for dependency entries to be probed and dropped (R188, R194). -/
def State.stallProbing (s : State) : State :=
  if s.bun.on then s.modBun (fun f => { f with busy := true, probe := true }) else s

/-- The return from a handler: the pc takes trap.pc and act becomes 0 (R164). -/
def Ctx.returnFromHandler (c : Ctx) : Ctx :=
  { c with pc := w64 (c.trap.pc.toNat / 32 * 32), trap := { c.trap with cause := w64 (bits c.trap.cause 7 0) } }

/-- trap.info for causes that name the slot and its word (R48, R165). -/
def State.slotInfo (s : State) : W64 := w64 (s.bun.slot * 2 ^ 32 + s.bun.word.toNat)

/-- A slot that finds an undefined encoding at issue (R48). -/
def State.undefinedEncoding (s : State) : State := s.raise 1 s.slotInfo

/-- A fresh number for a message, a load or a command. -/
def State.fresh (s : State) : Nat × State := (s.nextId, { s with nextId := s.nextId + 1 })

/-- The core row of row i of task tile k of a task (R127), if it holds the tile. -/
def Task.row? (t : Task) (k i : Nat) : Option Nat := (t.tiles[k]?).map (fun p => p * 128 + i)

/-- Row n of a core; an invalid row reads 0 (R236). -/
def Core.row (k : Core) (n : Nat) : Row := getD n 0 k.rows

/-- The core address of offset A of a task's scratchpad (R177). -/
def Task.spadAddr (t : Task) (a : Nat) : Nat := t.units.getD (a / 65536) 0 * 65536 + a % 65536

/-- The size of a task's scratchpad allocation (R177). -/
def Task.spadBytes (t : Task) : Nat := t.units.length * 65536

/-- Usable scratchpad: neither the barrier page nor the shadow stack (R177). -/
def Task.usable (t : Task) (a n : Nat) : Bool := decide (4096 ≤ a) && decide (a + n + 16384 ≤ t.spadBytes)

/-- Bytes of a task's scratchpad; a granule that was never written reads 0 (R178). -/
def State.spadRead (s : State) (c : Nat) (t : Task) (a n : Nat) : List Byte :=
  (upFrom a n).map (fun x => cellGet (s.core c).spad (t.spadAddr x))

/-- The granules that n bytes from offset a touch. -/
def Task.granules (t : Task) (a n : Nat) : List Nat :=
  if n = 0 then [] else (upFrom (a / 1024) ((a + n - 1) / 1024 - a / 1024 + 1)).map (fun k => t.spadAddr (k * 1024) / 1024)

/-- A number put into a rising list of numbers. -/
def insertNat (x : Nat) : List Nat → List Nat
  | [] => [x]
  | y :: ys => if x = y then y :: ys else if x < y then x :: y :: ys else y :: insertNat x ys

/-- The scratchpad words of a core that n bytes from a task's offset touch, by core address / 32. -/
def Task.spadWords (t : Task) (a n : Nat) : List Nat :=
  if n = 0 then [] else (upFrom (a / 32) ((a + n - 1) / 32 - a / 32 + 1)).map (fun k => t.spadAddr (k * 32) / 32)

/-- The words that a write of n bytes at offset a covers whole. -/
def Task.wholeWords (t : Task) (a n : Nat) : List Nat :=
  (upFrom ((a + 31) / 32) ((a + n) / 32 - (a + 31) / 32)).map (fun k => t.spadAddr (k * 32) / 32)

/-- Some byte of a task's scratchpad range has an uncorrectable error (R448). -/
def State.spadBad (s : State) (c : Nat) (t : Task) (a n : Nat) : Bool :=
  let bad := (s.core c).badSpad
  if bad.isEmpty then false else (t.spadWords a n).any bad.contains

/-- trap.info of cause 0x16 (R448). -/
def info16 (src addr : Nat) : W64 := w64 (src * 2 ^ 60 + addr % 2 ^ 52)

/-- Bytes written into a task's scratchpad, with the written bits of their granules (R178); words written whole are good again. -/
def State.spadWrite (s : State) (c : Nat) (t : Task) (a : Nat) (bs : List Byte) : State :=
  s.modCore c (fun k =>
    { k with
      spad := ((upFrom a bs.length).zip bs).foldl (fun m p => cellPut m (t.spadAddr p.1) p.2) k.spad
      badSpad := if k.badSpad.isEmpty then [] else k.badSpad.filter (fun w => !(t.wholeWords a bs.length).contains w)
      written := (t.granules a bs.length).foldl (fun w x => insertNat x w) k.written })

/-- The words of a task's scratchpad that n bytes touch marked as holding an uncorrectable error: what was written there came from a bad word (R36). -/
def State.spoilSpad (s : State) (c : Nat) (t : Task) (a n : Nat) : State :=
  s.modCore c (fun k => { k with badSpad := (t.spadWords a n).foldl (fun m w => insertNat w m) k.badSpad })

/-- Rows and poison marks of a core written (R200, R236). -/
def State.putRow (s : State) (c n : Nat) (r : Row) : State :=
  s.modCore c (fun k => { k with rows := put n r k.rows, rowPoison := del n k.rowPoison })

end Sys2Proof.Machine
end

