-- ==== Sys2Proof/Machine/Operands.lean ====
section
/-! DEFINITION. Operand forms: guards (R49), scalar specifiers as sources and destinations (R50, R51), register groups, queue latches
(R52), and lane masks' predicates. Sources are read as they stood before the bundle (R19); destinations are written at once into the
live context, which no other slot of the bundle reads. -/

namespace Sys2Proof.Machine

/-- What reading a source gives: its value, a wait for a result not yet available (R20, R42), or a cause raised at consumption (R34). -/
inductive Rd where
  | ok (v : W64)
  | wait
  | trap (cause : Nat) (info : W64)
deriving DecidableEq, Repr

/-- True while a write to the register is pending (R20, R145). -/
def Ctx.pending (c : Ctx) (n : Nat) : Bool := c.pend.any (fun p => p.1 == n) || (n == 85 && c.l5.waiting)

/-- Register n of the s, o and l registers by its specifier (R50, R143). -/
def Ctx.reg (c : Ctx) (n : Nat) : W64 := getD n 0 c.regs

/-- l5 is written at once: a pending status of an earlier writer is discarded (R26). -/
def Ctx.endL5 (c : Ctx) (n : Nat) : L5 := if n = 85 then ⟨c.l5.tok, false⟩ else c.l5

/-- A register written; a poison mark is cleared (R200). -/
def Ctx.setReg (c : Ctx) (n : Nat) (v : W64) : Ctx := { c with regs := put n v c.regs, poison := del n c.poison, l5 := c.endL5 n }

/-- A register marked poisoned (R200): its cause has not been raised. -/
def Ctx.poisonReg (c : Ctx) (n : Nat) (q : Poison) : Ctx :=
  { c with poison := put n q c.poison, l5 := c.endL5 n, raised := c.raised.filter (fun x => x != n) }

/-- A pending write of a register is made, with the strides that it has met (R145, R150). -/
def Ctx.landReg (c : Ctx) (n : Nat) (v : W64) : Ctx := { (c.setReg n (v + getD n 0 c.addends)) with addends := del n c.addends }

/-- Predicate k; p0 reads 1 (R143). -/
def Ctx.p (c : Ctx) (k : Nat) : Bool := k == 0 || bitN c.pred.toNat k

/-- A predicate written; p0 cannot be (R143, R147). -/
def Ctx.setP (c : Ctx) (k : Nat) (v : Bool) : Ctx :=
  if k = 0 then c else { c with pred := BitVec.ofNat 8 (setBitsN c.pred.toNat k k (b2n v)) }

/-- The group whose queues are bound to the latches of a context, with them: that of the membership of its task (R52, R426). -/
def State.latches (s : State) (g : Nat) : Option (Nat × Map (List W64)) :=
  (s.ctx g).task.bind (fun u => ((s.die (dieOfCtx g)).coll.grps.find? (fun q => q.2.member == some u && q.2.bound)).map (fun q => (q.1, q.2.queues)))

/-- The entries behind queue latch k. -/
def latchOf (b : Option (Nat × Map (List W64))) (k : Nat) : List W64 := match b with | none => [] | some q => getD k [] q.2

/-- The head of queue k of a group holds an uncorrectable error: its trap.info (R448). -/
def State.headBad (s : State) (d grp k : Nat) : Option W64 :=
  match (s.die d).coll.grps.find? (fun q => q.1 == grp) with
  | none => none
  | some q => (q.2.spoilt.find? (fun x => x.1 == k && x.2.1 == 0)).map (fun x => info16 6 x.2.2)

/-- The entries behind the queue latch k of a context. -/
def State.latch (s : State) (g k : Nat) : List W64 := latchOf (s.latches g) k

/-- The entries behind queue latch k as the slots of a bundle read them: as before the bundle (R19, R52). -/
def State.preLatch (s : State) (k : Nat) : List W64 := if s.bun.on then latchOf s.bun.latches k else s.latch s.cur k

/-- A source specifier read in a context (R50); a queue latch is read by State.source. -/
def Ctx.source (c : Ctx) (x : BitVec 7) : Rd :=
  let n := x.toNat
  if n < 86 then
    if c.pending n then .wait
    else match find? n c.poison with
      | some q => .trap q.cause q.info
      | none => .ok (c.reg n)
  else if n < 88 then .trap 1 0
  else if n < 96 then .wait
  else .ok (w64 (wrapN 64 ((n : Int) - 112)))

/-- A source specifier read by a slot (R50, R52). -/
def State.source (s : State) (x : BitVec 7) : Rd :=
  let n := x.toNat
  if 88 ≤ n && n < 96 then (match (s.preLatch (n - 88)).head? with
    | some v => (match (if s.bun.on then s.bun.latches else s.latches s.cur) with
      | some q => (match s.headBad (dieOfCtx s.cur) q.1 (n - 88) with | some i => .trap 0x16 i | none => .ok v)
      | none => .ok v)
    | none => .wait) else s.pre.source x

/-- Continue with the value of a source, or wait, or raise (R42, R34). -/
def State.withSource (s : State) (x : BitVec 7) (k : W64 → State) : State :=
  match s.source x with
  | .ok v => k v
  | .wait => s.stall
  | .trap c i => s.raise c (if c = 1 then s.slotInfo else i)

/-- Continue with the values of two sources; a wait comes before a cause (R47). -/
def State.with2 (s : State) (a b : BitVec 7) (k : W64 → W64 → State) : State :=
  match s.source a, s.source b with
  | .wait, _ => s.stall
  | _, .wait => s.stall
  | _, _ => s.withSource a (fun x => s.withSource b (fun y => k x y))

/-- Continue with three sources. -/
def State.with3 (s : State) (a b c : BitVec 7) (k : W64 → W64 → W64 → State) : State :=
  match s.source a, s.source b, s.source c with
  | .wait, _, _ => s.stall
  | _, .wait, _ => s.stall
  | _, _, .wait => s.stall
  | _, _, _ => s.withSource a (fun x => s.withSource b (fun y => s.withSource c (fun z => k x y z)))

/-- Continue unless a write to one of the destinations is pending (R145); a destination of l5 never waits (R26). -/
def State.withDests (s : State) (ns : List Nat) (k : State) : State :=
  if ns.any (fun n => n != 85 && s.pre.pending n) then s.stall else k

/-- A value written to a scalar destination. -/
def State.writeReg (s : State) (d : BitVec 7) (v : W64) : State := s.modMe (fun c => c.setReg d.toNat v)

/-- A predicate written. -/
def State.writePred (s : State) (k : BitVec 3) (v : Bool) : State := s.modMe (fun c => c.setP k.toNat v)

/-- The predicate a guard or selector names: none while its write is pending. -/
def Ctx.guardValue (c : Ctx) (g : BitVec 4) : Option Bool :=
  let k := g.toNat % 8
  if c.pending (128 + k) then none else some (c.p k != bitN g.toNat 3)

/-- A slot with a guard: a false guard leaves everything as it is, and the slot never stalls (R49). -/
def State.guarded (s : State) (g : BitVec 4) (k : State) : State :=
  match s.pre.guardValue g with
  | none => s.stall
  | some true => k
  | some false => s

/-- A guarded slot with a scalar destination (R49, R145). -/
def State.toReg (s : State) (g : BitVec 4) (d : BitVec 7) (k : State) : State := s.guarded g (s.withDests [d.toNat] k)

/-- A guarded slot with a predicate destination (R49, R145). -/
def State.toPred (s : State) (g : BitVec 4) (d : BitVec 3) (k : State) : State := s.guarded g (s.withDests [128 + d.toNat] k)

/-- The registers of a group, lowest first (R51). -/
def groupRegs (d : BitVec 7) (k : Nat) : List Nat := upFrom d.toNat k

/-- Continue with the values of a group of registers, lowest first. -/
def State.withGroup (s : State) (d : BitVec 7) (n : Nat) (k : List W64 → State) : State :=
  let rs := (groupRegs d n).map (fun r => s.pre.source (BitVec.ofNat 7 r))
  if rs.any (fun r => r == .wait) then s.stall
  else match rs.find? (fun r => match r with | .trap _ _ => true | _ => false) with
    | some (.trap c i) => s.raise c i
    | _ => k (rs.map (fun r => match r with | .ok v => v | _ => 0))

/-- A command or load that writes l5 becomes its last-issued writer (R26). -/
def State.claimL5 (s : State) (g tok : Nat) : State := s.modCtx g (fun c => { c with l5 := ⟨tok, true⟩, poison := del 85 c.poison })

/-- The status of a command for l5: taken only from the writer issued last (R26). -/
def State.deliverL5 (s : State) (g tok : Nat) (v : W64) : State :=
  let c := s.ctx g
  if c.l5.waiting && c.l5.tok == tok then s.setCtx g { (c.setReg 85 v) with l5 := ⟨tok, false⟩ } else s

-- Pending traps --------------------------------------------------------------------------------------------------------------

/-- The poison marks of a context and of its task's rows whose cause has not been raised (R34, R200), each with its number in `raised`. A
storage error of a row, or of a register file, that nothing has read raises nothing (R36). -/
def State.freshMarks (s : State) (g : Nat) : List (Nat × Poison) :=
  let c := s.ctx g
  let tiles := match s.boundTask g with | none => [] | some t => t.tiles
  let rows := ((s.core (coreOfCtx g)).rowPoison.filter (fun q => tiles.contains (q.1 / 128) && !(q.2.cause == 0x16 && bits q.2.info 63 60 == 4))).map (fun q => (256 + q.1, q.2))
  let regs := c.poison.filter (fun q => !(q.2.cause == 0x16 && bits q.2.info 63 60 == 6 && decide (bits q.2.info 51 0 < 2 ^ 24)))
  (regs ++ rows).filter (fun q => !c.raised.contains q.1)

/-- The cause of a poison mark has been raised (R34). -/
def State.markRaised (s : State) (g cause : Nat) (info : W64) : State :=
  let ns := ((s.freshMarks g).filter (fun q => q.2.cause == cause && q.2.info == info)).map (fun q => q.1)
  s.modCtx g (fun c => { c with raised := ns ++ c.raised })

/-- The pending trap that a synchronisation bundle takes (R34): that of the lowest cause. -/
def State.lowestPending (s : State) (g : Nat) : Option (Nat × W64) :=
  let all := ((s.ctx g).deferred.map (fun d => (d.1, d.2.info))) ++ (s.freshMarks g).map (fun q => (q.2.cause, q.2.info))
  (sortBy (fun (a b : Nat × W64) => decide (a.1 ≤ b.1)) all).head?

/-- A pending trap is taken at the context's PC. -/
def State.takeOne (s : State) (g : Nat) : Option (Nat × W64) → State
  | none => s
  | some (cause, info) =>
    let s := (s.modCtx g (fun c => { c with deferred := del cause c.deferred })).markRaised g cause info
    s.takeTrap g cause (s.ctx g).pc info

/-- A synchronisation bundle takes a pending trap (R34). -/
def State.takePending (s : State) (g : Nat) : State := s.takeOne g (s.lowestPending g)

/-- A bundle that raises a precise cause takes the pending deferred trap of the lowest cause first (R34, R47). -/
def State.takeDeferred (s : State) (g : Nat) : State := s.takeOne g ((s.ctx g).deferred.head?.map (fun d => (d.1, d.2.info)))

-- Rows of the bound tile ------------------------------------------------------------------------------------------------------

/-- The row of its tile that vector register k names (R234). -/
def Ctx.rowOfReg (c : Ctx) (k : Nat) : Nat := if k < 96 then k else 96 + (k - 96 + 32 - bits c.vrot 12 8) % 32

/-- A tile is bound (R232). -/
def Ctx.bound (c : Ctx) : Bool := bit c.vbind 63

/-- The fields of vbind (R232). -/
def Ctx.laneType (c : Ctx) : Nat := bits c.vbind 5 0
def Ctx.vecRnd (c : Ctx) : Nat := bits c.vbind 15 13
def Ctx.vecOvf (c : Ctx) : Bool := bit c.vbind 16

/-- The core row that vector register k names for the context that runs (R127, R234). -/
def State.vrow (s : State) (k : Nat) : Nat :=
  match s.boundTask s.cur with
  | none => 0
  | some t => (t.row? (bits s.pre.vbind 9 8) (s.pre.rowOfReg k)).getD 0

/-- A row of the core is being written by an array instruction of the context's task, or (for a writer) read by one (R237, R295). -/
def State.arrayHolds (s : State) (g row : Nat) (writer : Bool) : Bool :=
  let u := (s.ctx g).task
  (s.core (coreOfCtx g)).array.queue.any (fun q => u == some q.2.tag.u && s.before q.1 && q.2.rows.any (fun h => h.1 == row && (writer || h.2)))

/-- An array instruction of the context's task has not yet read some byte of a scratchpad extent (R294). -/
def State.arrayReads (s : State) (g a n : Nat) : Bool :=
  let u := (s.ctx g).task
  (s.core (coreOfCtx g)).array.queue.any (fun q => u == some q.2.tag.u && s.before q.1 && q.2.reads.any (fun r => decide (r.1 < a + n) && decide (a < r.1 + r.2)))

/-- A slot reads a result that faulting work writes: its bundle is a synchronisation bundle (R34). -/
def State.syncRead (s : State) : State := if s.bun.on then s.modBun (fun f => { f with sync := true, stall := true }) else s.takePending s.cur

/-- A core row that the context reads is not there yet: a write to it is pending, or the array writes it (R20, R237). -/
def State.rowWaits (s : State) (r : Nat) : Bool := s.pre.pending (256 + r) || s.arrayHolds s.cur r false

/-- A core row that the context writes is not free yet (R145, R237). -/
def State.destWaits (s : State) (r : Nat) : Bool := s.pre.pending (256 + r) || s.arrayHolds s.cur r true

/-- A row is a result that faulting work writes (R34). -/
def State.rowFaulted (s : State) (r : Nat) : Bool := s.pre.deferred.any (fun d => d.2.rows.contains r)

/-- A slot with several vector registers and scalar sources goes on once all of them are there: only then does it raise a cause (R42, R47). -/
def State.settled (s : State) (rows dests : List Nat) (xs : List (BitVec 7)) (k : State) : State :=
  if rows.any (fun r => s.rowFaulted (s.vrow r)) then s.syncRead
  else if rows.any (fun r => s.rowWaits (s.vrow r)) || dests.any (fun r => s.destWaits (s.vrow r)) || xs.any (fun x => s.source x == .wait) then s.stall
  else k

/-- Continue with a row read as it stood before the bundle (R19, R237); poison is raised when `reads` (R240). -/
def State.withRow (s : State) (k : Nat) (reads : Bool) (f : Row → State) : State :=
  let r := s.vrow k
  if s.rowFaulted r then s.syncRead
  else if s.rowWaits r then s.stall
  else match (if reads then find? r s.preMarks else none) with
    | some p => s.raise p.cause p.info
    | none => f (getD r 0 s.preRows)

/-- Continue with the core row that is written, unless a write to it is pending or the array holds it (R145, R237). -/
def State.withRowDest (s : State) (k : Nat) (f : Nat → State) : State :=
  let r := s.vrow k
  if s.destWaits r then s.stall else f r

/-- A row written; the poison mark is cleared when all of it is (R240). -/
def State.writeRow (s : State) (r : Nat) (v : Row) (whole : Bool) : State :=
  s.modCore s.myCore (fun k => { k with rows := put r v k.rows, rowPoison := if whole then del r k.rowPoison else k.rowPoison })

end Sys2Proof.Machine
end

