-- ==== Sys2Proof/Machine/Mem.lean ====
section
/-! DEFINITION. Global memory: windows (R174), footprints (R124), homes and owners (R353, R354, R362), page tables and their checks
(R355, R356, R358, R96), frontiers and coverage (R363, R365), bytes with their stamps (R185, R189), requests and their routing
(R187 to R191, R362, R370). -/

namespace Sys2Proof.Machine

/-- Window word j of a window set (R175). -/
def wndWord (w : Map W64) (j : Nat) : W64 := getD j 0 w

/-- Window k matches VA x (R174). -/
def windowMatches (w : Map W64) (k x : Nat) : Bool :=
  let w0 := wndWord w (2 * k)
  let w1 := wndWord w (2 * k + 1)
  let lsz := bits w0 62 57
  bit w0 63 && decide (lsz ≤ 36) && bits w0 56 16 % 2 ^ lsz == 0 && bits w1 63 28 % 2 ^ lsz == 0 && decide (x < 2 ^ 57) &&
    x / 2 ^ (16 + lsz) == bits w0 56 16 / 2 ^ lsz

/-- The lowest-numbered window that matches a VA. -/
def windowOf (w : Map W64) (x : Nat) : Option Nat := (upFrom 0 8).find? (fun k => windowMatches w k x)

/-- The IA of a VA through window k (R174). -/
def windowIA (w : Map W64) (k x : Nat) : Nat :=
  bits (wndWord w (2 * k + 1)) 63 28 * 2 ^ 16 + x % 2 ^ (16 + bits (wndWord w (2 * k)) 62 57)

/-- The scale distance D of window k (R175). -/
def windowSD (w : Map W64) (k : Nat) : Int := signedN 28 (bits (wndWord w (2 * k + 1)) 27 0) * 2 ^ 16

/-- Translation of `n` bytes at VA x: the IA and the window; none on a window miss (R174). -/
def translate (w : Map W64) (x n : Nat) : Option (Nat × Nat) :=
  match windowOf w x with
  | none => none
  | some k => if n ≤ 1 || windowMatches w k (x + n - 1) then some (windowIA w k x, k) else none

/-- The IA of a scale byte at distance D (R95, R175). -/
def scaleIA (ia : Nat) (sd : Int) : Nat := wrapN 52 (sd + (ia / 32 : Nat))

/-- The first byte of [a, a + n) that lies in no region whose mode allows the direction (R124). -/
def fpMiss (rs : List Region) (wr : Bool) : Nat → Nat → Nat → Option Nat
  | 0, a, n => if n = 0 then none else some a
  | fuel + 1, a, n =>
    if n = 0 then none
    else
      match rs.find? (fun r => decide (r.base ≤ a) && decide (a < r.base + r.len) && (if wr then r.mode / 2 == 1 else r.mode % 2 == 1)) with
      | none => some a
      | some r => let m := r.base + r.len - a; if n ≤ m then none else fpMiss rs wr fuel (a + m) (n - m)

/-- The footprint check (R124, R219): the IA of an access that no one region whose mode allows the direction covers whole (log 76). -/
def footprintMiss (rs : List Region) (wr : Bool) (a n : Nat) : Option Nat :=
  if n = 0 || rs.any (fun r => decide (r.base ≤ a) && decide (a + n ≤ r.base + r.len) && (if wr then r.mode / 2 == 1 else r.mode % 2 == 1)) then none
  else some a

/-- The footprint check of an access that reads and writes: one region of mode rw covers it (R124, R328; log 76). -/
def rwMiss (rs : List Region) (a n : Nat) : Option Nat := footprintMiss (rs.filter (fun r => r.mode == 3)) true a n

/-- trap.info of cause 0x06 (R124). -/
def fpInfo (wr : Bool) (ia : Nat) : W64 := w64 (b2n wr * 2 ^ 63 + ia % 2 ^ 52)

/-- The home of an IA by a die's copy of the home table, which holds die IDs (R14, R353). -/
def State.homeOf (s : State) (d ia : Nat) : Nat := s.dieAt d (getD (chash 0 (ia / 2 ^ 25) / 2 ^ 20) 0 (s.die d).htab)

/-- The entry of a page in a map of pages: the 64 KiB page's, or that of the 32 MiB page that holds it. -/
def pageFind? {α : Type} (big : α → Bool) (p : Nat) (m : Map α) : Option (Nat × α) :=
  match find? p m with
  | some a => some (p, a)
  | none => match find? (p - p % 512) m with
    | some a => if big a then some (p - p % 512, a) else none
    | none => none

/-- The home record of the page of an IA, as die d finds it (R353, R354). -/
def State.homeRec? (s : State) (d ia : Nat) : Option (Nat × HomeRec) := pageFind? HomeRec.big (ia / 65536) (s.die (s.homeOf d ia)).homeRecs

/-- The page of an IA that a die owns. -/
def State.ownPage? (s : State) (t ia : Nat) : Option (Nat × PageSt) := pageFind? PageSt.big (ia / 65536) (s.die t).pages

/-- What a walk finds (R355, R356): a leaf with the PA of its entry, its level and its bits. -/
inductive Walk where
  | nonResident (pa : Nat)
  /-- the entry at pa is malformed: with its bits when it is a leaf, else none. -/
  | malformed (pa : Nat) (leaf : Option Nat)
  | leaf (pa : Nat) (big : Bool) (e : Nat)
deriving DecidableEq, Repr

/-- The geometries a format allows (R95, R96). -/
def geoOk (f g : Nat) : Bool :=
  match g with
  | 0 => true
  | 1 => mxElemCode f
  | 2 => mxElemCode f
  | 3 => f != 0
  | _ => false

/-- A leaf entry that is malformed (R96, R356). -/
def leafMalformed (big : Bool) (e : Nat) : Bool :=
  let f := bitsN e 54 49
  (fmtOf f).isNone || !geoOk f (bitsN e 48 45) || bitsN e 41 40 != 0 || (big && bitsN e 24 16 != 0) ||
    decide (hbmBytes < bitsN e 39 16 * 65536 + (if big then 2 ^ 25 else 65536))

/-- A table pointer that is malformed (R356). -/
def pointerMalformed (e : Nat) : Bool :=
  bitsN e 62 43 != 0 || bitN e 42 || bitsN e 41 40 != 0 || bitsN e 11 0 != 0 || decide (hbmBytes < bitsN e 39 12 * 4096 + 4096)

/-- The walk from a table on through the levels named by their lowest index bit (R355). -/
def State.walkFrom (s : State) (t ia : Nat) : Nat → List Nat → Walk
  | table, [] => .malformed table none
  | table, lo :: ls =>
    let pa := table + 8 * (ia / 2 ^ lo % 512)
    let e := ofBytes (s.readPA t pa 8)
    if !bitN e 63 then .nonResident pa
    else if lo = 16 then (if bitN e 42 || leafMalformed false e then .malformed pa (some e) else .leaf pa false e)
    else if lo = 25 && bitN e 42 then (if leafMalformed true e then .malformed pa (some e) else .leaf pa true e)
    else if pointerMalformed e then .malformed pa none
    else s.walkFrom t ia (bitsN e 39 12 * 4096) ls

/-- The walk of a die for an IA (R355). -/
def State.walk (s : State) (t ia : Nat) : Walk :=
  let root := bits (s.die t).haRoot 39 12 * 4096
  if hbmBytes < root + 4096 then .malformed root none else s.walkFrom t ia root [43, 34, 25, 16]

/-- The PA of an IA under a leaf. -/
def leafPA (big : Bool) (e ia : Nat) : Nat := bitsN e 39 16 * 65536 + ia % (if big then 2 ^ 25 else 65536)

/-- The access a request makes (R358). -/
inductive Access where
  | load | store
  /-- a spill or refill of the shadow stack (R155): a write or a read. -/
  | spill (wr : Bool)
  /-- a fetch, with the x its lease recorded; the page's r counts too (R373). -/
  | fetch (x : Bool)
deriving DecidableEq, Repr

def Access.isSpill : Access → Bool
  | .spill _ => true
  | _ => false

/-- The answer of the owner's checks: denied for a reason of R358, or the leaf with the PA. -/
inductive Check where
  | denied (why : Nat)
  | ok (pa e : Nat)
deriving DecidableEq, Repr

/-- The checks 1 to 3 of R358 at the owner. -/
def State.checkAt (s : State) (t ia : Nat) (a : Access) : Check :=
  match s.walk t ia with
  | .nonResident _ => .denied 4
  | .malformed _ _ => .denied 2
  | .leaf _ big e =>
    let pa := leafPA big e ia
    if bitN e 43 && !a.isSpill then .denied 3
    else match a with
      | .load => if bitN e 62 then .ok pa e else .denied 0
      | .store => if bitN e 61 then .ok pa e else .denied 0
      | .spill wr => if bitN e (if wr then 61 else 62) then .ok pa e else .denied 0
      | .fetch x => if !x then .denied 1 else if bitN e 62 then .ok pa e else .denied 0

/-- The key, format and geometry of a leaf (R355). -/
def leafKey (e : Nat) : Nat := bitsN e 59 55
def leafFmt (e : Nat) : Nat := bitsN e 54 49
def leafGeo (e : Nat) : Nat := bitsN e 48 45

/-- trap.info of cause 0x08 (R358), with the IA of the sector. -/
def info08 (fetch : Bool) (why ia : Nat) : W64 := w64 (b2n fetch * 2 ^ 63 + why * 2 ^ 60 + ia % 2 ^ 52 / 32 * 32)

/-- The cause and trap.info of a denied read: a page denial for a reason of R358, or for 8 + src an uncorrectable error (R448). -/
def denialPoison (fetch : Bool) (why ia : Nat) : Poison := if 8 ≤ why then ⟨0x16, info16 (why - 8) ia⟩ else ⟨8, info08 fetch why ia⟩

/-- trap.info of cause 0x07 (R202), with the IA of the sector. -/
def info07 (ia key : Nat) : W64 := w64 (key * 2 ^ 54 + ia % 2 ^ 52 / 32 * 32)

/-- pkr lets loads reach a key (R200). -/
def keyReads (pkr : W64) (key : Nat) : Bool := bit pkr (2 * key)

/-- The write-enable vector of a pkr (R201). -/
def writeVector (pkr : W64) : Nat := ((upFrom 0 32).map (fun k => b2n (bit pkr (2 * k + 1)) * 2 ^ k)).foldl (· + ·) 0

/-- The frontier of origin o at die t (R363). -/
def State.frontier (s : State) (t o : Nat) : Nat := (getD o ⟨0, []⟩ (s.die t).fronts).f

/-- Advance a frontier over the numbers above it that are resolved. -/
def Front.advance : Nat → Front → Front
  | 0, x => x
  | k + 1, x => if x.above.contains (x.f + 1) then Front.advance k ⟨x.f + 1, x.above.filter (· != x.f + 1)⟩ else x

/-- A write number is resolved at a die (R363). -/
def Front.resolve (x : Front) (n : Nat) : Front :=
  if n ≤ x.f || x.above.contains n then x else Front.advance (x.above.length + 1) ⟨x.f, n :: x.above⟩

def State.resolve (s : State) (t o n : Nat) : State := s.modDie t (fun k => { k with fronts := put o ((getD o ⟨0, []⟩ k.fronts).resolve n) k.fronts })

/-- Die t's frontiers cover an entry that names it (R363). -/
def State.covered (s : State) (e : Ent) : Bool := decide (e.seq ≤ s.frontier e.target e.origin)

/-- An entry of a request to a page at die t is covered there: by its frontier, by the page's lineage (R365), or it names another die. -/
def State.coveredAt (s : State) (t : Nat) (lin : List Lin) (e : Ent) : Bool :=
  if e.target = t then s.covered e
  else match lin.find? (fun l => l.die == e.target) with
    | some l => decide (e.seq ≤ getD e.origin 0 l.frontier)
    | none => true

/-- Every entry of a request is covered at die t for the page of an IA (R363, R365). -/
def State.allCovered (s : State) (t ia : Nat) (es : List Ent) : Bool :=
  let lin := match s.ownPage? t ia with | some (_, p) => p.lineage | none => []
  es.all (fun e => s.coveredAt t lin e)

/-- Entries merged: of one origin and target the higher number stays (R188). -/
def mergeEnt (es : List Ent) (e : Ent) : List Ent :=
  match es with
  | [] => [e]
  | x :: xs => if x.origin = e.origin && x.target = e.target then (if x.seq < e.seq then e :: xs else x :: xs) else x :: mergeEnt xs e

/-- An entry merged into a dependency set at a tick, brought by a load (R188). -/
def mergeDep (tick tok : Nat) (ds : List Dep) (e : Ent) : List Dep :=
  match ds with
  | [] => [⟨e, tick, false, tok⟩]
  | x :: xs => if x.ent.origin = e.origin && x.ent.target = e.target
    then (if x.ent.seq < e.seq then ⟨e, tick, false, Nat.min tok x.brought⟩ :: xs else { x with brought := Nat.min tok x.brought } :: xs)
    else x :: mergeDep tick tok xs e

/-- Entries with which an answer would leave a dependency set (R189, R190). -/
def mergedDeps (tick tok : Nat) (ds : List Dep) (es : List Ent) : List Dep := es.foldl (mergeDep tick tok) ds

/-- A causal write consumes a sequence number of its target (R187). -/
def MKind.causal : MKind → Bool
  | .write => true
  | .atomic _ => true
  | _ => false

/-- A request that belongs to the task now bound to a context. -/
def Msg.ownedBy (m : Msg) (g : Nat) (u : Option Nat) : Bool := m.g == g && m.task == u

/-- For each target, the highest number of the unacknowledged causal writes of a context, of those whose number among the requests is given (R188). -/
def State.ownOf (s : State) (g : Nat) (p : Nat → Bool) : List Ent :=
  let u := (s.ctx g).task
  s.net.foldl (fun es q =>
    if p q.1 && q.2.ownedBy g u && q.2.kind.causal then q.2.ids.foldl (fun es i => mergeEnt es ⟨q.2.origin, i.1, i.2⟩) es else es) []

/-- The own entries of a context as its bundle sees them (R19, R188). -/
def State.ownEnts (s : State) (g : Nat) : List Ent := s.ownOf g s.before

/-- Those that a request takes when it leaves: the earlier accesses of its own bundle, and the earlier parts of its own access, count (R182, R184). -/
def State.ownSent (s : State) (g : Nat) : List Ent := s.ownOf g (fun _ => true)

/-- The pending set of a context (R188). -/
def State.pendingSet (s : State) (g : Nat) : List Ent := (s.ownEnts g).foldl mergeEnt ((s.ctx g).deps.map Dep.ent)

/-- Requests of a context that are not finished. -/
def State.outstanding (s : State) (g : Nat) (p : Msg → Bool) : Bool :=
  let u := (s.ctx g).task
  s.net.any (fun q => s.before q.1 && q.2.ownedBy g u && p q.2)

/-- Some load of the context has not returned (R193, R194). -/
def State.loadsOut (s : State) (g : Nat) : Bool := (s.ctx g).loads.any (fun l => s.before l.1 && l.2.kind != .cacheOnly)

/-- Some acquire of the context has not returned (R192). -/
def State.acquireOut (s : State) (g : Nat) : Bool := (s.ctx g).loads.any (fun l => s.before l.1 && l.2.acquire)

/-- Some causal write of the context has not been acknowledged. -/
def State.writesOut (s : State) (g : Nat) : Bool := s.outstanding g (fun m => m.kind.causal)

/-- Some stnc of the context has not been acknowledged. -/
def State.ncOut (s : State) (g : Nat) : Bool := s.outstanding g (fun m => m.kind == .writeNc)

/-- Some write of the context has not taken its sequence number (R194). -/
def State.unnumbered (s : State) (g : Nat) : Bool := s.outstanding g (fun m => m.kind.causal && m.ids.isEmpty)

/-- The stamps of n bytes at an IA (R189). -/
def State.stampsOf (s : State) (ia n : Nat) : List Ent :=
  (upFrom ia n).foldl (fun es a => (getD a [] s.stamps).foldl mergeEnt es) []

/-- The sectors of [a, a + n), by IA / 32. -/
def sectorsOf (a n : Nat) : List Nat := if n = 0 then [] else upFrom (a / 32) ((a + n - 1) / 32 - a / 32 + 1)

/-- The source code of an uncorrectable error in n bytes of a die's HBM, if any (R448). -/
def State.badAt (s : State) (t pa n : Nat) : Option Nat :=
  let bad := (s.die t).bad
  if bad.isEmpty then none else (sectorsOf pa n).findSome? (fun k => find? k bad)

/-- Words written whole are good again. -/
def State.heal (s : State) (t pa n : Nat) : State :=
  if (s.die t).bad.isEmpty then s
  else s.modDie t (fun k => { k with bad := k.bad.filter (fun w => !(decide (pa ≤ 32 * w.1) && decide (32 * w.1 + 32 ≤ pa + n))) })

/-- Bytes written at the owner: memory, their stamp, and the dirty marks of a migration in its copy phase (R185, R189, R367). -/
def State.writeAt (s : State) (t pa ia : Nat) (bs : List Byte) (stamp : List Ent) : State :=
  let s := (s.writePA t pa bs).heal t pa bs.length
  let st := (upFrom ia bs.length).foldl (fun m a => if stamp.isEmpty then del a m else put a stamp m) s.stamps
  let mg := s.migs.map (fun q =>
    if q.2.phase = 1 && q.2.src = t && q.2.pages.contains (ia / 65536)
    then (q.1, { q.2 with dirty := (sectorsOf ia bs.length).foldl (fun w x => insertNat x w) q.2.dirty }) else q)
  { s with stamps := st, migs := mg }

/-- What two readers know, joined. -/
def joinPast (a b : Map Nat) : Map Nat := b.foldl (fun m p => put p.1 (Nat.max (getD p.1 0 m) p.2) m) a

/-- The latest write of origin o that a past contains. -/
def knows (past : Map Nat) (o : Nat) : Nat := Nat.max (getD o 0 past) (getD 2048 0 past)

/-- A past that contains every write applied so far. -/
def State.allPast (s : State) : Map Nat := [(2048, s.applied)]

/-- A die from now on knows every write applied so far. -/
def State.learnAll (s : State) (d : Nat) : State := s.modDie d (fun k => { k with past := joinPast k.past s.allPast })

/-- A write of origin o, applied to the page of an IA, enters the page's history (log 23). -/
def State.noteWrite (s : State) (o ia : Nat) (past : Map Nat) : State :=
  let n := s.applied + 1
  let h := getD (ia / 65536) ⟨[], []⟩ s.hist
  { s with applied := n, hist := put (ia / 65536) ⟨put o n h.wrote, put o n (joinPast h.past past)⟩ s.hist }

/-- A page is frozen at die t by a migration (R367). -/
def State.frozen (s : State) (t ia : Nat) : Bool := s.migs.any (fun q => q.2.phase == 2 && q.2.src == t && q.2.pages.contains (ia / 65536))

/-- The home agent of a die serves requests (R357). -/
def State.serving (s : State) (t : Nat) : Bool := bit (s.die t).haCtl 63

/-- Some fabric port of a die carries traffic (R404, R406). -/
def State.linked (s : State) (d : Nat) : Bool := (s.die d).coll.ports.any (fun q => q.2.up)

/-- Requests of die d reach die t: over the carrier links of one package, else over the fabric ports of both (R404, R406). -/
def State.reach (s : State) (d t : Nat) : Bool := d / 4 == t / 4 || (s.linked d && s.linked t)

/-- Die t answers requests of die d. -/
def State.answers (s : State) (d t : Nat) : Bool := s.serving t && s.reach d t

-- The gazetteer (R362) -------------------------------------------------------------------------------------------------------

/-- The fresh gazetteer entry for an IA (R362). -/
def State.gazFresh (s : State) (d ia : Nat) : Option Nat :=
  match pageFind? Gaz.big (ia / 65536) (s.die d).gaz with
  | some (_, z) => if s.tick ≤ z.since + 2 ^ 17 then some z.owner else none
  | none => none

/-- The entries of a gazetteer (R2, R362). -/
def gazEntries : Nat := 32768

/-- Room for the entry of a page: a full gazetteer loses one, which the spec leaves open (R362; log 18). -/
def State.gazRoom (s : State) (d page : Nat) : State :=
  let g := (s.die d).gaz
  if g.length < gazEntries || (find? page g).isSome then s
  else match g[(Config.freeWord s.free).toNat % g.length]? with
    | some q => ({ s with free := s.free + 1 }).modDie d (fun k => { k with gaz := del q.1 k.gaz })
    | none => s

/-- A gazetteer entry filled or confirmed (R362). -/
def State.gazFill (s : State) (d page owner : Nat) (big : Bool) : State :=
  (s.gazRoom d page).modDie d (fun k => { k with gaz := put page ⟨big, owner, s.tick⟩ k.gaz })

/-- The gazetteer entry of a page removed. -/
def State.gazDrop (s : State) (d ia : Nat) : State :=
  match pageFind? Gaz.big (ia / 65536) (s.die d).gaz with
  | some (p, _) => s.modDie d (fun k => { k with gaz := del p k.gaz })
  | none => s

/-- A redirect hold applies: an earlier request of the die to that page is not yet answered (R370). -/
def State.redirectHeld (s : State) (d id ia : Nat) : Bool :=
  match pageFind? (fun _ => true) (ia / 65536) (s.die d).rholds with
  | none => false
  | some (p, upto) => decide (upto < id) && s.net.any (fun q => q.2.origin == d && decide (q.1 ≤ upto) && q.2.kind != .probe &&
      (q.2.ia / 65536 == p || q.2.ia / 65536 / 512 * 512 == p))

/-- What an access made in one step still needs before it can reach an owner: a gazetteer entry of a die for an IA. -/
abbrev Need := Option (Nat × Nat)

/-- The owner to which the signposts relay a request of die d that has come to die t, at most twice (R368): none where die t has no signpost for the
page, where one does not answer, or where a third would have to relay it. -/
def State.relayed (s : State) (d ia : Nat) : Nat → Nat → Option Nat
  | 0, _ => none
  | n + 1, t => match find? (ia / 65536) (s.die t).signs with
    | none => none
    | some g => if !s.answers d t then none else match s.ownPage? g.owner ia with
      | some _ => some g.owner
      | none => s.relayed d ia n g.owner

/-- The owner that die d reaches for the page of an IA over the signposts of the die that its fresh gazetteer entry names (R368). -/
def State.relayOwner (s : State) (d ia : Nat) : Option Nat :=
  match s.gazFresh d ia with
  | some t => if (s.ownPage? t ia).isSome then none else s.relayed d ia 2 t
  | none => none

/-- A die's gazetteer learns an owner by a redirect, and new requests to the page are held (R370). -/
def State.redirectTo (s : State) (d p o : Nat) : State :=
  let s := s.gazFill d p o ((s.ownPage? o (p * 65536)).any (fun q => q.2.big))
  s.modDie d (fun k => { k with rholds := put p (s.nextId - 1) k.rholds })

/-- What an access in one step needs to learn: the owner to which signposts relay it, by the redirect of its answer (R368, R370); else the home
answers, and the die's gazetteer takes the owner, or loses an entry that names none (R362). Where a signpost may not relay any further, its
die asks the home and answers redirect only (R368). The dies that the access comes to wake (R450). -/
def State.touch (s : State) (d ia : Nat) : State :=
  let s := s.wake (s.homeOf d ia)
  let s := match s.gazFresh d ia with | some t => s.wake t | none => s
  match s.relayOwner d ia with
  | some o => s.redirectTo d (match s.ownPage? o ia with | some (p, _) => p | none => ia / 65536) o
  | none =>
    if !s.answers d (s.homeOf d ia) then s
    else match s.homeRec? d ia with
      | none => s.gazDrop d ia
      | some (p, r) => if (match s.gazFresh d ia with | some t => (find? (ia / 65536) (s.die t).signs).isSome | none => false)
        then s.redirectTo d p r.owner else s.gazFill d p r.owner r.big

def State.meet (s : State) : Need → State
  | none => s
  | some (d, ia) => s.touch d ia

/-- Where an access of die d goes when it is made in one step at the owner (log 6, log 7): the owner, or why it is denied, or a wait. -/
inductive Place where
  | at_ (t : Nat)
  | denied (why : Nat)
  | wait (need : Need)
deriving DecidableEq, Repr

/-- The owner that a fresh gazetteer entry names; without one, or where that die is no longer the owner, the home is asked first, unless a signpost
relays the access (R362, R368, R371); an idle die is woken first (R450). -/
def State.placeOf (s : State) (d ia : Nat) (ents : List Ent) : Place :=
  let home := s.homeRec? d ia
  let asks := s.answers d (s.homeOf d ia)
  if s.redirectHeld d s.nextId ia then .wait none
  else match s.gazFresh d ia with
    | none => if !asks then .wait none else if home.isNone then .denied 5 else .wait (some (d, ia))
    | some t => match s.ownPage? t ia with
      | some _ => if !s.answers d t || s.frozen t ia || !s.allCovered t ia ents then .wait none else if (s.die t).pwState != 0 then .wait (some (d, ia)) else .at_ t
      | none => if (s.relayOwner d ia).isSome then .wait (some (d, ia))
        else if !s.answers d t || !asks then .wait none else if home.any (fun r => r.2.owner == t) then .denied 5 else .wait (some (d, ia))

/-- What a read in one step gives. -/
inductive OneRead where
  | wait (need : Need)
  | denied (why : Nat)
  | ok (bs : List Byte) (key : Nat) (stamps : List Ent) (e : Nat)
deriving DecidableEq, Repr

/-- A read of n bytes within one page, made in one step at the owner. -/
def State.readOne (s : State) (d ia n : Nat) (a : Access) (ents : List Ent) : OneRead :=
  match s.placeOf d ia ents with
  | .wait n => .wait n
  | .denied w => .denied w
  | .at_ t => match s.checkAt t ia a with
    | .denied w => .denied w
    | .ok pa e => match s.badAt t pa n with
      | some src => .denied (8 + src)
      | none => .ok (s.readPA t pa n) (leafKey e) (s.stampsOf ia n) e

/-- The sequence window of a target is full: more than 1,023 numbers past the lowest unacknowledged one (R363). -/
def State.windowFull (s : State) (d t : Nat) : Bool :=
  s.net.any (fun q => q.2.origin == d && q.2.ids.any (fun i => i.1 == t && decide (i.2 + 1023 ≤ getD t 0 (s.die d).lastSeq)))

/-- The next sequence number of die d for target t, taken (R187). -/
def State.takeSeq (s : State) (d t : Nat) : Nat × State :=
  let n := getD t 0 (s.die d).lastSeq + 1
  (n, s.modDie d (fun k => { k with lastSeq := put t n k.lastSeq }))

/-- The origin and the target of a rejected write that has still to take its sequence number (R187). -/
abbrev Used := Option (Nat × Nat)

/-- A rejected write is applied as a write of no bytes: it takes its number and is resolved (R187, R363). -/
def State.use (s : State) : Used → State
  | none => s
  | some (d, t) => let (q, s) := s.takeSeq d t; s.resolve t d q

/-- What a write in one step gives. -/
inductive OneWrite where
  | wait (need : Need)
  /-- rejected: for key, or for permission with the reason of R358, and the page's key. -/
  | rejected (key : Bool) (why k : Nat) (used : Used)
  | ok (s : State)

/-- The stamp of a write to die t that carries the entries given: at most four, entries that their target covers being probed and dropped until
then; none while more are left (R188, R190, R457). The copies of a multicast write all carry one stamp, with every target's entries (R423). -/
def State.stampFor (s : State) (t : Nat) (ents : List Ent) (multi : Bool := false) : Option (List Ent) :=
  let es := if multi then ents else ents.filter (fun x => x.target != t)
  let kept := dropCovered (es.length - 4) es
  if kept.length ≤ 4 then some kept else none
where
  dropCovered : Nat → List Ent → List Ent
    | 0, es => es
    | _, [] => []
    | n + 1, e :: es => if s.covered e && s.serving e.target then dropCovered n es else e :: dropCovered (n + 1) es

/-- An update in one step of die d may take the next sequence number of die t: every earlier one has been resolved, and the window has room (R187,
R363). -/
def State.nextInSequence (s : State) (d t : Nat) : Bool := decide (getD t 0 (s.die d).lastSeq ≤ s.frontier t d) && !s.windowFull d t

/-- A causal write of an engine within one page, made in one step at the owner: every earlier write of its die to that owner has been resolved;
it takes its sequence number and is resolved (R363, R457). -/
def State.writeOne (s : State) (d ia : Nat) (bs : List Byte) (a : Access) (wen : Nat) (ents : List Ent) (multi : Bool := false) : OneWrite :=
  match s.placeOf d ia ents with
  | .wait n => .wait n
  | .denied w => .rejected false w 0 none
  | .at_ t =>
    if !s.nextInSequence d t then .wait none
    else match s.stampFor t ents multi with
      | none => .wait none
      | some stamp => match s.checkAt t ia a with
        | .denied w => .rejected false w 0 (some (d, t))
        | .ok pa e =>
          if !bitN wen (leafKey e) && !a.isSpill then .rejected true 0 (leafKey e) (some (d, t))
          else
            let (q, s) := s.takeSeq d t
            .ok (((s.writeAt t pa ia bs stamp).noteWrite d ia s.allPast).resolve t d q)

/-- The pieces of [a, a + n) within pages of 64 KiB, each with its offset. -/
def pagePieces : Nat → Nat → Nat → List (Nat × Nat)
  | 0, _, _ => []
  | fuel + 1, a, n =>
    if n = 0 then []
    else let m := 65536 - a % 65536; if n ≤ m then [(a, n)] else (a, m) :: pagePieces fuel (a + m) (n - m)

/-- The pieces of [a, a + n) within sectors (R182). -/
def sectorPieces : Nat → Nat → Nat → List (Nat × Nat)
  | 0, _, _ => []
  | fuel + 1, a, n =>
    if n = 0 then []
    else let m := 32 - a % 32; if n ≤ m then [(a, n)] else (a, m) :: sectorPieces fuel (a + m) (n - m)

/-- A read of any bytes made in one step, page by page; the first failure decides. -/
def State.readMany (s : State) (d : Nat) (a : Access) (ents : List Ent) : List (Nat × Nat) → OneRead
  | [] => .ok [] 0 [] 0
  | (ia, n) :: ps =>
    match s.readOne d ia n a ents with
    | .ok bs k st e => match s.readMany d a ents ps with
      | .ok cs _ st' _ => .ok (bs ++ cs) k (st'.foldl mergeEnt st) e
      | r => r
    | r => r

/-- Bytes of global memory that Compass, a walker or another unit without windows reads in one step; none when they cannot be read
now or ever, with `denied` for the latter (log 7). -/
def State.unitRead (s : State) (d ia n : Nat) : OneRead := s.readMany d .load [] (pagePieces (n / 65536 + 2) ia n)

/-- Bytes of global memory that such a unit writes in one step. -/
def State.unitWrite (s : State) (d ia : Nat) (bs : List Byte) : OneWrite := s.writeOne d ia bs .store (2 ^ 32 - 1) []

/-- Writes of several pieces in one step, all or none. -/
def State.writeMany (s : State) (d : Nat) (wen : Nat) (ents : List Ent) : List (Nat × List Byte) → OneWrite
  | [] => .ok s
  | (ia, bs) :: ps => match s.writeOne d ia bs .store wen ents with
    | .ok s' => s'.writeMany d wen ents ps
    | r => r

-- Requests of the memory port ------------------------------------------------------------------------------------------------

def State.modMsg (s : State) (id : Nat) (f : Msg → Msg) : State :=
  match find? id s.net with | none => s | some m => { s with net := put id (f m) s.net }

/-- An acquire of the context with a lower number than `id`, other than `tok` itself, has not returned (R192). -/
def State.acquireBefore (s : State) (g id : Nat) (tok : Option Nat) : Bool :=
  (s.ctx g).loads.any (fun l => l.2.acquire && decide (l.1 < id) && tok != some l.1)

/-- A load of the context with a lower number than `id`, other than `tok` itself, has not returned. -/
def State.loadBefore (s : State) (g id : Nat) (tok : Option Nat) : Bool :=
  (s.ctx g).loads.any (fun l => l.2.kind != .cacheOnly && decide (l.1 < id) && tok != some l.1)

/-- An earlier request of the same context is not yet routed (R184), or an earlier acquire has not returned (R192); a write and an atomic
update wait for every earlier load, whose answer they are causally after (R184, R188; log 23). -/
def State.fifoHeld (s : State) (id : Nat) (m : Msg) : Bool :=
  s.net.any (fun q => decide (q.1 < id) && q.2.g == m.g && q.2.task == m.task && q.2.kind != .probe && (q.2.stage == .wait || q.2.stage == .query)) ||
    (m.task == (s.ctx m.g).task && (s.acquireBefore m.g id m.tok || (m.kind != .read && s.loadBefore m.g id m.tok)))

/-- A probe for a dependency entry leaves the core (R190): it carries the dependency set and the own entry that names its target (R189); its stamp
names the entry that it is for. -/
def State.sendProbe (s : State) (g : Nat) (e : Ent) : State :=
  let ents := ((s.ownSent g).filter (fun x => x.target == e.target)).foldl mergeEnt ((s.ctx g).deps.map Dep.ent)
  let (id, s) := s.fresh
  let m : Msg := { kind := .probe, origin := dieOfCtx g, g := g, task := (s.ctx g).task, tok := none, ia := 0, n := 0, ia2 := none, data := [],
                   wen := 0, ents := ents, stamp := [e], ids := [], target := e.target, path := [], stage := .sent, ans := Answer.none, first := s.tick,
                   last := s.tick, unreachable := false, past := [] }
  let s := { s with net := put id m s.net }
  s.modCtx g (fun c => { c with deps := c.deps.map (fun x => if x.ent = e then { x with probing := true } else x) })

/-- The oldest dependency entry that is not being probed is probed (R188, R190). -/
def State.probeOldest (s : State) (g : Nat) : State :=
  match (sortBy (fun (a b : Dep) => decide (a.since ≤ b.since)) ((s.ctx g).deps.filter (fun x => !x.probing))).head? with
  | none => s
  | some x => s.sendProbe g x.ent

/-- Every dependency entry that is not being probed is probed (R194, R212). -/
def State.probeAll (s : State) (g : Nat) : State := (s.ctx g).deps.foldl (fun s x => if x.probing then s else s.sendProbe g x.ent) s

/-- A request leaves for target t (R187 to R189): it takes the entries of the pending set, and keeps those of an earlier sending (R371); a
causal write takes its stamp and its number. It is held while its stamp would hold more than four entries, the oldest dependency entry
being probed, and while the window is full. -/
def State.sendTo (s : State) (id t : Nat) (m : Msg) : State :=
  let deps := (s.ctx m.g).deps.map Dep.ent
  let own := s.ownSent m.g
  let ents := m.ents.foldl mergeEnt ((own.filter (fun e => e.target == t)).foldl mergeEnt deps)
  if !m.kind.causal then
    s.modMsg id (fun m => { m with stage := .sent, target := t, ents := ents, first := s.tick, last := s.tick,
                                   past := (s.die m.origin).past })
  else
    let stamp := ((own.foldl mergeEnt deps).filter (fun e => e.target != t))
    if 4 < stamp.length then s.probeOldest m.g
    else if s.windowFull m.origin t then s
    else
      let (q, s) := s.takeSeq m.origin t
      s.modMsg id (fun m => { m with stage := .sent, target := t, ents := ents, stamp := if m.ids.isEmpty then stamp else m.stamp,
                                     ids := m.ids ++ [(t, q)], first := s.tick, last := s.tick, past := (s.die m.origin).past })

/-- An earlier write of the context to the page is on its way through another die than t (R184; log 23): a gazetteer entry may have been
replaced since it was sent (R362). -/
def State.routedElsewhere (s : State) (id t : Nat) (m : Msg) : Bool :=
  s.net.any (fun q => decide (q.1 < id) && q.2.ownedBy m.g m.task && q.2.kind.causal && q.2.stage != .served && q.2.ia / 65536 == m.ia / 65536 &&
    q.2.path.headD q.2.target != t)

/-- Routing of one waiting request (R362, R370). -/
def State.routeOne (s : State) (id : Nat) : State :=
  match find? id s.net with
  | none => s
  | some m =>
    if m.stage != .wait || s.fifoHeld id m || s.redirectHeld m.origin id m.ia then s
    else match s.gazFresh m.origin m.ia with
      | some t => if s.routedElsewhere id t m then s else s.sendTo id t m
      | none => s.modMsg id (fun m => { m with stage := .query })

/-- Routing of every waiting request of a die, in the order of issue. -/
def State.routeAll (s : State) (d : Nat) : State :=
  s.net.foldl (fun s q => if q.2.origin = d && q.2.stage = .wait then s.routeOne q.1 else s) s

/-- A request is issued by a context (R187). -/
def State.issue (s : State) (g : Nat) (kind : MKind) (tok : Option Nat) (ia n : Nat) (ia2 : Option Nat) (data : List Byte) : Nat × State :=
  let (id, s) := s.fresh
  let c := s.ctx g
  let m : Msg := { kind := kind, origin := dieOfCtx g, g := g, task := c.task, tok := tok, ia := ia, n := n, ia2 := ia2, data := data,
                   wen := writeVector (if s.bun.on && g = s.cur then s.bun.pre.pkr else c.pkr), ents := [], stamp := [], ids := [], target := 0, path := [], stage := .wait, ans := Answer.none,
                   first := s.tick, last := s.tick, unreachable := false, past := [] }
  (id, ({ s with net := put id m s.net }).routeOne id)

end Sys2Proof.Machine
end

