-- ==== Sys2Proof/Machine/MemPort.lean ====
section
/-! DEFINITION. The S3 instructions (R204 to R212). A global access leaves the core as requests (R187); its result is delivered by the
answers. Releases and fences hold their bundle until their conditions are met (R193, R194; log 12). -/

namespace Sys2Proof.Machine

/-- The effective address (R205). -/
def effAddr (base : W64) (off : Int) : Nat := wrapN 64 ((base.toNat : Int) + off)

/-- trap.info of causes 0x04 and 0x05 (R202); an access that no window maps whole is named by its own VA (R174; log 22). -/
def vaInfo (wr : Bool) (va : Nat) : W64 := w64 (b2n wr * 2 ^ 63 + va % 2 ^ 57)

/-- trap.info of cause 0x17 (R202). -/
def spadInfo (ea : Nat) : W64 := w64 (3 * 2 ^ 32 + ea % 2 ^ 22)

/-- The footprint card in force for a context (R124). -/
def State.card (s : State) (g : Nat) : List Region := match s.boundTask g with | none => [] | some t => t.card

/-- Some range shares a byte with [a, a + n). -/
def touches (rs : List (Nat × Nat)) (a n : Nat) : Bool := rs.any (fun r => decide (r.1 < a + n) && decide (a < r.1 + r.2))

/-- Some of n global, or scratchpad, bytes are results of faulting work (R34). -/
def State.memFaulted (s : State) (ia n : Nat) : Bool := s.pre.deferred.any (fun d => touches d.2.mem ia n)
def State.spadFaulted (s : State) (a n : Nat) : Bool := s.pre.deferred.any (fun d => touches d.2.spad a n)

/-- A slot that reads global, or scratchpad, bytes which faulting work writes makes its bundle a synchronisation bundle (R34). -/
def State.readsMem (s : State) (ia n : Nat) (k : State) : State := if s.memFaulted ia n then s.syncRead else k
def State.readsSpad (s : State) (a n : Nat) (k : State) : State := if s.spadFaulted a n then s.syncRead else k

/-- The checks of R205 on a global access, in order; then `k` with its IA and its window. -/
def State.globalCheck (s : State) (wr : Bool) (ea n align : Nat) (k : Nat → Nat → State) : State :=
  match translate s.pre.wnd ea n with
  | none => s.raise 5 (vaInfo wr ea)
  | some (ia, w) =>
    if ea % align != 0 then s.raise 4 (vaInfo wr ea)
    else match footprintMiss (s.card s.cur) wr ia n with
      | some x => s.raise 6 (fpInfo wr x)
      | none => if wr then k ia w else s.readsMem ia n (k ia w)

/-- The size of an element of gath, scat and scata (R383). -/
def ixSize (ws : List W64) : Nat := (bits (wordN ws 2) 30 24 + 1) * 4

/-- The bytes an element accesses. -/
def IdxCmd.span (m : IdxCmd) : Nat := if m.op = 0x33 then 4 else ixSize m.desc

/-- The sectors that the elements of an index command in flight have requested (R382). -/
def IdxCmd.sectors (m : IdxCmd) : Nat :=
  m.els.foldl (fun n x => if x.2.fault.isNone && x.2.ans.isNone then n + (sectorsOf x.2.ia m.span).length else n) 0

/-- The outstanding requests of a core, in sectors of 32 bytes: those of its memory port and of its index engine (R32, R382). -/
def State.portLoad (s : State) (c : Nat) : Nat :=
  (s.core c).index.queue.foldl (fun n q => n + q.2.sectors)
    (s.net.foldl (fun n q => if q.2.kind != .probe && coreOfCtx q.2.g == c then n + (sectorsOf q.2.ia q.2.n).length + (if q.2.ia2.isSome then 1 else 0) else n) 0)

/-- The outstanding-request table of a core has room for n more sectors (R2, R32). -/
def State.portRoom (s : State) (c n : Nat) : Bool := decide (s.portLoad c + n ≤ 4096)

/-- It has no room for the largest access, a row of 512 lanes of 8 bytes in memory, and a call's store (R2, R32, R42, R208). -/
def State.portFull (s : State) (c : Nat) : Bool := !s.portRoom c 130

/-- An S3 access waits for an earlier acquire, and for room in the outstanding-request table (R32, R192). -/
def State.afterAcquire (s : State) (k : State) : State := s.waitWhile (s.acquireOut s.cur || s.portFull s.myCore) k

/-- A release waits for earlier loads and writes, stnc included (R193). -/
def State.releaseReady (s : State) (k : State) : State :=
  s.waitWhile (s.loadsOut s.cur || s.writesOut s.cur || s.ncOut s.cur) k

/-- The requests of one access, each for a piece with its offset in the result. -/
def State.issuePieces (s : State) (kind : MKind) (tok : Option Nat) (start : Nat) (data : List Byte) : List (Nat × Nat) → List (Nat × Nat) × State
  | [] => ([], s)
  | (ia, n) :: ps =>
    let (id, s) := s.issue s.cur kind tok ia n none ((data.drop (ia - start)).take n)
    let (rest, s) := s.issuePieces kind tok start data ps
    ((id, ia - start) :: rest, s)

/-- A load begins: its destinations become pending, and its requests leave (R20, R145, R187). -/
def State.beginLoad (s : State) (kind : LoadKind) (dests : List Nat) (ps : List (Nat × Nat)) (skip : Nat) (acq ro : Bool) : State :=
  let (tok, s) := s.fresh
  let (parts, s) := s.issuePieces .read (some tok) (ps.headD (0, 0)).1 [] ps
  let l : Load := { kind := kind, parts := parts, buf := [], denial := none, acquire := acq, ro := ro, skip := skip }
  let s := s.modMe (fun c => { c with loads := put tok l c.loads,
                                      pend := (dests.filter (fun n => n != 85)).map (fun n => (n, tok)) ++ c.pend })
  if dests.contains 85 then s.claimL5 s.cur tok else s

/-- The registers a load of n bytes writes (R51, R206). -/
def loadRegs (d : BitVec 7) (n : Nat) : List Nat := groupRegs d (if n ≤ 8 then 1 else n / 8)

/-- The value of n bytes, extended to 64 bits (R206). -/
def extend (n : Nat) (signed : Bool) (v : Nat) : Nat := if n < 8 && signed then wrapN 64 (signedN (8 * n) v) else v

/-- The 64-bit values of the registers of a load. -/
def regValues (n : Nat) (signed : Bool) (regs : List Nat) (bs : List Byte) : List (Nat × W64) :=
  if n ≤ 8 then regs.map (fun r => (r, w64 (extend n signed (ofBytes (bs.take n)))))
  else (regs.zip (upFrom 0 regs.length)).map (fun p => (p.1, w64 (ofBytes ((bs.drop (8 * p.2)).take 8))))

/-- A plain or ordered load (R206). -/
def State.load (s : State) (g : BitVec 4) (d b : BitVec 7) (off : Int) (n : Nat) (signed acq : Bool) : State :=
  s.guarded g (s.withDests (loadRegs d n) (s.withSource b (fun base =>
    let ea := effAddr base (off * n)
    s.globalCheck false ea n (if acq then n else 1) (fun ia _ => s.afterAcquire
      (s.beginLoad (.scalar n signed (loadRegs d n)) (loadRegs d n) (sectorPieces 4 ia n) 0 acq false)))))

/-- The whole sectors of an access, as pieces. -/
def wholeSectors (ia n : Nat) : List (Nat × Nat) := (sectorsOf ia n).map (fun k => (k * 32, 32))

/-- ldro: a hit in the read-only cache is delivered at once, after the key check of R200; a miss is performed as a plain load whose answer
fills the cache (R196). -/
def State.loadRo (s : State) (g : BitVec 4) (d b : BitVec 7) (off : Int) (n : Nat) : State :=
  s.guarded g (s.withDests (loadRegs d n) (s.withSource b (fun base =>
    let ea := effAddr base (off * n)
    s.globalCheck false ea n 1 (fun ia _ => s.afterAcquire (
      let regs := loadRegs d n
      let hits := (sectorsOf ia n).filterMap (fun k => (find? k (s.core s.myCore).roc).map (fun h => (k, h)))
      if hits.length = (sectorsOf ia n).length then
        match hits.find? (fun h => !keyReads s.pre.pkr h.2.2) with
        | some h => s.modMe (fun c => regs.foldl (fun c r => c.poisonReg r ⟨7, info07 (h.1 * 32) h.2.2⟩) c)
        | none => match hits.findSome? (fun h => find? h.1 (s.core s.myCore).badRoc) with
          | some a => s.modMe (fun c => regs.foldl (fun c r => c.poisonReg r ⟨0x16, info16 6 a⟩) c)
          | none =>
          let bs := ((hits.map (fun h => h.2.1)).flatten.drop (ia % 32)).take n
          s.modMe (fun c => (regValues n true regs bs).foldl (fun c p => c.setReg p.1 p.2) c)
      else s.beginLoad (.scalar n true regs) regs (wholeSectors ia n) (ia % 32) false true)))))

/-- The bytes of a store's source: a register of up to 8 bytes, or a group (R51, R205). -/
def State.withStoreData (s : State) (d : BitVec 7) (n : Nat) (k : List Byte → State) : State :=
  if n ≤ 8 then s.withSource d (fun v => k (bytesOf n v.toNat))
  else s.withGroup d (n / 8) (fun vs => k (vs.map (fun v => bytesOf 8 v.toNat)).flatten)

/-- A store of the plain, release or bulk class (R183, R193, R195, R206). -/
def State.store (s : State) (g : BitVec 4) (d b : BitVec 7) (off : Int) (n : Nat) (kind : MKind) (align : Nat) (rel : Bool) : State :=
  s.guarded g (s.withSource b (fun base => s.withStoreData d n (fun bs =>
    let ea := effAddr base (off * n)
    s.globalCheck true ea n align (fun ia _ => s.afterAcquire (
      let go := (s.issuePieces kind none ia bs (sectorPieces 4 ia n)).2
      if rel then s.releaseReady go else go)))))

/-- The offset of sub-layout M, PF or VS (R65). -/
def off8 (o : BitVec 8) : Int := o.toInt

def execNopMemory (s : State) : Host.Outcome State Fault Refusal := .next s
def execLdB (g : BitVec 4) (d b : BitVec 7) (o : BitVec 8) (s : State) : Host.Outcome State Fault Refusal := .next (s.load g d b (off8 o) 1 true false)
def execLdH (g : BitVec 4) (d b : BitVec 7) (o : BitVec 8) (s : State) : Host.Outcome State Fault Refusal := .next (s.load g d b (off8 o) 2 true false)
def execLdW (g : BitVec 4) (d b : BitVec 7) (o : BitVec 8) (s : State) : Host.Outcome State Fault Refusal := .next (s.load g d b (off8 o) 4 true false)
def execLdD (g : BitVec 4) (d b : BitVec 7) (o : BitVec 8) (s : State) : Host.Outcome State Fault Refusal := .next (s.load g d b (off8 o) 8 true false)
def execLdQ (g : BitVec 4) (d b : BitVec 7) (o : BitVec 8) (s : State) : Host.Outcome State Fault Refusal := .next (s.load g d b (off8 o) 16 true false)
def execLdO (g : BitVec 4) (d b : BitVec 7) (o : BitVec 8) (s : State) : Host.Outcome State Fault Refusal := .next (s.load g d b (off8 o) 32 true false)
def execLdnB (g : BitVec 4) (d b : BitVec 7) (o : BitVec 8) (s : State) : Host.Outcome State Fault Refusal := .next (s.load g d b (off8 o) 1 false false)
def execLdnH (g : BitVec 4) (d b : BitVec 7) (o : BitVec 8) (s : State) : Host.Outcome State Fault Refusal := .next (s.load g d b (off8 o) 2 false false)
def execLdnW (g : BitVec 4) (d b : BitVec 7) (o : BitVec 8) (s : State) : Host.Outcome State Fault Refusal := .next (s.load g d b (off8 o) 4 false false)
def execLdWAcq (g : BitVec 4) (d b : BitVec 7) (o : BitVec 8) (s : State) : Host.Outcome State Fault Refusal := .next (s.load g d b (off8 o) 4 true true)
def execLdDAcq (g : BitVec 4) (d b : BitVec 7) (o : BitVec 8) (s : State) : Host.Outcome State Fault Refusal := .next (s.load g d b (off8 o) 8 true true)
def execStB (g : BitVec 4) (d b : BitVec 7) (o : BitVec 8) (s : State) : Host.Outcome State Fault Refusal := .next (s.store g d b (off8 o) 1 .write 1 false)
def execStH (g : BitVec 4) (d b : BitVec 7) (o : BitVec 8) (s : State) : Host.Outcome State Fault Refusal := .next (s.store g d b (off8 o) 2 .write 1 false)
def execStW (g : BitVec 4) (d b : BitVec 7) (o : BitVec 8) (s : State) : Host.Outcome State Fault Refusal := .next (s.store g d b (off8 o) 4 .write 1 false)
def execStD (g : BitVec 4) (d b : BitVec 7) (o : BitVec 8) (s : State) : Host.Outcome State Fault Refusal := .next (s.store g d b (off8 o) 8 .write 1 false)
def execStQ (g : BitVec 4) (d b : BitVec 7) (o : BitVec 8) (s : State) : Host.Outcome State Fault Refusal := .next (s.store g d b (off8 o) 16 .write 1 false)
def execStO (g : BitVec 4) (d b : BitVec 7) (o : BitVec 8) (s : State) : Host.Outcome State Fault Refusal := .next (s.store g d b (off8 o) 32 .write 1 false)
def execStWRel (g : BitVec 4) (d b : BitVec 7) (o : BitVec 8) (s : State) : Host.Outcome State Fault Refusal := .next (s.store g d b (off8 o) 4 .write 4 true)
def execStDRel (g : BitVec 4) (d b : BitVec 7) (o : BitVec 8) (s : State) : Host.Outcome State Fault Refusal := .next (s.store g d b (off8 o) 8 .write 8 true)
def execLdroW (g : BitVec 4) (d b : BitVec 7) (o : BitVec 8) (s : State) : Host.Outcome State Fault Refusal := .next (s.loadRo g d b (off8 o) 4)
def execLdroD (g : BitVec 4) (d b : BitVec 7) (o : BitVec 8) (s : State) : Host.Outcome State Fault Refusal := .next (s.loadRo g d b (off8 o) 8)
def execLdroQ (g : BitVec 4) (d b : BitVec 7) (o : BitVec 8) (s : State) : Host.Outcome State Fault Refusal := .next (s.loadRo g d b (off8 o) 16)
def execLdroO (g : BitVec 4) (d b : BitVec 7) (o : BitVec 8) (s : State) : Host.Outcome State Fault Refusal := .next (s.loadRo g d b (off8 o) 32)
def execStncD (g : BitVec 4) (d b : BitVec 7) (o : BitVec 8) (s : State) : Host.Outcome State Fault Refusal := .next (s.store g d b (off8 o) 8 .writeNc 8 false)
def execStncQ (g : BitVec 4) (d b : BitVec 7) (o : BitVec 8) (s : State) : Host.Outcome State Fault Refusal := .next (s.store g d b (off8 o) 16 .writeNc 16 false)
def execStncO (g : BitVec 4) (d b : BitVec 7) (o : BitVec 8) (s : State) : Host.Outcome State Fault Refusal := .next (s.store g d b (off8 o) 32 .writeNc 32 false)

-- Scratchpad forms ------------------------------------------------------------------------------------------------------------

/-- The checks of a scratchpad form: 0x04 and then 0x17 (R177, R205); then `k` with the task and the offset. -/
def State.spadCheck (s : State) (wr : Bool) (base : W64) (off : Int) (n align : Nat) (k : Task → Nat → State) : State :=
  let ea := effAddr base off
  if ea % align != 0 then s.raise 4 (vaInfo wr ea)
  else match s.boundTask s.cur with
    | none => s.raise 0x17 (spadInfo ea)
    | some t =>
      if decide (2 ^ 22 ≤ base.toNat) || decide (t.spadBytes < ea + n + 16384) || (wr && decide (ea < 4096)) then s.raise 0x17 (spadInfo ea)
      else if wr then s.waitWhile (s.arrayReads s.cur ea n) (k t ea) else s.readsSpad ea n (k t ea)

/-- The size of lds and sts (R65). -/
def spadSize (z : BitVec 2) : Nat := 4 * 2 ^ z.toNat

def execLds (g : BitVec 4) (d b : BitVec 7) (z : BitVec 2) (o : BitVec 6) (s : State) : Host.Outcome State Fault Refusal :=
  .next (
    let n := spadSize z
    s.guarded g (s.withDests (loadRegs d n) (s.withSource b (fun base =>
      s.spadCheck false base (o.toInt * n) n n (fun t ea => s.afterAcquire (
        if s.spadBad s.myCore t ea n then s.modMe (fun c => (loadRegs d n).foldl (fun c r => c.poisonReg r ⟨0x16, info16 3 ea⟩) c)
        else s.modMe (fun c => (regValues n true (loadRegs d n) (s.spadRead s.myCore t ea n)).foldl (fun c p => c.setReg p.1 p.2) c)))))))

def execSts (g : BitVec 4) (d b : BitVec 7) (z : BitVec 2) (o : BitVec 6) (s : State) : Host.Outcome State Fault Refusal :=
  .next (
    let n := spadSize z
    s.guarded g (s.withSource b (fun base => s.withStoreData d n (fun bs =>
      s.spadCheck true base (o.toInt * n) n n (fun t ea => s.afterAcquire (s.spadWrite s.myCore t ea bs))))))

/-- vlds: 512 bytes of scratchpad into the row of vk (R209). -/
def execVlds (g : BitVec 4) (v b : BitVec 7) (o : BitVec 8) (s : State) : Host.Outcome State Fault Refusal :=
  .next (s.guarded g (if !s.pre.bound then s.undefinedEncoding else s.withRowDest v.toNat (fun r => s.withSource b (fun base =>
    s.spadCheck false base (off8 o * 512) 512 32 (fun t ea => s.afterAcquire (
      if s.spadBad s.myCore t ea 512 then (s.modMe (fun c => { c with raised := c.raised.filter (fun x => x != 256 + r) })).modCore s.myCore (fun k => { k with rowPoison := put r ⟨0x16, info16 3 ea⟩ k.rowPoison })
      else s.writeRow r (rowOfBytes (s.spadRead s.myCore t ea 512)) true))))))

/-- vsts: the row of vk into 512 bytes of scratchpad (R209). -/
def execVsts (g : BitVec 4) (v b : BitVec 7) (o : BitVec 8) (s : State) : Host.Outcome State Fault Refusal :=
  .next (s.guarded g (if !s.pre.bound then s.undefinedEncoding else s.withRow v.toNat true (fun row => s.withSource b (fun base =>
    s.spadCheck true base (off8 o * 512) 512 32 (fun t ea => s.afterAcquire (s.spadWrite s.myCore t ea (rowBytes row)))))))

-- Atomics ---------------------------------------------------------------------------------------------------------------------

/-- An atomic update that returns the old value into a register (R210): its order is that of an acquire, a release or both; it
reads and writes its location (log 76). -/
def State.atomicOp (s : State) (reg : Nat) (ea n : Nat) (a : Atomic) (order : Nat) : State :=
  s.globalCheck true ea n n (fun ia _ => match rwMiss (s.card s.cur) ia n with
  | some x => s.raise 6 (fpInfo true x)
  | none => s.readsMem ia n (s.afterAcquire (
    let go :=
      let (tok, s) := s.fresh
      let (id, s) := s.issue s.cur (.atomic a) (some tok) ia n none []
      let l : Load := { kind := .scalar n true [reg], parts := [(id, 0)], buf := [], denial := none, acquire := order % 2 == 1, ro := false, skip := 0 }
      let s := s.modMe (fun c => { c with loads := put tok l c.loads, pend := if reg = 85 then c.pend else (reg, tok) :: c.pend })
      if reg = 85 then s.claimL5 s.cur tok else s
    if 2 ≤ order then s.releaseReady go else go)))

def State.amo (s : State) (g : BitVec 4) (d b : BitVec 7) (c : BitVec 4) (o : BitVec 2) (n : Nat) : State :=
  s.guarded g (s.withDests [d.toNat] (s.with2 d b (fun v base =>
    s.atomicOp d.toNat (effAddr base 0) n (.amo (8 * n) c.toNat (v.toNat % 2 ^ (8 * n))) o.toNat)))

def State.cas (s : State) (g : BitVec 4) (d b : BitVec 7) (o : BitVec 2) (n : Nat) : State :=
  s.guarded g (s.withDests [d.toNat] (s.with3 d (d + 1) b (fun v w base =>
    s.atomicOp d.toNat (effAddr base 0) n (.cas (8 * n) (v.toNat % 2 ^ (8 * n)) (w.toNat % 2 ^ (8 * n))) o.toNat)))

/-- The scope field of amo and cas has no effect (R197). -/
def execAmoW (g : BitVec 4) (d b : BitVec 7) (c : BitVec 4) (o _sc : BitVec 2) (s : State) : Host.Outcome State Fault Refusal := .next (s.amo g d b c o 4)
def execAmoD (g : BitVec 4) (d b : BitVec 7) (c : BitVec 4) (o _sc : BitVec 2) (s : State) : Host.Outcome State Fault Refusal := .next (s.amo g d b c o 8)
def execCasW (g : BitVec 4) (d b : BitVec 7) (o _sc : BitVec 2) (s : State) : Host.Outcome State Fault Refusal := .next (s.cas g d b o 4)
def execCasD (g : BitVec 4) (d b : BitVec 7) (o _sc : BitVec 2) (s : State) : Host.Outcome State Fault Refusal := .next (s.cas g d b o 8)

/-- xadd returns nothing (R199, R211). -/
def execXadd (g : BitVec 4) (d b : BitVec 7) (w : BitVec 1) (s : State) : Host.Outcome State Fault Refusal :=
  .next (s.guarded g (s.with2 d b (fun v base =>
    let ea := effAddr base 0
    let x := if w = 1 then v.toNat % 2 ^ 32 else v.toNat
    s.globalCheck true ea 64 64 (fun ia _ => s.afterAcquire (s.issue s.cur (.atomic (.xadd (w == 1) x)) none ia 64 none []).2))))

/-- xget reads the cell as one 64-byte access (R199, R211). -/
def execXget (g : BitVec 4) (d b : BitVec 7) (r : BitVec 1) (s : State) : Host.Outcome State Fault Refusal :=
  .next (
    let regs := if r = 1 then groupRegs d 8 else [d.toNat]
    s.guarded g (s.withDests regs (s.withSource b (fun base =>
      let ea := effAddr base 0
      s.globalCheck false ea 64 64 (fun ia _ => s.afterAcquire
        (s.beginLoad (if r = 1 then .scalar 64 false regs else .cell d.toNat) regs [(ia, 64)] 0 false false))))))

-- Fences, prf and probe -------------------------------------------------------------------------------------------------------

/-- The read-only cache of a core invalidated (R196): the answers to requests made before now fill it no more. -/
def State.dropRoc (s : State) (c : Nat) : State := s.modCore c (fun k => { k with roc := [], badRoc := [], rocFrom := s.nextId })

/-- A fence (R194): it holds its bundle until its conditions are met. -/
def execFence (g : BitVec 4) (k sc : BitVec 3) (s : State) : Host.Outcome State Fault Refusal :=
  .next (s.guarded g (
    let base := s.loadsOut s.cur || s.unnumbered s.cur
    let go := s.dropRoc s.myCore
    if k = 2 then s.waitWhile (s.ncOut s.cur) go
    else if k = 1 then
      s.waitWhile (base || s.writesOut s.cur || s.ncOut s.cur) (if s.me.deps.isEmpty then go else s.stallProbing)
    else s.waitWhile (base || (sc != 0 && s.writesOut s.cur)) go))

/-- prf reads the sector into the read-only cache; it is dropped when a check fails (R212). -/
def execPrf (g : BitVec 4) (b : BitVec 7) (o : BitVec 8) (s : State) : Host.Outcome State Fault Refusal :=
  .next (s.guarded g (s.withSource b (fun base =>
    let ea := effAddr base (off8 o * 32)
    match translate s.pre.wnd ea 1 with
    | none => s
    | some (ia, _) =>
      if (footprintMiss (s.card s.cur) false ia 1).isSome then s
      else s.afterAcquire (s.beginLoad .cacheOnly [] [(ia / 32 * 32, 32)] 0 false true))))

/-- probe d: every entry of the dependency set is probed; d takes their number when every answer has returned (R212). -/
def execProbe (g : BitVec 4) (d : BitVec 7) (s : State) : Host.Outcome State Fault Refusal :=
  .next (s.guarded g (s.withDests [d.toNat] (
    if s.me.probeOp.isSome then s.stall
    else if s.me.deps.isEmpty then s.writeReg d 0
    else
      let n := s.me.deps.length
      let (tok, s) := s.fresh
      let s := s.probeAll s.cur
      let s := s.modMe (fun c => { c with probeOp := some (d.toNat, n, tok), pend := if d = 85 then c.pend else (d.toNat, tok) :: c.pend })
      if d = 85 then s.claimL5 s.cur tok else s)))

-- Rows ------------------------------------------------------------------------------------------------------------------------

/-- The lane count of an element type (R233). -/
def lanesOf (t : Nat) : Nat := 512 / ((fmtOf t).getD (.int 8 false)).size

/-- The format a page's bytes are read by: its own, or the bound type for a raw page (R94, R208). -/
def pageFmt (f t : Nat) : Nat := if f = 0 then t else f

/-- The leaf of the page of an IA, as its owner holds it: format and geometry; a page that cannot be read counts as raw and plain. -/
def State.leafOf (s : State) (d ia : Nat) : Option (Bool × Nat) :=
  match s.homeRec? d ia with
  | none => none
  | some (_, r) => match s.walk r.owner ia with
    | .leaf _ big e => some (big, e)
    | _ => none

/-- The entry of the leaf of the page of an IA, malformed or not. -/
def State.leafEntry (s : State) (d ia : Nat) : Option Nat :=
  match s.homeRec? d ia with
  | none => none
  | some (_, r) => match s.walk r.owner ia with
    | .leaf _ _ e => some e
    | .malformed _ e => e
    | .nonResident _ => none

/-- The units that a row of n lanes takes in a page, each with its IA, its size and its scale byte: sectors, or MX blocks (R95, R208).
None when the extent breaks a bound of R208; `sbig` says that the page of the scales is one of 32 MiB. -/
def rowUnits (f geo n ia : Nat) (big : Bool) (sd : Int) (sbig : Bool) : Option (List (Nat × Nat × Option Nat)) :=
  let page := if big then 2 ^ 25 else 65536
  let off := ia % page
  let blocks := n / 32
  if geo = 1 then
    let b := off / 1024 * 31 + off % 1024 / 33
    if off % 1024 % 33 != 0 || decide (31 ≤ off % 1024 / 33) || decide (page / 1024 * 31 < b + blocks) then none
    else some ((upFrom b blocks).map (fun j => (ia - off + j / 31 * 1024 + j % 31 * 33, 33, none)))
  else
    let bytes := n * ((fmtOf f).getD (.int 8 false)).size
    if ia % 32 != 0 || decide (page < off + bytes) then none
    else if geo = 2 then
      let sc := scaleIA ia sd
      let spage := if sbig then 2 ^ 25 else 65536
      if spage < sc % spage + blocks then none
      else some ((upFrom 0 blocks).map (fun j => (ia + 32 * j, 32, some (wrapN 52 (sc + (j : Nat))))))
    else some ((upFrom 0 (bytes / 32)).map (fun j => (ia + 32 * j, 32, none)))

/-- The requests of the units of a row, each with its offset in the result: 33 bytes for an MX block, 32 for a sector. -/
def State.issueUnits (s : State) (kind : MKind) (tok : Option Nat) (step : Nat) (data : List Byte) : Nat → List (Nat × Nat × Option Nat) → List (Nat × Nat) × State
  | _, [] => ([], s)
  | j, (ia, n, sc) :: us =>
    let (id, s) := s.issue s.cur kind tok ia n sc ((data.drop (step * j)).take step)
    let (rest, s) := s.issueUnits kind tok step data (j + 1) us
    ((id, step * j) :: rest, s)

/-- The bytes from the first to past the last of a row's units. -/
def unitsSpan (f geo n ia : Nat) (big : Bool) : Nat :=
  if geo = 1 then
    let page := if big then 2 ^ 25 else 65536
    let b := ia % page / 1024 * 31 + ia % page % 1024 / 33
    let l := b + n / 32 - 1
    ia - ia % page + l / 31 * 1024 + l % 31 * 33 + 33 - ia
  else n * ((fmtOf f).getD (.int 8 false)).size

/-- The footprint check of a row: its elements, and the scales of an mx.apart page (R124, R219). -/
def rowMiss (rs : List Region) (wr : Bool) (f geo n ia : Nat) (big : Bool) (sd : Int) : Option Nat :=
  match footprintMiss rs wr ia (unitsSpan f geo n ia big) with
  | some x => some x
  | none => if geo = 2 then footprintMiss rs wr (scaleIA ia sd) (n / 32) else none

/-- The checks of vld and vst (R205, R208), then `k` with the page's format and geometry and the units. -/
def State.rowCheck (s : State) (wr : Bool) (ea : Nat) (k : Nat → Nat → List (Nat × Nat × Option Nat) → State) : State :=
  let t := s.pre.laneType
  let n := lanesOf t
  match windowOf s.pre.wnd ea with
  | none => s.raise 5 (vaInfo wr ea)
  | some w =>
    let ia := windowIA s.pre.wnd w ea
    let (big, e) := (s.leafOf s.myDie ia).getD (false, 0)
    let f := pageFmt (leafFmt e) t
    let geo := leafGeo e
    if !windowMatches s.pre.wnd w (ea + unitsSpan f geo n ia big - 1) then s.raise 5 (vaInfo wr ea)
    else match rowUnits f geo n ia big (windowSD s.pre.wnd w) (geo == 2 && ((s.leafOf s.myDie (scaleIA ia (windowSD s.pre.wnd w))).getD (big, 0)).1) with
      | none => s.raise 4 (vaInfo wr ea)
      | some us => match rowMiss (s.card s.cur) wr f geo n ia big (windowSD s.pre.wnd w) with
        | some x => s.raise 6 (fpInfo wr x)
        | none => if wr then k f geo us else s.readsMem ia (unitsSpan f geo n ia big) (k f geo us)

/-- A draw of n counter values, taken when the rounding is stochastic (R100): its start. -/
def State.draw (s : State) (rnd n : Nat) : Nat × State :=
  (s.me.seedCtr.toNat, if rnd = 4 then s.modMe (fun c => { c with seedCtr := c.seedCtr + w64 n }) else s)

/-- An MX page (R95). -/
def isMX (geo : Nat) : Bool := geo == 1 || geo == 2

/-- vld (R208). -/
def execVld (g : BitVec 4) (v b : BitVec 7) (r : BitVec 3) (f : BitVec 1) (o : BitVec 4) (s : State) : Host.Outcome State Fault Refusal :=
  .next (s.guarded g (if !s.pre.bound then s.undefinedEncoding else s.withRowDest v.toNat (fun row => s.withSource b (fun base =>
    s.rowCheck false (effAddr base (o.toInt * 512)) (fun pf geo us => s.afterAcquire (
      let t := s.pre.laneType
      let seed := s.pre.seed.toNat
      let (start, s) := s.draw r.toNat (lanesOf t)
      let (tok, s) := s.fresh
      let (parts, s) := s.issueUnits .read (some tok) (if isMX geo then 33 else 32) [] 0 us
      let l : Load := { kind := .row row t pf (isMX geo) r.toNat (f == 1) start seed, parts := parts, buf := [], denial := none, acquire := false,
                        ro := false, skip := 0 }
      s.modMe (fun c => { c with loads := put tok l c.loads, pend := (256 + row, tok) :: c.pend })))))))

/-- The lanes of a row (R233). -/
def rowLanes (e n : Nat) (r : Row) : List Nat := (upFrom 0 n).map (fun k => laneN r.toNat e k)

/-- Lists of 32. -/
def groups32 {α : Type} : Nat → List α → List (List α)
  | 0, _ => []
  | k + 1, xs => xs.take 32 :: groups32 k (xs.drop 32)

/-- The bytes that vst writes (R208): converted elements, or MX blocks of 32 elements and their scale (R92). -/
def storeRowBytes (t pf : Nat) (mx : Bool) (rnd : Nat) (ovf : Bool) (seed start : Nat) (row : Row) : List Byte :=
  let ft := (fmtOf t).getD (.int 8 false)
  let ff := (fmtOf pf).getD (.int 8 false)
  let n := lanesOf t
  let lanes := rowLanes ft.size n row
  let coins := (upFrom 0 n).map (fun k => if rnd = 4 then coin seed (start + k) else 0)
  if mx then
    (((groups32 (n / 32) lanes).zip (groups32 (n / 32) coins)).map (fun p =>
      let (sc, es) := mxEncode ff (p.1.map ft.decode) rnd ovf p.2
      es.map (fun x => BitVec.ofNat 8 x) ++ [BitVec.ofNat 8 sc])).flatten
  else if pf = t then rowBytes row
  else ((lanes.zip coins).map (fun p => bytesOf ff.size (ff.enc (ft.decode p.1) rnd ovf p.2))).flatten

/-- vst: a sequence of causal writes, one for each sector or MX block, in ascending order (R208). -/
def execVst (g : BitVec 4) (v b : BitVec 7) (r : BitVec 3) (f : BitVec 1) (o : BitVec 4) (s : State) : Host.Outcome State Fault Refusal :=
  .next (s.guarded g (if !s.pre.bound then s.undefinedEncoding else s.withRow v.toNat true (fun row => s.withSource b (fun base =>
    s.rowCheck true (effAddr base (o.toInt * 512)) (fun pf geo us => s.afterAcquire (
      let t := s.pre.laneType
      let seed := s.pre.seed.toNat
      let (start, s) := s.draw r.toNat (lanesOf t)
      let bs := storeRowBytes t pf (isMX geo) r.toNat (f == 1) seed start row
      (s.issueUnits .write none (if isMX geo then 33 else 32) bs 0 us).2))))))

end Sys2Proof.Machine
end

