-- ==== Sys2Proof/Machine/Net.lean ====
section
/-! DEFINITION. The steps of the requests of the memory ports: routing through the home (R362), service at the owner (R189, R190, R195,
R198, R363), signposts (R368 to R371), and the answers at the issuing context (R187 to R190, R200, R201, R206, R208). An event that is
not enabled leaves the state as it is (log 3). -/

namespace Sys2Proof.Machine

/-- A message wakes the die that it has come to (R450): the home, the die that serves it, or the die that issued it. -/
def State.arrive (s : State) (m : Msg) : State :=
  match m.stage with
  | .wait => s
  | .query => s.wake (s.homeOf m.origin m.ia)
  | .sent => s.wake m.target
  | _ => s.wake m.origin

/-- The state after an event of message `id`, or the state itself when there is no such message. -/
def State.onMsg (s : State) (id : Nat) (f : State → Msg → State) : State := match find? id s.net with | none => s | some m => f (s.arrive m) m

/-- The answer to a request for an unassigned page (R354, R358): a read is denied, a write rejected; an atomic update has no old value to return, and
returns a free one (R210; log 21). -/
def State.unassigned (s : State) (m : Msg) : Answer × State :=
  match m.kind with
  | .read => ({ Answer.none with denied := some 5 }, s)
  | .atomic _ => ({ Answer.none with rejected := some false, bytes := bytesOf m.n (Config.freeWord s.free).toNat }, { s with free := s.free + 1 })
  | _ => ({ Answer.none with rejected := some false }, s)

def State.dropMsg (s : State) (id : Nat) : State := { s with net := del id s.net }

/-- A resolution leaves for each die that a causal write has a number for (R371). -/
def State.resolvesOf (s : State) (m : Msg) : State :=
  m.ids.foldl (fun s i => let (k, s) := s.fresh; { s with resolutions := put k ⟨i.1, m.origin, i.2⟩ s.resolutions }) s

-- The answers of home and gazetteer ------------------------------------------------------------------------------------------

/-- A request with no fresh gazetteer entry asks the home, which names the owner or finds the page unassigned (R354, R362). -/
def execHomeOwnerQuery (id : Nat) (s : State) : Host.Outcome State Fault Refusal :=
  .next (s.onMsg id (fun s m =>
    if m.stage != .query || !s.answers m.origin (s.homeOf m.origin m.ia) then s
    else match s.homeRec? m.origin m.ia with
      | some (p, r) => s.modMsg id (fun m => { m with ans := { Answer.none with redirect := some (p, r.owner), bytes := [BitVec.ofNat 8 (b2n r.big)] } })
      | none => s.modMsg id (fun m => { m with ans := { Answer.none with denied := some 5 } })))

/-- The home's answer fills a gazetteer entry, and the request is routed (R362); a request to an unassigned page is denied (R354). -/
def execHomeOwnerAnswer (id : Nat) (s : State) : Host.Outcome State Fault Refusal :=
  .next (s.onMsg id (fun s m =>
    if m.stage != .query then s
    else match m.ans.redirect, m.ans.denied with
      | some (p, o), _ =>
        let s := s.gazFill m.origin p o (m.ans.bytes.headD 0 == 1)
        let s := s.modMsg id (fun m => { m with stage := .wait, ans := Answer.none })
        s.routeAll m.origin
      | none, some _ =>
        let (ans, s) := (s.resolvesOf m).unassigned m
        let s := s.modMsg id (fun m => { m with stage := .served, ans := ans })
        s.routeAll m.origin
      | none, none => s))

def execGazetteerEntryExpiry (d p : Nat) (s : State) : Host.Outcome State Fault Refusal :=
  onUnit (dieOk d) (match find? p (s.die d).gaz with
    | some z => if z.since + 2 ^ 17 < s.tick then s.modDie d (fun k => { k with gaz := del p k.gaz }) else s
    | none => s)

/-- An entry may be replaced at any moment (R362). -/
def execGazetteerEntryReplacement (d p : Nat) (s : State) : Host.Outcome State Fault Refusal :=
  onUnit (dieOk d) (s.modDie d (fun k => { k with gaz := del p k.gaz }))

-- Service at the owner --------------------------------------------------------------------------------------------------------

/-- A request at die t is served there: t serves, holds the page, has not frozen it, and every entry is covered (R357, R363, R367). -/
def State.servable (s : State) (m : Msg) : Bool :=
  m.stage == .sent && s.answers m.origin m.target && (s.ownPage? m.target m.ia).isSome && !s.frozen m.target m.ia && !m.ia2.any (s.frozen m.target) &&
    s.allCovered m.target m.ia (m.stamp.foldl mergeEnt m.ents)

/-- The redirect of an answer that a signpost relayed (R370). -/
def State.redirectFor (s : State) (m : Msg) : Option (Nat × Nat) :=
  if m.path.isEmpty then none else (s.ownPage? m.target m.ia).map (fun p => (p.1, m.target))

/-- What the writers of the page of a request knew (log 23). -/
def State.pastOf (s : State) (m : Msg) : Map Nat :=
  joinPast (getD (m.ia / 65536) ⟨[], []⟩ s.hist).past (match m.ia2 with | none => [] | some a => (getD (a / 65536) ⟨[], []⟩ s.hist).past)

/-- A write applied at the owner: its bytes, and its place in the history of its page with what its origin knew, the writes that its
covered entries name among it (R189; log 23). -/
def State.applyAt (s : State) (m : Msg) (pa ia : Nat) (bs : List Byte) : State :=
  (s.writeAt m.target pa ia bs m.stamp).noteWrite m.origin ia (m.ents.foldl (fun p e => put e.origin s.applied p) m.past)

/-- The checks of R358 at die t for a page that it may not own, as for the page of an MX block's scale: it ignores the leaf of such a page (R355). -/
def State.checkOwn (s : State) (t ia : Nat) (a : Access) : Check := if (s.ownPage? t ia).isSome then s.checkAt t ia a else .denied 4

/-- What die t reads of n bytes at an IA: why it is denied (R358, R448), or the bytes, their stamps and the page's key. -/
def State.readHere (s : State) (t ia n : Nat) : Nat ⊕ (List Byte × List Ent × Nat) :=
  match s.checkOwn t ia .load with
  | .denied w => .inl w
  | .ok pa e => match s.badAt t pa n with
    | some src => .inl (8 + src)
    | none => .inr (s.readPA t pa n, s.stampsOf ia n, leafKey e)

/-- A read served at the owner; an MX block with its scale in one unit (R93, R182, R189). -/
def execReadRequestServe (id : Nat) (s : State) : Host.Outcome State Fault Refusal :=
  .next (s.onMsg id (fun s m =>
    if m.kind != .read || !s.servable m then s
    else
      let rd := s.redirectFor m
      let denied := fun (w : Nat) (second : Bool) =>
        s.modMsg id (fun m => { m with stage := .served, ans := { Answer.none with denied := some w, second := second, redirect := rd } })
      match s.readHere m.target m.ia m.n with
      | .inl w => denied w false
      | .inr (bs, st, key) => match m.ia2.map (fun a => s.readHere m.target a 1) with
        | some (.inl w) => denied w true
        | some (.inr (b, st2, key2)) =>
          s.modMsg id (fun x => { x with stage := .served, ans := ⟨bs ++ b, st2.foldl mergeEnt st, key, none, none, some key2, false, rd, false, s.pastOf m, s.applied⟩ })
        | none => s.modMsg id (fun x => { x with stage := .served, ans := ⟨bs, st, key, none, none, none, false, rd, false, s.pastOf m, s.applied⟩ })))

/-- A probe is answered once the frontiers cover every entry it carries that names its target, the one it is for among them (R189, R190). -/
def execProbeRequestServe (id : Nat) (s : State) : Host.Outcome State Fault Refusal :=
  .next (s.onMsg id (fun s m =>
    if m.kind == .probe && m.stage == .sent && s.answers m.origin m.target && (m.stamp.foldl mergeEnt m.ents).all (s.coveredAt m.target []) then s.modMsg id (fun m => { m with stage := .served }) else s))

/-- Another write of the same origin at the same die comes first: it has a lower number for a common target (R363). -/
def State.laterThanAnother (s : State) (m : Msg) : Bool :=
  s.net.any (fun q => q.2.origin == m.origin && q.2.stage == .sent && q.2.target == m.target &&
    q.2.ids.any (fun i => m.ids.any (fun j => i.1 == j.1 && decide (i.2 < j.2))))

/-- A causal write may be applied at its die now: in sequence order of its origin (R187, R363). -/
def State.inSequence (s : State) (m : Msg) : Bool :=
  !s.laterThanAnother m && match find? m.target m.ids with
    | some n => decide (n ≤ s.frontier m.target m.origin + 1)
    | none => true

/-- After a causal write has been applied or rejected: it is resolved at its die and at every signpost that relayed it, and a die that
answered it not here is sent a resolution (R363, R371). -/
def State.resolveAll (s : State) (m : Msg) : State :=
  m.ids.foldl (fun s i =>
    if i.1 = m.target || m.path.contains i.1 then s.resolve i.1 m.origin i.2
    else
      let (k, s) := s.fresh
      { s with resolutions := put k ⟨i.1, m.origin, i.2⟩ s.resolutions }) s

/-- The owner's decision on a write of an IA (R358, R201): the PA and leaf, or the rejection with the key. -/
def State.writeCheckAt (s : State) (m : Msg) (ia : Nat) : Check × Option Bool × Nat :=
  match s.checkOwn m.target ia .store with
  | .denied w => (.denied w, some false, match s.walk m.target ia with | .leaf _ _ e => leafKey e | _ => 0)
  | .ok pa e => if bitN m.wen (leafKey e) then (.ok pa e, none, leafKey e) else (.denied 6, some true, leafKey e)

def State.writeCheck (s : State) (m : Msg) : Check × Option Bool × Nat := s.writeCheckAt m m.ia

/-- The decision on the scale byte of an mx.apart block: its PA, if the scale page takes the write (R93, R201). -/
def State.scaleCheck (s : State) (m : Msg) : Option Nat × Option Bool × Nat :=
  match m.ia2.map (s.writeCheckAt m) with
  | some (.ok pb _, _, key) => (some pb, none, key)
  | some (.denied _, rej, key) => (none, rej, key)
  | none => (none, none, 0)

/-- A causal or stnc write applied at the owner: all of its bytes, an MX block with its scale, or none when a page rejects it (R93, R187, R195, R201,
R363). -/
def execCausalWriteApply (id : Nat) (s : State) : Host.Outcome State Fault Refusal :=
  .next (s.onMsg id (fun s m =>
    if (m.kind != .write && m.kind != .writeNc) || !s.servable m || (m.kind == .write && !s.inSequence m) then s
    else
      let rd := s.redirectFor m
      let (c, rej, key) := s.writeCheck m
      let (scale, rej2, key2) := s.scaleCheck m
      let s := match c, rej2 with
        | .ok pa _, none =>
          let s := s.applyAt m pa m.ia (m.data.take m.n)
          match scale, m.ia2 with
          | some pb, some a => s.applyAt m pb a (m.data.drop m.n)
          | _, _ => s
        | _, _ => s
      let s := s.resolveAll m
      let second := rej.isNone && rej2.isSome
      s.modMsg id (fun m => { m with stage := .served, ans := { Answer.none with rejected := rej.or rej2, key := if second then key2 else key, second := second, redirect := rd } })))

/-- The new value of an amo (R210). -/
def amoNew (w op old x : Nat) : Nat :=
  match op with
  | 0 => (old + x) % 2 ^ w
  | 1 => if signedN w old ≤ signedN w x then old else x
  | 2 => if signedN w old ≤ signedN w x then x else old
  | 3 => if old ≤ x then old else x
  | 4 => if old ≤ x then x else old
  | 5 => old &&& x
  | 6 => old ||| x
  | 7 => old ^^^ x
  | _ => x

/-- v := x * 2^149 truncated toward zero, and whether bits were lost (R108). -/
def cellUnits (neg : Bool) (m : Nat) (e : Int) : Int × Bool :=
  let sc := scaleTo m e (-149)
  (if neg then -(sc.n : Int) else (sc.n : Int), sc.inexact)

/-- xcell_add (R108) on the 512 bits of a cell. -/
def xcellAdd (cell : Nat) (x : XReal) : Nat :=
  let cell := cell % 2 ^ 500
  match x with
  | .nan => setBitsN cell 498 498 1
  | .inf n => if n then setBitsN cell 497 497 1 else setBitsN cell 496 496 1
  | .fin n m e =>
    if m != 0 && decide (256 ≤ flog2 m e) then (if n then setBitsN cell 497 497 1 else setBitsN cell 496 496 1)
    else
      let (v, lost) := cellUnits n m e
      let cell := if lost then setBitsN cell 499 499 1 else cell
      setBitsN cell 495 0 (wrapN 496 (((cell % 2 ^ 496 : Nat) : Int) + v))

/-- The rounded form of a cell (R109), an f32 code. -/
def cellRound (cell : Nat) : Nat :=
  if bitN cell 498 || (bitN cell 496 && bitN cell 497) then f32Fmt.nanCode
  else if bitN cell 496 then f32Fmt.infCode false
  else if bitN cell 497 then f32Fmt.infCode true
  else let v := signedN 496 cell; if v = 0 then 0 else encF32 (.fin (decide (v < 0)) v.natAbs (-149))

/-- What an atomic update leaves at its location (R197, R210, R211). -/
def Atomic.newValue (a : Atomic) (old : Nat) : Nat :=
  match a with
  | .amo w op x => amoNew w op old x
  | .cas _ c n => if old = c then n else old
  | .xadd f v => xcellAdd old (if f then decF32 v else decF64 v)

/-- A cas that fails writes nothing: the bytes it returns stay those of their writer (R189, R197). -/
def Atomic.fails (a : Atomic) (old : Nat) : Bool :=
  match a with
  | .cas _ c _ => old != c
  | _ => false

-- Signposts -------------------------------------------------------------------------------------------------------------------

/-- A signpost relays a causal write only after every lower number of its origin at this die is resolved or relayed the same way. -/
def State.relayInOrder (s : State) (m : Msg) (owner : Nat) : Bool :=
  match find? m.target m.ids with
  | none => !s.laterThanAnother m
  | some n =>
    let f := getD m.origin ⟨0, []⟩ (s.die m.target).fronts
    s.net.all (fun q => !(q.2.origin == m.origin && q.2.ids.any (fun i => i.1 == m.target && decide (i.2 < n) && !(decide (i.2 ≤ f.f) || f.above.contains i.2))) ||
      (q.2.path.contains m.target && q.2.target == owner && q.2.stage == .sent))

/-- A signpost forwards a request to the owner at cutover; at a relay count of 2 it asks the home and answers redirect only (R368). -/
def execSignpostRelay (id : Nat) (s : State) : Host.Outcome State Fault Refusal :=
  .next (s.onMsg id (fun s m =>
    let d := m.target
    if m.stage != .sent || m.kind == .probe || !s.answers m.origin d || (s.ownPage? d m.ia).isSome then s
    else match find? (m.ia / 65536) (s.die d).signs with
      | none => s
      | some g =>
        if m.kind.causal && !s.relayInOrder m g.owner then s
        else if 2 ≤ m.path.length then
          if !s.answers d (s.homeOf d m.ia) then s
          else match s.homeRec? d m.ia with
          | none => let (ans, s) := (s.resolveAll m).unassigned m; s.modMsg id (fun m => { m with stage := .served, ans := ans })
          | some (p, r) => s.modMsg id (fun m => { m with stage := .redirected, ans := { Answer.none with redirect := some (p, r.owner) } })
        else s.modMsg id (fun m => { m with target := g.owner, path := m.path ++ [d] })))

/-- A redirect at the origin die: its gazetteer entry is filled or confirmed, and new requests to the page are held until the earlier ones
are answered (R370). -/
def State.takeRedirect (s : State) (id : Nat) (m : Msg) : State :=
  match m.ans.redirect, m.ans.taken with
  | some (p, o), false =>
    (s.redirectTo m.origin p o).modMsg id (fun m => { m with ans := { m.ans with taken := true } })
  | _, _ => s

/-- A redirect is taken; a request answered redirect only is sent again to the named owner, a write with a new number for it (R370, R371). -/
def execRedirect (id : Nat) (s : State) : Host.Outcome State Fault Refusal :=
  .next (s.onMsg id (fun s m =>
    if m.stage = .redirected then
      match m.ans.redirect with
      | none => s
      | some (_, o) =>
        let s := s.takeRedirect id m
        let s := s.modMsg id (fun m => { m with stage := .wait, path := [], ans := Answer.none })
        s.sendTo id o { m with stage := .wait, path := [] }
    else if m.stage = .served then s.takeRedirect id m else s))

/-- A die that holds neither the page nor a signpost answers not here; the origin asks the home and sends the request again (R371). -/
def execNotHere (id : Nat) (s : State) : Host.Outcome State Fault Refusal :=
  .next (s.onMsg id (fun s m =>
    if m.stage != .sent || m.kind == .probe || !s.answers m.origin m.target || (s.ownPage? m.target m.ia).isSome ||
        (find? (m.ia / 65536) (s.die m.target).signs).isSome then s
    else
      (s.gazDrop m.origin m.ia).modMsg id (fun m => { m with stage := .query, ans := Answer.none, path := [] })))

/-- A resolution reaches the die that answered a write not here (R371). -/
def execWriteResolution (id : Nat) (s : State) : Host.Outcome State Fault Refusal :=
  .next (match find? id s.resolutions with
    | none => s
    | some r => ({ s.wake r.die with resolutions := del id s.resolutions }).resolve r.die r.origin r.seq)

/-- A former owner reports its frontiers to the owner of a page with a lineage (R365). -/
def execLineageFrontierReport (d p t : Nat) (s : State) : Host.Outcome State Fault Refusal :=
  onUnit (dieOk d && dieOk t) (match find? p (s.die d).pages with
    | none => s
    | some pg =>
      let s := (s.wake d).wake t
      let fr := (s.die t).fronts
      let lin := pg.lineage.map (fun l => if l.die = t then
        { l with frontier := fr.foldl (fun m o => put o.1 (Nat.max (getD o.1 0 m) o.2.f) m) l.frontier } else l)
      s.modDie d (fun k => { k with pages := put p { pg with lineage := lin } k.pages }))

/-- No write to a page that die d relayed, or answered redirect only or not here, is still to be applied or to be resolved at d (R369, R371): the
home knows of those the handshake waits for. -/
def State.settledFor (s : State) (d p : Nat) : Bool :=
  s.net.all (fun q => q.2.ia / 65536 != p || (!q.2.path.contains d && (q.2.stage == .served || q.2.ids.all (fun i => i.1 != d)))) &&
    s.resolutions.all (fun r => r.2.die != d)

/-- A signpost starts its retirement handshake: 2^18 ticks after its cutover, with every relayed request answered (R369) and every write that left
this die unapplied resolved (R371, R372). -/
def execSignpostRetirement (d p : Nat) (s : State) : Host.Outcome State Fault Refusal :=
  onUnit (dieOk d) (match find? p (s.die d).signs with
    | none => s
    | some g =>
      if g.stage = 0 && decide (g.since + 2 ^ 18 ≤ s.tick) && s.settledFor d p
      then s.modDie d (fun k => { k with signs := put p { g with stage := 1 } k.signs }) else s)

/-- The current owner drops the signposting die d from the page's lineage and confirms (R369). -/
def execLineageDrop (d p : Nat) (s : State) : Host.Outcome State Fault Refusal :=
  onUnit (dieOk d) (match find? p (s.die d).signs with
    | none => s
    | some g =>
      if g.stage != 1 || !s.settledFor d p || !s.serving (s.homeOf d (p * 65536)) then s
      else
        let s := (s.wake d).wake (s.homeOf d (p * 65536))
        match s.homeRec? d (p * 65536) with
        | none => s.modDie d (fun k => { k with signs := put p { g with stage := 2 } k.signs })
        | some (q, r) => if !s.serving r.owner then s else
        let s := (s.wake r.owner).modDie r.owner (fun k => match find? q k.pages with
            | none => k
            | some pg => { k with pages := put q { pg with lineage := pg.lineage.filter (fun l => l.die != d) } k.pages })
        s.modDie d (fun k => { k with signs := put p { g with stage := 2 } k.signs }))

/-- No request to a page that die d relayed is still unanswered (R369). -/
def State.relayedAnswered (s : State) (d p : Nat) : Bool := s.net.all (fun q => q.2.ia / 65536 != p || !q.2.path.contains d || q.2.stage == .served)

/-- The home tells the signposting die to remove the signpost, once every request that it has relayed is answered (R369). -/
def execSignpostRemove (d p : Nat) (s : State) : Host.Outcome State Fault Refusal :=
  onUnit (dieOk d) (match find? p (s.die d).signs with
    | none => s
    | some g => if g.stage = 2 && s.relayedAnswered d p then (s.wake d).modDie d (fun k => { k with signs := del p k.signs }) else s)

-- Answers at the issuing context ----------------------------------------------------------------------------------------------

/-- trap.info of cause 0x0F (R202). -/
def info0F (ia key : Nat) (forKey : Bool) : W64 := w64 (b2n forKey * 2 ^ 59 + key * 2 ^ 54 + ia % 2 ^ 52)

/-- One more rejection noted in a pending one (R202). -/
def noteRejection (d : Deferred) : Deferred :=
  { d with info := w64 (setBitsN d.info.toNat 62 60 (if bits d.info 62 60 = 7 then 7 else bits d.info 62 60 + 1)) }

/-- The IA at which a request failed: that of its scale byte, or its own. -/
def Msg.failedIA (m : Msg) : Nat := if m.ans.second then m.ia2.getD m.ia else m.ia

/-- A rejected write is recorded at the issuing context, or at its task when the binding has ended (R141, R201). -/
def State.recordRejection (s : State) (m : Msg) : State :=
  let upd := fun (f : Map Deferred) => match find? 0x0F f with
    | some x => put 0x0F (noteRejection x) f
    | none => put 0x0F ⟨info0F m.failedIA m.ans.key (m.ans.rejected == some true), 0, none, [], [], []⟩ f
  if m.ans.rejected.isNone then s
  else if (s.ctx m.g).task = m.task then s.modCtx m.g (fun c => { c with deferred := upd c.deferred })
  else match m.task with
    | none => s
    | some u => s.modTask m.origin u (fun t => { t with faults := upd t.faults })

/-- A rejection reaches the core (R201). -/
def execStoreRejection (id : Nat) (s : State) : Host.Outcome State Fault Refusal :=
  .next (s.onMsg id (fun s m =>
    if m.stage != .served || m.ans.rejected.isNone then s
    else (s.recordRejection m).modMsg id (fun m => { m with ans := { m.ans with rejected := none } })))

/-- A write's acknowledgement: its own entry ends, and requests that waited for it are routed (R187, R188, R370). -/
def execWriteAcknowledgement (id : Nat) (s : State) : Host.Outcome State Fault Refusal :=
  .next (s.onMsg id (fun s m =>
    if m.stage != .served || m.tok.isSome || m.ans.rejected.isSome || m.kind == .read || m.kind == .probe then s
    else (((s.takeRedirect id m).dropMsg id).routeAll m.origin)))

/-- A read that has been served is out of date for a reader that knows `past`: a write applied to its page since then can be causally
before it (R185, R186; log 23). -/
def State.outOfDate (s : State) (past : Map Nat) (q : Msg) : Bool :=
  q.stage == .served && (q.ia :: q.ia2.toList).any (fun a =>
    (getD (a / 65536) ⟨[], []⟩ s.hist).wrote.any (fun w => decide (q.ans.seen < w.2) && decide (q.ans.seen < knows past w.1)))

/-- Reads of the context issued later that name a target of a new entry, or a page whose lineage holds it, are sent again, and only the
second answer counts (R189); so are those that the answer shows to be out of date. -/
def State.resendReads (s : State) (id : Nat) (m : Msg) : State :=
  { s with net := s.net.map (fun q =>
      if q.2.kind == .read && q.2.ownedBy m.g m.task && decide (id < q.1) && (q.2.stage == .sent || q.2.stage == .served) then
        let lin := match s.ownPage? q.2.target q.2.ia with | some (_, p) => p.lineage | none => []
        let new := m.ans.stamps.filter (fun e => (e.target == q.2.target || lin.any (fun l => l.die == e.target)) && !q.2.ents.contains e)
        if new.isEmpty && !s.outOfDate m.ans.past q.2 then q
        else (q.1, { q.2 with stage := .sent, ans := Answer.none, ents := new.foldl mergeEnt q.2.ents })
      else q) }

/-- A read or an atomic update of the context, issued earlier, is not yet answered: answers are taken in order (R184; log 23). -/
def State.readBefore (s : State) (g : Nat) (task : Option Nat) (id : Nat) : Bool :=
  let plain := fun (tok : Nat) => match find? tok (s.ctx g).loads with | some l => l.kind != .cacheOnly | none => false
  s.net.any (fun q => s.before q.1 && decide (q.1 < id) && q.2.ownedBy g task && (match q.2.tok with | some tok => plain tok | none => false))

/-- The lanes a vld delivers (R208). -/
def loadRowLanes (t pf : Nat) (mx : Bool) (rnd : Nat) (ovf : Bool) (start seed : Nat) (bs : List Byte) : List Nat :=
  let ft := (fmtOf t).getD (.int 8 false)
  let ff := (fmtOf pf).getD (.int 8 false)
  let n := lanesOf t
  let elems := if mx then
      (upFrom 0 (n / 32)).map (fun j => let b := (bs.drop (33 * j)).take 33
        ((b.take 32).map (fun x => (x.toNat, (b.getD 32 0).toNat)))) |>.flatten
    else (upFrom 0 n).map (fun k => (ofBytes ((bs.drop (ff.size * k)).take ff.size), 128))
  (elems.zip (upFrom 0 n)).map (fun p =>
    if pf = t then p.1.1
    else ft.enc (if mx then mxValue ff p.1.1 p.1.2 else ff.decode p.1.1) rnd ovf (if rnd = 4 then coin seed (start + p.2) else 0))

/-- Delivery of a load whose answers have all returned (R200, R206, R208, R211): a denied one writes nothing and poisons its
destinations. -/
def State.deliver (s : State) (g tok : Nat) (l : Load) : State :=
  let c := s.ctx g
  let bs := (l.buf.map (fun p => p.2)).flatten.drop l.skip
  let pend := c.pend.filter (fun p => p.2 != tok)
  let c := { c with loads := del tok c.loads, pend := pend }
  let put1 (c : Ctx) (r : Nat) (v : W64) : Ctx :=
    if r = 85 then (if c.l5.tok = tok && c.l5.waiting then { (c.setReg 85 v) with l5 := ⟨tok, false⟩ } else c) else c.landReg r v
  let bad1 (q : Poison) (c : Ctx) (r : Nat) : Ctx :=
    if r = 85 then (if c.l5.tok = tok && c.l5.waiting then { (c.poisonReg 85 q) with l5 := ⟨tok, false⟩ } else c)
    else { (c.poisonReg r q) with addends := del r c.addends }
  match l.kind, l.denial with
  | .cacheOnly, _ => s.setCtx g c
  | .scalar _ _ regs, some q => s.setCtx g (regs.foldl (bad1 q) c)
  | .scalar n sg regs, none => s.setCtx g ((regValues n sg regs bs).foldl (fun c p => put1 c p.1 p.2) c)
  | .cell r, some q => s.setCtx g (bad1 q c r)
  | .cell r, none => s.setCtx g (put1 c r (w64 (cellRound (ofBytes bs))))
  | .row r _ _ _ _ _ _ _, some q => (s.setCtx g { c with raised := c.raised.filter (fun x => x != 256 + r) }).modCore (coreOfCtx g) (fun k => { k with rowPoison := put r q k.rowPoison })
  | .row r t pf mx rnd ovf start seed, none =>
    let lanes := loadRowLanes t pf mx rnd ovf start seed bs
    (s.setCtx g c).putRow (coreOfCtx g) r (BitVec.ofNat 4096 (ofLanes ((fmtOf t).getD (.int 8 false)).size lanes))

/-- The denial of an answered part: by the owner (R358), or by pkr as it now stands, for its page or that of its scale (R200, R208). -/
def Msg.denial (m : Msg) (pkr : W64) : Option Poison :=
  match m.ans.denied with
  | some w => some (denialPoison false w m.failedIA)
  | none =>
    if m.kind != .read then none
    else if !keyReads pkr m.ans.key then some ⟨7, info07 m.ia m.ans.key⟩
    else if m.ans.key2.any (fun k => !keyReads pkr k) then some ⟨7, info07 (m.ia2.getD m.ia) (m.ans.key2.getD 0)⟩ else none

/-- The sectors that the read-only cache of a core holds: 64 KiB (R32). -/
def rocSectors : Nat := 2048

/-- A sector enters the read-only cache; a full cache loses one, which the spec leaves open (R32, R196; log 68). -/
def State.rocFill (s : State) (c k : Nat) (v : List Byte × Nat) : State :=
  let r := (s.core c).roc
  let fill := fun (s : State) (r : Map (List Byte × Nat)) => s.modCore c (fun q => { q with roc := put k v r, badRoc := q.badRoc.filter (fun b => b.1 != k && (find? b.1 r).isSome) })
  if r.length < rocSectors || (find? k r).isSome then fill s r
  else match r[(Config.freeWord s.free).toNat % r.length]? with
    | some q => fill { s with free := s.free + 1 } (del q.1 r)
    | none => fill s r

/-- An answer of a load's request is taken (R184, R186, R194, R196, R203): the dependencies it names join the context's, its bytes the load's; the last
delivers the load. `ds` holds the context's entries after it (log 23). -/
def State.landAnswer (s : State) (id tok : Nat) (m : Msg) (l : Load) (ds : List Dep) : State :=
  let c := s.ctx m.g
  let s := s.takeRedirect id m
  let s := s.recordRejection m
  let s := s.modCtx m.g (fun c => { c with deps := ds })
  let s := s.modDie m.origin (fun k => { k with past := joinPast k.past m.ans.past })
  let s := s.resendReads id m
  let s := s.dropMsg id
  let off := getD id 0 l.parts
  let l := { l with parts := del id l.parts, buf := put off m.ans.bytes l.buf,
                    denial := match l.denial with | some q => some q | none => m.denial c.pkr }
  let s := if l.acquire then s.dropRoc (coreOfCtx m.g) else s
  let s := if l.ro && m.ans.denied.isNone && decide ((s.core (coreOfCtx m.g)).rocFrom ≤ id) then s.rocFill (coreOfCtx m.g) (m.ia / 32) (m.ans.bytes, m.ans.key) else s
  let s := if l.parts.isEmpty then (s.deliver m.g tok l).finishStop m.g else s.modCtx m.g (fun c => { c with loads := put tok l c.loads })
  s.routeAll m.origin

/-- An answer returns to its context (R189): after every earlier one its stamp is merged into the dependency set, held while there is no room; its
part of the load is taken; when all parts are there, the load is delivered. -/
def execLoadAnswer (id : Nat) (s : State) : Host.Outcome State Fault Refusal :=
  .next (s.onMsg id (fun s m => match m.stage, m.tok with
    | .served, some tok =>
      let c := s.ctx m.g
      let gone := (((s.takeRedirect id m).recordRejection m).dropMsg id).routeAll m.origin
      if c.task != m.task then gone
      else match find? tok c.loads with
        | none => gone
        | some l =>
          let ds := mergedDeps s.tick tok c.deps m.ans.stamps
          if l.kind != .cacheOnly && s.readBefore m.g m.task id then s
          else if 8 < ds.length then s.probeOldest m.g
          else s.landAnswer id tok m l ds
    | _, _ => s))

/-- A probe's answer drops its entry; a probe instruction whose answers have all returned writes its count (R190, R212). -/
def execProbeAnswer (id : Nat) (s : State) : Host.Outcome State Fault Refusal :=
  .next (s.onMsg id (fun s m =>
    if m.kind != .probe || m.stage != .served then s
    else
      let s := s.dropMsg id
      let s := s.modDie m.origin (fun k => { k with past := m.stamp.foldl (fun p e => put e.origin s.applied p) k.past })
      let s := if (s.ctx m.g).task = m.task then
          s.modCtx m.g (fun c =>
            let ds := c.deps.filter (fun x => !m.stamp.contains x.ent)
            match c.probeOp with
            | some (r, n, tok) =>
              if ds.all (fun x => !x.probing) then
                let c := { c with deps := ds, probeOp := none, pend := c.pend.filter (fun p => p.1 != r) }
                if r = 85 then (if c.l5.waiting && c.l5.tok == tok then { (c.setReg 85 (w64 n)) with l5 := ⟨tok, false⟩ } else c) else c.landReg r (w64 n)
              else { c with deps := ds }
            | none => { c with deps := ds }) |>.finishStop m.g
        else s
      s.routeAll m.origin))

/-- A dependency entry held for 2^14 ticks is probed (R190). -/
def execDependencyEntryAgeProbe (g j : Nat) (s : State) : Host.Outcome State Fault Refusal :=
  onUnit (ctxOk g) (match (s.ctx g).deps[j]? with
    | some x => if !x.probing && decide (x.since + 2 ^ 14 ≤ s.tick) then s.sendProbe g x.ent else s
    | none => s)

def Port.init : Port := ⟨false, 0, 0, 0⟩
def State.port (s : State) (d k : Nat) : Port := getD k Port.init (s.die d).coll.ports
def State.modPort (s : State) (d k : Nat) (f : Port → Port) : State :=
  s.modDie d (fun q => { q with coll := { q.coll with ports := put k (f (getD k Port.init q.coll.ports)) q.coll.ports } })

/-- Flits of a die are sent again over one of the ports that are up: which one, and how many, is open (R364, R406; log 45). -/
def State.resent (s : State) (d : Nat) : State :=
  let up := (s.die d).coll.ports.filter (fun q => q.2.up)
  match up[(Config.freeWord s.free).toNat % up.length]? with
  | some q => ({ s with free := s.free + 2 }).modPort d q.1 (fun p => { p with rty := Nat.min (p.rty + (Config.freeWord (s.free + 1)).toNat % 65536) 65535 })
  | none => s

/-- An unacknowledged causal write is sent again over another path after 2^10 ticks; a second arrival is acknowledged again and not
applied (R364). -/
def execWriteResendTimeout (id : Nat) (s : State) : Host.Outcome State Fault Refusal :=
  .next (s.onMsg id (fun s m =>
    if m.kind.causal && !m.ids.isEmpty && decide (m.last + 2 ^ 10 ≤ s.tick) then
      (if m.origin / 4 == m.target / 4 then s else s.resent m.origin).modMsg id (fun m => { m with last := s.tick })
    else s))

/-- A write unacknowledged for 2^16 ticks: its target is recorded as unreachable (R364, R449). -/
def execTargetUnreachable (id : Nat) (s : State) : Host.Outcome State Fault Refusal :=
  .next (s.onMsg id (fun s m =>
    if m.kind.causal && !m.ids.isEmpty && !m.unreachable && decide (m.first + 2 ^ 16 ≤ s.tick) then
      let s := s.errorRecord m.origin 4 (coreOfCtx m.g % 64) 0 (w64 m.ia) 0 0 0 0
      s.modMsg id (fun m => { m with unreachable := true, last := s.tick })
    else s))

end Sys2Proof.Machine
end

