-- ==== Sys2Proof/WellFormed.lean ====
section
/-! DEFINITION. Which instructions a slot may hold: the static checks of R46 on a slot word.
`Instr.legal` is the absence of cause 0x01 (a field that is used but holds a value with no meaning), `Instr.reservedClear` the
absence of cause 0x02 in a field whose use depends on another field (R46, R55, R253). -/

namespace Sys2Proof

/-- Specifiers 86 and 87 are undefined as a source (R50). -/
def srcOk (x : BitVec 7) : Bool := x != 86 && x != 87

/-- The legal destination specifiers of a slot (R51); S0 destinations follow the S1 column (R61). -/
def dstOk (sl : Slot) (x : BitVec 7) : Bool :=
  let n := x.toNat
  match sl with
  | .s0 | .s1 => decide (n < 72) || n == 80 || n == 81
  | .s2 => decide (n < 64) || (decide (72 ≤ n) && decide (n < 80)) || n == 82 || n == 83
  | .s3 => decide (n < 80) || n == 84 || n == 85
  | _ => decide (n < 64)

/-- A register group of k registers is named by a register of s0 to s63 whose number is a multiple of k (R51, R65). -/
def groupOk (k : Nat) (x : BitVec 7) : Bool := decide (x.toNat < 64) && x.toNat % k == 0

/-- The data specifier of lds and sts by its size field (R51, R65). -/
def sizedOk (single : Bool) (z : BitVec 2) (x : BitVec 7) : Bool :=
  if z = 3 then groupOk 4 x else if z = 2 then groupOk 2 x else single

/-- Loop levels 6 and 7 have no meaning (R46, R55, R61). -/
def levelOk (n : BitVec 3) : Bool := decide (n.toNat ≤ 5)

/-- The exact conversions of fcvt ignore the rounding field (R173). -/
def fcvtExact (c : BitVec 4) : Bool := c == 0 || c == 4 || c == 5

/-- The level an issue mode names (R55); a mode of 0 does not use the field. -/
def Header.legal (h : Header) : Bool := h.mode == 0 || levelOk h.level

/-- With issue mode 0 the level field is reserved (R55). -/
def Header.reservedClear (h : Header) : Bool := h.mode != 0 || h.level == 0

/-- p0 and m0 are no destinations (R63, R251, R261). -/
def predDstOk (k : BitVec 3) : Bool := k != 0

/-- The predicate pair base of spawn (R61). -/
def pairBaseOk (b : BitVec 3) : Bool := b == 2 || b == 4 || b == 6

/-- Rounding codes 5 to 7 are undefined (R59). -/
def roundOk (r : BitVec 3) : Bool := decide (r.toNat ≤ 4)

/-- The system register numbers that R146 allocates. -/
def sysRegOk (r : BitVec 6) : Bool := r != 0x16 && r != 0x17 && decide (r.toNat < 0x37)

/-- The element types a lane may hold (R233), as format codes (R94). -/
def laneTypeOk (u : BitVec 6) : Bool :=
  let n := u.toNat
  (decide (n < 0x20) && n % 8 != 0) || n == 0x20 || n == 0x21 || n == 0x22 || n == 0x28 || n == 0x29 || n == 0x2A ||
    n == 0x2C || n == 0x2D || n == 0x2E

/-- The opcode space of an instruction that has a word; none for the steps of the part that have none. -/
def Instr.space? : Instr → Option Space
  | .jmp _ => some .control
  | .jmpc _ _ => some .control
  | .jmpi _ => some .control
  | .jmpt _ _ => some .control
  | .jmpm _ => some .control
  | .call _ => some .control
  | .calli _ => some .control
  | .loop _ _ _ _ => some .control
  | .loopi _ _ _ _ => some .control
  | .lbrk _ => some .control
  | .wait _ => some .control
  | .trap _ => some .control
  | .brk _ => some .control
  | .spawn _ _ => some .control
  | .tld _ _ => some .control
  | .tst _ _ => some .control
  | .sysr _ _ => some .control
  | .sysw _ _ => some .control
  | .gsub _ => some .control
  | .add _ _ _ _ => some .scalar
  | .sub _ _ _ _ => some .scalar
  | .mul _ _ _ _ => some .scalar
  | .mulh _ _ _ _ => some .scalar
  | .mulhn _ _ _ _ => some .scalar
  | .div _ _ _ _ => some .scalar
  | .divn _ _ _ _ => some .scalar
  | .and _ _ _ _ => some .scalar
  | .or _ _ _ _ => some .scalar
  | .xor _ _ _ _ => some .scalar
  | .andn _ _ _ _ => some .scalar
  | .shl _ _ _ _ => some .scalar
  | .shr _ _ _ _ => some .scalar
  | .sra _ _ _ _ => some .scalar
  | .min _ _ _ _ => some .scalar
  | .max _ _ _ _ => some .scalar
  | .minn _ _ _ _ => some .scalar
  | .maxn _ _ _ _ => some .scalar
  | .cmp _ _ _ _ _ => some .scalar
  | .sel _ _ _ _ => some .scalar
  | .li _ _ _ => some .scalar
  | .lih _ _ _ => some .scalar
  | .clz _ _ _ => some .scalar
  | .ctz _ _ _ => some .scalar
  | .popc _ _ _ => some .scalar
  | .bext _ _ _ _ => some .scalar
  | .bins _ _ _ _ => some .scalar
  | .addsh1 _ _ _ _ => some .scalar
  | .addsh2 _ _ _ _ => some .scalar
  | .addsh3 _ _ _ _ => some .scalar
  | .addsh5 _ _ _ _ => some .scalar
  | .pand _ _ _ _ => some .scalar
  | .por _ _ _ _ => some .scalar
  | .pnot _ _ _ => some .scalar
  | .faddF32 _ _ _ _ => some .scalar
  | .fsubF32 _ _ _ _ => some .scalar
  | .fmulF32 _ _ _ _ => some .scalar
  | .ffmaF32 _ _ _ _ => some .scalar
  | .fcmpF32 _ _ _ _ _ => some .scalar
  | .fcvt _ _ _ _ _ => some .scalar
  | .faddF64 _ _ _ _ => some .scalar
  | .fsubF64 _ _ _ _ => some .scalar
  | .fmulF64 _ _ _ _ => some .scalar
  | .ffmaF64 _ _ _ _ => some .scalar
  | .fcmpF64 _ _ _ _ _ => some .scalar
  | .ldB _ _ _ _ => some .memory
  | .ldH _ _ _ _ => some .memory
  | .ldW _ _ _ _ => some .memory
  | .ldD _ _ _ _ => some .memory
  | .ldQ _ _ _ _ => some .memory
  | .ldO _ _ _ _ => some .memory
  | .ldnB _ _ _ _ => some .memory
  | .ldnH _ _ _ _ => some .memory
  | .ldnW _ _ _ _ => some .memory
  | .ldWAcq _ _ _ _ => some .memory
  | .ldDAcq _ _ _ _ => some .memory
  | .stB _ _ _ _ => some .memory
  | .stH _ _ _ _ => some .memory
  | .stW _ _ _ _ => some .memory
  | .stD _ _ _ _ => some .memory
  | .stQ _ _ _ _ => some .memory
  | .stO _ _ _ _ => some .memory
  | .stWRel _ _ _ _ => some .memory
  | .stDRel _ _ _ _ => some .memory
  | .ldroW _ _ _ _ => some .memory
  | .ldroD _ _ _ _ => some .memory
  | .ldroQ _ _ _ _ => some .memory
  | .ldroO _ _ _ _ => some .memory
  | .stncD _ _ _ _ => some .memory
  | .stncQ _ _ _ _ => some .memory
  | .stncO _ _ _ _ => some .memory
  | .lds _ _ _ _ _ => some .memory
  | .sts _ _ _ _ _ => some .memory
  | .vld _ _ _ _ _ _ => some .memory
  | .vst _ _ _ _ _ _ => some .memory
  | .vlds _ _ _ _ => some .memory
  | .vsts _ _ _ _ => some .memory
  | .amoW _ _ _ _ _ _ => some .memory
  | .amoD _ _ _ _ _ _ => some .memory
  | .casW _ _ _ _ _ => some .memory
  | .casD _ _ _ _ _ => some .memory
  | .xadd _ _ _ _ => some .memory
  | .xget _ _ _ _ => some .memory
  | .fence _ _ _ => some .memory
  | .prf _ _ _ => some .memory
  | .probe _ _ => some .memory
  | .vadd _ _ _ _ _ => some .vector0
  | .vsub _ _ _ _ _ => some .vector0
  | .vmul _ _ _ _ _ => some .vector0
  | .vfma _ _ _ _ _ => some .vector0
  | .vfms _ _ _ _ _ => some .vector0
  | .vmin _ _ _ _ _ => some .vector0
  | .vmax _ _ _ _ _ => some .vector0
  | .vabs _ _ _ _ => some .vector0
  | .vneg _ _ _ _ => some .vector0
  | .vclamp _ _ _ _ _ => some .vector0
  | .vand _ _ _ _ _ => some .vector0
  | .vor _ _ _ _ _ => some .vector0
  | .vxor _ _ _ _ _ => some .vector0
  | .vshl _ _ _ _ _ => some .vector0
  | .vshr _ _ _ _ _ => some .vector0
  | .vsra _ _ _ _ _ => some .vector0
  | .vcmp _ _ _ _ _ _ => some .vector0
  | .vsel _ _ _ _ _ => some .vector0
  | .vmov _ _ _ _ => some .vector0
  | .vbcs _ _ _ _ => some .vector0
  | .vlane _ _ _ => some .vector0
  | .vaddS _ _ _ _ _ => some .vector0
  | .vsubS _ _ _ _ _ => some .vector0
  | .vmulS _ _ _ _ _ => some .vector0
  | .vfmaS _ _ _ _ _ => some .vector0
  | .vfmsS _ _ _ _ _ => some .vector0
  | .vminS _ _ _ _ _ => some .vector0
  | .vmaxS _ _ _ _ _ => some .vector0
  | .vclampS _ _ _ _ _ => some .vector0
  | .vandS _ _ _ _ _ => some .vector0
  | .vorS _ _ _ _ _ => some .vector0
  | .vxorS _ _ _ _ _ => some .vector0
  | .vshlS _ _ _ _ _ => some .vector0
  | .vshrS _ _ _ _ _ => some .vector0
  | .vsraS _ _ _ _ _ => some .vector0
  | .vcmpS _ _ _ _ _ _ => some .vector0
  | .vselS _ _ _ _ _ => some .vector0
  | .vexp _ _ _ _ => some .vector1
  | .vlog _ _ _ _ => some .vector1
  | .vtanh _ _ _ _ => some .vector1
  | .vsig _ _ _ _ => some .vector1
  | .vgelu _ _ _ _ => some .vector1
  | .vsilu _ _ _ _ => some .vector1
  | .vrsqrt _ _ _ _ => some .vector1
  | .vsqrt _ _ _ _ => some .vector1
  | .vrcp _ _ _ _ => some .vector1
  | .vrcpe _ _ _ _ => some .vector1
  | .vrcpn _ _ _ _ _ => some .vector1
  | .vrsqe _ _ _ _ => some .vector1
  | .vrsqn _ _ _ _ _ => some .vector1
  | .vcvt _ _ _ _ _ _ => some .vector1
  | .vperm _ _ _ _ _ => some .vector1
  | .vslide _ _ _ _ _ => some .vector1
  | .vsort _ _ _ _ => some .vector1
  | .vred _ _ _ _ => some .vector1
  | .mpush _ _ => some .vector1
  | .minv _ => some .vector1
  | .mpop _ => some .vector1
  | .mset _ _ _ _ => some .vector1
  | .mget _ _ _ _ => some .vector1
  | .vslideS _ _ _ _ _ => some .vector1
  | .mcfg _ _ _ => some .array
  | .cpl _ _ _ => some .array
  | .mld _ _ _ => some .array
  | .mmk _ _ _ _ => some .array
  | .mmc _ _ _ _ => some .array
  | .msp _ _ _ _ _ => some .array
  | .mdp _ _ => some .array
  | .mdr _ _ _ _ => some .array
  | .mstr _ _ _ _ => some .array
  | .mzero _ => some .array
  | .mtab _ _ _ => some .array
  | .mhist _ _ _ _ _ _ => some .array
  | .mbind _ _ _ _ => some .array
  | .mst _ _ => some .array
  | .mfence _ => some .array
  | .cpy _ _ _ _ => some .engine
  | .cpyt _ _ _ _ => some .engine
  | .cpyx _ _ _ _ => some .engine
  | .cpyc _ _ _ _ => some .engine
  | .barm _ _ _ _ => some .engine
  | .barr _ _ _ => some .engine
  | .bq _ _ => some .engine
  | .qinit _ _ _ _ => some .engine
  | .qadd _ _ _ _ => some .engine
  | .qmerge _ _ _ _ => some .engine
  | .qmergeat _ _ _ _ => some .engine
  | .qquery _ _ _ _ => some .engine
  | .mmerge _ _ _ _ => some .engine
  | .hinit _ _ _ => some .engine
  | .hadd _ _ _ _ => some .engine
  | .hmerge _ _ _ _ => some .engine
  | .htop _ _ _ _ => some .engine
  | .dinit _ _ _ _ => some .engine
  | .dadd _ _ _ _ => some .engine
  | .dmerge _ _ _ _ => some .engine
  | .dest _ _ _ => some .engine
  | .stopen _ _ _ _ => some .engine
  | .stld _ _ _ _ => some .engine
  | .stst _ _ _ _ => some .engine
  | .stmark _ _ _ => some .engine
  | .stback _ _ _ _ => some .engine
  | .stfork _ _ _ _ => some .engine
  | .stpin _ _ _ _ => some .engine
  | .stclose _ _ _ => some .engine
  | .stq _ _ _ => some .engine
  | .mig _ _ _ _ => some .engine
  | .pkset _ _ _ => some .engine
  | .own _ _ => some .engine
  | .ocinv _ _ _ _ => some .engine
  | .lrenew _ _ => some .engine
  | .hnote _ _ _ _ => some .engine
  | .hintr _ _ _ => some .engine
  | .gath _ _ _ => some .engine
  | .scat _ _ _ => some .engine
  | .scata _ _ _ => some .engine
  | .fqread _ _ _ _ => some .engine
  | .frep _ _ => some .engine
  | .fdrop _ _ _ => some .engine
  | .wlnew _ _ _ _ => some .engine
  | .wlpush _ _ _ => some .engine
  | .wlpop _ _ _ => some .engine
  | .wlins _ _ _ _ => some .engine
  | .wlstat _ _ => some .engine
  | .cqsend _ _ _ _ => some .engine
  | .cst _ _ _ => some .engine
  | .copen _ _ _ _ => some .engine
  | .cput _ _ _ => some .engine
  | .cget _ _ _ => some .engine
  | .cred _ _ _ => some .engine
  | .cxf _ _ _ => some .engine
  | .cbar _ _ _ => some .engine
  | .csmp _ _ _ => some .engine
  | .cstr _ _ _ _ => some .engine
  | .nop => some .control
  | .ret => some .control
  | .suspend => some .control
  | .yield => some .control
  | .endTask => some .control
  | .eret => some .control
  | .halt => some .control
  | .nopScalar => some .scalar
  | .nopMemory => some .memory
  | .nopVector0 => some .vector0
  | .nopVector1 => some .vector1
  | .nopArray => some .array
  | .nopEngine => some .engine
  | .bundleIssue _ => none
  | .bundleFetch _ => none
  | .fairnessBound _ => none
  | .loadAnswer _ => none
  | .writeAcknowledgement _ => none
  | .storeRejection _ => none
  | .probeAnswer _ => none
  | .dependencyEntryAgeProbe _ _ => none
  | .causalWriteApply _ => none
  | .readRequestServe _ => none
  | .probeRequestServe _ => none
  | .atomicUpdateServe _ => none
  | .writeResendTimeout _ => none
  | .targetUnreachable _ => none
  | .gazetteerEntryExpiry _ _ => none
  | .homeOwnerQuery _ => none
  | .homeOwnerAnswer _ => none
  | .redirect _ => none
  | .notHere _ => none
  | .signpostRelay _ => none
  | .writeResolution _ => none
  | .lineageFrontierReport _ _ _ => none
  | .signpostRetirement _ _ => none
  | .lineageDrop _ _ => none
  | .signpostRemove _ _ => none
  | .migrationRequest _ => none
  | .migrationCopyRound _ => none
  | .migrationFreeze _ => none
  | .freezeTimeout _ => none
  | .migrationCutover _ => none
  | .migrationComplete _ => none
  | .leaseRequest _ _ _ => none
  | .leaseRelease _ _ _ => none
  | .haUopWriteLeaf _ _ => none
  | .haUopCreate _ _ => none
  | .haUopRemove _ _ => none
  | .homeRecordCreate _ => none
  | .hostGraphSubmit _ _ _ => none
  | .hostGraphDisable _ _ _ => none
  | .taskPlacement _ _ => none
  | .passedOverReservation _ _ => none
  | .taskLaunch _ _ => none
  | .residencyRefused _ _ => none
  | .recordWriteBack _ _ => none
  | .overflowQueueRefill _ => none
  | .conditionalNodeRun _ _ => none
  | .copyNodeRun _ _ => none
  | .collectiveNodeRun _ _ => none
  | .notifyNodeRun _ _ => none
  | .joinNodeEnd _ _ => none
  | .quantumExpiry _ _ => none
  | .hostPreemptionRequest _ _ _ => none
  | .preemptionTakeEffect _ => none
  | .saveComplete _ => none
  | .spawnAnswer _ => none
  | .waitComplete _ => none
  | .waitTimeout _ => none
  | .copyCommandStart _ _ => none
  | .copyUnitCredit _ _ _ => none
  | .copyFault _ _ _ => none
  | .copyCommandLeave _ _ _ => none
  | .surveyCommandRun _ => none
  | .qmergeatOwnerApply _ => none
  | .qmergeatAck _ => none
  | .tapRowInsert _ => none
  | .arrayInstructionStart _ => none
  | .arrayPassInterrupt _ => none
  | .arrayInstructionComplete _ => none
  | .arrayRelease _ => none
  | .streamRowCredit _ _ => none
  | .stateCommandApply _ => none
  | .stWatchArm _ _ _ => none
  | .stWatchDisarm _ _ _ => none
  | .indexElementIssue _ _ => none
  | .indexElementArrival _ _ _ => none
  | .elementPark _ _ _ => none
  | .bitmapTestAndSet _ _ _ => none
  | .contributionSend _ _ => none
  | .slotContributionArrival _ => none
  | .contributionRefusedResend _ => none
  | .slotTimeout _ => none
  | .lateWindowEnd _ => none
  | .resultDelivery _ => none
  | .collectiveComplete _ _ => none
  | .queueMessageArrival _ => none
  | .queueMessageResend _ => none
  | .cgGroupCreate _ _ _ => none
  | .cgGroupDelete _ _ _ => none
  | .portLinkDown _ _ => none
  | .portLinkUp _ _ => none
  | .bar2Access _ _ _ _ _ _ => none
  | .bar4Access _ _ _ _ _ _ => none
  | .registerWrite _ _ _ _ => none
  | .registerRead _ _ _ => none
  | .hostRunRequest _ _ _ => none
  | .eventSetWrite _ _ _ => none
  | .eventClrWrite _ _ _ => none
  | .pageInRefuse _ _ _ => none
  | .hrCfg1Write _ _ _ => none
  | .hrHeadWrite _ _ _ => none
  | .ringEntryWrite _ _ => none
  | .ringCoalesceTimeout _ _ => none
  | .spadHashApply _ => none
  | .eccCorrected _ _ _ => none
  | .uncorrectableError _ _ _ => none
  | .idleEntry _ => none
  | .idleWake _ => none
  | .droopStretch _ => none
  | .droopRelease _ => none
  | .coldReset _ => none
  | .stageMeasurement _ _ _ => none
  | .attestationRequest _ _ _ => none
  | .mcPowerOn _ => none
  | .mcPowerOff _ => none
  | .mcColdReset _ => none
  | .mcReadErrors _ => none
  | .mcReadSensors _ => none
  | .mcAttestation _ _ => none
  | .mcFirmwareUpdate _ _ => none
  | .mcSetPackageNumber _ _ => none
  | .referenceTick => none
  | .indexCommandApply _ _ => none
  | .testAndSetAnswer _ _ _ => none
  | .transferUnitCredit _ _ => none
  | .collectiveCommandStart _ => none
  | .leaseRenewalComplete _ _ => none
  | .gazetteerEntryReplacement _ _ => none
  | .flitReceiveError _ _ => none

/-- No field that the instruction uses holds a value with no meaning, in slot `sl` (R46, cause 0x01). -/
def Instr.legal (sl : Slot) : Instr → Bool
  | .jmp _ => true
  | .jmpc _ _ => true
  | .jmpi s => srcOk s
  | .jmpt _ i => srcOk i
  | .jmpm _ => true
  | .call _ => true
  | .calli s => srcOk s
  | .loop _ n _ _ => levelOk n
  | .loopi _ n _ _ => levelOk n
  | .lbrk n => levelOk n
  | .wait _ => true
  | .trap _ => true
  | .brk _ => true
  | .spawn b s => pairBaseOk b && srcOk s
  | .tld _ d => dstOk .s1 d
  | .tst w s => w != 0 && srcOk s
  | .sysr r d => sysRegOk r && dstOk .s1 d
  | .sysw r s => sysRegOk r && srcOk s
  | .gsub s => srcOk s
  | .add _ d a b => dstOk sl d && srcOk a && srcOk b
  | .sub _ d a b => dstOk sl d && srcOk a && srcOk b
  | .mul _ d a b => dstOk sl d && srcOk a && srcOk b
  | .mulh _ d a b => dstOk sl d && srcOk a && srcOk b
  | .mulhn _ d a b => dstOk sl d && srcOk a && srcOk b
  | .div _ d a b => dstOk sl d && srcOk a && srcOk b
  | .divn _ d a b => dstOk sl d && srcOk a && srcOk b
  | .and _ d a b => dstOk sl d && srcOk a && srcOk b
  | .or _ d a b => dstOk sl d && srcOk a && srcOk b
  | .xor _ d a b => dstOk sl d && srcOk a && srcOk b
  | .andn _ d a b => dstOk sl d && srcOk a && srcOk b
  | .shl _ d a b => dstOk sl d && srcOk a && srcOk b
  | .shr _ d a b => dstOk sl d && srcOk a && srcOk b
  | .sra _ d a b => dstOk sl d && srcOk a && srcOk b
  | .min _ d a b => dstOk sl d && srcOk a && srcOk b
  | .max _ d a b => dstOk sl d && srcOk a && srcOk b
  | .minn _ d a b => dstOk sl d && srcOk a && srcOk b
  | .maxn _ d a b => dstOk sl d && srcOk a && srcOk b
  | .cmp _ c k a b => decide (c.toNat ≤ 9) && predDstOk k && srcOk a && srcOk b
  | .sel _ d a b => dstOk sl d && srcOk a && srcOk b
  | .li _ d _ => dstOk sl d
  | .lih _ d _ => dstOk sl d
  | .clz _ d a => dstOk sl d && srcOk a
  | .ctz _ d a => dstOk sl d && srcOk a
  | .popc _ d a => dstOk sl d && srcOk a
  | .bext _ d a b => dstOk sl d && srcOk a && srcOk b
  | .bins _ d a b => dstOk sl d && srcOk a && srcOk b
  | .addsh1 _ d a b => dstOk sl d && srcOk a && srcOk b
  | .addsh2 _ d a b => dstOk sl d && srcOk a && srcOk b
  | .addsh3 _ d a b => dstOk sl d && srcOk a && srcOk b
  | .addsh5 _ d a b => dstOk sl d && srcOk a && srcOk b
  | .pand _ d _ _ => predDstOk d
  | .por _ d _ _ => predDstOk d
  | .pnot _ d _ => predDstOk d
  | .faddF32 _ d a b => dstOk sl d && srcOk a && srcOk b
  | .fsubF32 _ d a b => dstOk sl d && srcOk a && srcOk b
  | .fmulF32 _ d a b => dstOk sl d && srcOk a && srcOk b
  | .ffmaF32 _ d a b => dstOk sl d && srcOk a && srcOk b
  | .fcmpF32 _ c k a b => decide (c.toNat ≤ 7) && predDstOk k && srcOk a && srcOk b
  | .fcvt _ d a r c => dstOk sl d && srcOk a && (decide (r.toNat ≤ 3) || fcvtExact c)
  | .faddF64 _ d a b => dstOk sl d && srcOk a && srcOk b
  | .fsubF64 _ d a b => dstOk sl d && srcOk a && srcOk b
  | .fmulF64 _ d a b => dstOk sl d && srcOk a && srcOk b
  | .ffmaF64 _ d a b => dstOk sl d && srcOk a && srcOk b
  | .fcmpF64 _ c k a b => decide (c.toNat ≤ 7) && predDstOk k && srcOk a && srcOk b
  | .ldB _ d b _ => dstOk .s3 d && srcOk b
  | .ldH _ d b _ => dstOk .s3 d && srcOk b
  | .ldW _ d b _ => dstOk .s3 d && srcOk b
  | .ldD _ d b _ => dstOk .s3 d && srcOk b
  | .ldQ _ d b _ => groupOk 2 d && srcOk b
  | .ldO _ d b _ => groupOk 4 d && srcOk b
  | .ldnB _ d b _ => dstOk .s3 d && srcOk b
  | .ldnH _ d b _ => dstOk .s3 d && srcOk b
  | .ldnW _ d b _ => dstOk .s3 d && srcOk b
  | .ldWAcq _ d b _ => dstOk .s3 d && srcOk b
  | .ldDAcq _ d b _ => dstOk .s3 d && srcOk b
  | .stB _ d b _ => srcOk d && srcOk b
  | .stH _ d b _ => srcOk d && srcOk b
  | .stW _ d b _ => srcOk d && srcOk b
  | .stD _ d b _ => srcOk d && srcOk b
  | .stQ _ d b _ => groupOk 2 d && srcOk b
  | .stO _ d b _ => groupOk 4 d && srcOk b
  | .stWRel _ d b _ => srcOk d && srcOk b
  | .stDRel _ d b _ => srcOk d && srcOk b
  | .ldroW _ d b _ => dstOk .s3 d && srcOk b
  | .ldroD _ d b _ => dstOk .s3 d && srcOk b
  | .ldroQ _ d b _ => groupOk 2 d && srcOk b
  | .ldroO _ d b _ => groupOk 4 d && srcOk b
  | .stncD _ d b _ => srcOk d && srcOk b
  | .stncQ _ d b _ => groupOk 2 d && srcOk b
  | .stncO _ d b _ => groupOk 4 d && srcOk b
  | .lds _ d b z _ => sizedOk (dstOk .s3 d) z d && srcOk b
  | .sts _ d b z _ => sizedOk (srcOk d) z d && srcOk b
  | .vld _ _ b r _ _ => roundOk r && srcOk b
  | .vst _ _ b r _ _ => roundOk r && srcOk b
  | .vlds _ _ b _ => srcOk b
  | .vsts _ _ b _ => srcOk b
  | .amoW _ d b c _ _ => dstOk .s3 d && srcOk b && decide (c.toNat ≤ 8)
  | .amoD _ d b c _ _ => dstOk .s3 d && srcOk b && decide (c.toNat ≤ 8)
  | .casW _ d b _ _ => groupOk 2 d && srcOk b
  | .casD _ d b _ _ => groupOk 2 d && srcOk b
  | .xadd _ d b _ => srcOk d && srcOk b
  | .xget _ d b r => (if r = 1 then groupOk 8 d else dstOk .s3 d) && srcOk b
  | .fence _ k s => decide (k.toNat ≤ 2) && decide (s.toNat ≤ 4)
  | .prf _ b _ => srcOk b
  | .probe _ d => dstOk .s3 d
  | .vadd _ _ _ _ _ => true
  | .vsub _ _ _ _ _ => true
  | .vmul _ _ _ _ _ => true
  | .vfma _ _ _ _ _ => true
  | .vfms _ _ _ _ _ => true
  | .vmin _ _ _ _ _ => true
  | .vmax _ _ _ _ _ => true
  | .vabs _ _ _ _ => true
  | .vneg _ _ _ _ => true
  | .vclamp _ _ _ _ _ => true
  | .vand _ _ _ _ _ => true
  | .vor _ _ _ _ _ => true
  | .vxor _ _ _ _ _ => true
  | .vshl _ _ _ _ _ => true
  | .vshr _ _ _ _ _ => true
  | .vsra _ _ _ _ _ => true
  | .vcmp _ _ c q _ _ => decide (c.toNat ≤ 7) && predDstOk q
  | .vsel _ _ _ _ _ => true
  | .vmov _ _ _ _ => true
  | .vbcs _ _ _ b => srcOk b
  | .vlane _ _ _ => true
  | .vaddS _ _ _ _ b => srcOk b
  | .vsubS _ _ _ _ b => srcOk b
  | .vmulS _ _ _ _ b => srcOk b
  | .vfmaS _ _ _ _ b => srcOk b
  | .vfmsS _ _ _ _ b => srcOk b
  | .vminS _ _ _ _ b => srcOk b
  | .vmaxS _ _ _ _ b => srcOk b
  | .vclampS _ _ _ _ b => srcOk b
  | .vandS _ _ _ _ b => srcOk b
  | .vorS _ _ _ _ b => srcOk b
  | .vxorS _ _ _ _ b => srcOk b
  | .vshlS _ _ _ _ b => srcOk b
  | .vshrS _ _ _ _ b => srcOk b
  | .vsraS _ _ _ _ b => srcOk b
  | .vcmpS _ _ c q _ b => decide (c.toNat ≤ 7) && predDstOk q && srcOk b
  | .vselS _ _ _ _ b => srcOk b
  | .vexp _ _ _ _ => true
  | .vlog _ _ _ _ => true
  | .vtanh _ _ _ _ => true
  | .vsig _ _ _ _ => true
  | .vgelu _ _ _ _ => true
  | .vsilu _ _ _ _ => true
  | .vrsqrt _ _ _ _ => true
  | .vsqrt _ _ _ _ => true
  | .vrcp _ _ _ _ => true
  | .vrcpe _ _ _ _ => true
  | .vrcpn _ _ _ _ _ => true
  | .vrsqe _ _ _ _ => true
  | .vrsqn _ _ _ _ _ => true
  | .vcvt _ _ _ _ _ u => laneTypeOk u
  | .vperm _ _ _ _ _ => true
  | .vslide _ _ _ _ _ => true
  | .vsort _ _ _ _ => true
  | .vred _ _ d _ => groupOk 4 d
  | .mpush _ _ => true
  | .minv _ => true
  | .mpop _ => true
  | .mset _ t q _ => (t == 1 || predDstOk q)
  | .mget _ _ _ _ => true
  | .vslideS _ _ _ _ b => srcOk b
  | .mcfg _ a b => srcOk a && srcOk b
  | .cpl _ a _ => srcOk a
  | .mld _ a _ => srcOk a
  | .mmk _ a b _ => srcOk a && srcOk b
  | .mmc _ a b _ => srcOk a && srcOk b
  | .msp _ a b _ _ => srcOk a && srcOk b
  | .mdp _ a => srcOk a
  | .mdr _ a b _ => srcOk a && srcOk b
  | .mstr _ a b _ => srcOk a && srcOk b
  | .mzero _ => true
  | .mtab _ a b => srcOk a && srcOk b
  | .mhist _ a b _ _ _ => srcOk a && srcOk b
  | .mbind _ a _ _ => srcOk a
  | .mst _ a => decide (a.toNat < 64)
  | .mfence _ => true
  | .cpy _ a b _ => srcOk a && srcOk b
  | .cpyt _ a b _ => srcOk a && srcOk b
  | .cpyx _ a b _ => srcOk a && srcOk b
  | .cpyc _ a b _ => srcOk a && srcOk b
  | .barm _ a b h => srcOk a && srcOk b && decide (h ≠ 255)
  | .barr _ a h => srcOk a && decide (h ≠ 255)
  | .bq _ a => srcOk a
  | .qinit _ a b _ => srcOk a && srcOk b
  | .qadd _ a b _ => srcOk a && srcOk b
  | .qmerge _ a b _ => srcOk a && srcOk b
  | .qmergeat _ a b _ => srcOk a && srcOk b
  | .qquery _ a b _ => srcOk a && srcOk b
  | .mmerge _ a b _ => srcOk a && srcOk b
  | .hinit _ a _ => srcOk a
  | .hadd _ a b _ => srcOk a && srcOk b
  | .hmerge _ a b _ => srcOk a && srcOk b
  | .htop _ a b _ => srcOk a && srcOk b
  | .dinit _ a b _ => srcOk a && srcOk b
  | .dadd _ a b _ => srcOk a && srcOk b
  | .dmerge _ a b _ => srcOk a && srcOk b
  | .dest _ a _ => srcOk a
  | .stopen _ a b _ => srcOk a && srcOk b
  | .stld _ a b _ => srcOk a && srcOk b
  | .stst _ a b _ => srcOk a && srcOk b
  | .stmark _ a _ => srcOk a
  | .stback _ a b _ => srcOk a && srcOk b
  | .stfork _ a b _ => srcOk a && srcOk b
  | .stpin _ a b _ => srcOk a && srcOk b
  | .stclose _ a _ => srcOk a
  | .stq _ a b => srcOk a && srcOk b
  | .mig _ a b _ => srcOk a && srcOk b
  | .pkset _ a b => srcOk a && srcOk b
  | .own _ a => srcOk a
  | .ocinv _ a b _ => srcOk a && srcOk b
  | .lrenew _ _ => true
  | .hnote _ a b _ => srcOk a && srcOk b
  | .hintr _ a _ => srcOk a
  | .gath _ a _ => srcOk a
  | .scat _ a _ => srcOk a
  | .scata _ a _ => srcOk a
  | .fqread _ a b _ => srcOk a && srcOk b
  | .frep _ a => srcOk a
  | .fdrop _ a b => srcOk a && srcOk b
  | .wlnew _ a b _ => srcOk a && srcOk b
  | .wlpush _ a _ => srcOk a
  | .wlpop _ a _ => srcOk a
  | .wlins _ a b _ => srcOk a && srcOk b
  | .wlstat _ a => srcOk a
  | .cqsend _ a b _ => srcOk a && srcOk b
  | .cst _ a b => srcOk a && srcOk b
  | .copen _ a b _ => srcOk a && srcOk b
  | .cput _ a _ => srcOk a
  | .cget _ a _ => srcOk a
  | .cred _ a _ => srcOk a
  | .cxf _ a _ => srcOk a
  | .cbar _ a _ => srcOk a
  | .csmp _ a _ => srcOk a
  | .cstr _ a b _ => srcOk a && srcOk b
  | .nop => true
  | .ret => true
  | .suspend => true
  | .yield => true
  | .endTask => true
  | .eret => true
  | .halt => true
  | .nopScalar => true
  | .nopMemory => true
  | .nopVector0 => true
  | .nopVector1 => true
  | .nopArray => true
  | .nopEngine => true
  | .bundleIssue _ => true
  | .bundleFetch _ => true
  | .fairnessBound _ => true
  | .loadAnswer _ => true
  | .writeAcknowledgement _ => true
  | .storeRejection _ => true
  | .probeAnswer _ => true
  | .dependencyEntryAgeProbe _ _ => true
  | .causalWriteApply _ => true
  | .readRequestServe _ => true
  | .probeRequestServe _ => true
  | .atomicUpdateServe _ => true
  | .writeResendTimeout _ => true
  | .targetUnreachable _ => true
  | .gazetteerEntryExpiry _ _ => true
  | .homeOwnerQuery _ => true
  | .homeOwnerAnswer _ => true
  | .redirect _ => true
  | .notHere _ => true
  | .signpostRelay _ => true
  | .writeResolution _ => true
  | .lineageFrontierReport _ _ _ => true
  | .signpostRetirement _ _ => true
  | .lineageDrop _ _ => true
  | .signpostRemove _ _ => true
  | .migrationRequest _ => true
  | .migrationCopyRound _ => true
  | .migrationFreeze _ => true
  | .freezeTimeout _ => true
  | .migrationCutover _ => true
  | .migrationComplete _ => true
  | .leaseRequest _ _ _ => true
  | .leaseRelease _ _ _ => true
  | .haUopWriteLeaf _ _ => true
  | .haUopCreate _ _ => true
  | .haUopRemove _ _ => true
  | .homeRecordCreate _ => true
  | .hostGraphSubmit _ _ _ => true
  | .hostGraphDisable _ _ _ => true
  | .taskPlacement _ _ => true
  | .passedOverReservation _ _ => true
  | .taskLaunch _ _ => true
  | .residencyRefused _ _ => true
  | .recordWriteBack _ _ => true
  | .overflowQueueRefill _ => true
  | .conditionalNodeRun _ _ => true
  | .copyNodeRun _ _ => true
  | .collectiveNodeRun _ _ => true
  | .notifyNodeRun _ _ => true
  | .joinNodeEnd _ _ => true
  | .quantumExpiry _ _ => true
  | .hostPreemptionRequest _ _ _ => true
  | .preemptionTakeEffect _ => true
  | .saveComplete _ => true
  | .spawnAnswer _ => true
  | .waitComplete _ => true
  | .waitTimeout _ => true
  | .copyCommandStart _ _ => true
  | .copyUnitCredit _ _ _ => true
  | .copyFault _ _ _ => true
  | .copyCommandLeave _ _ _ => true
  | .surveyCommandRun _ => true
  | .qmergeatOwnerApply _ => true
  | .qmergeatAck _ => true
  | .tapRowInsert _ => true
  | .arrayInstructionStart _ => true
  | .arrayPassInterrupt _ => true
  | .arrayInstructionComplete _ => true
  | .arrayRelease _ => true
  | .streamRowCredit _ _ => true
  | .stateCommandApply _ => true
  | .stWatchArm _ _ _ => true
  | .stWatchDisarm _ _ _ => true
  | .indexElementIssue _ _ => true
  | .indexElementArrival _ _ _ => true
  | .elementPark _ _ _ => true
  | .bitmapTestAndSet _ _ _ => true
  | .contributionSend _ _ => true
  | .slotContributionArrival _ => true
  | .contributionRefusedResend _ => true
  | .slotTimeout _ => true
  | .lateWindowEnd _ => true
  | .resultDelivery _ => true
  | .collectiveComplete _ _ => true
  | .queueMessageArrival _ => true
  | .queueMessageResend _ => true
  | .cgGroupCreate _ _ _ => true
  | .cgGroupDelete _ _ _ => true
  | .portLinkDown _ _ => true
  | .portLinkUp _ _ => true
  | .bar2Access _ _ _ _ _ _ => true
  | .bar4Access _ _ _ _ _ _ => true
  | .registerWrite _ _ _ _ => true
  | .registerRead _ _ _ => true
  | .hostRunRequest _ _ _ => true
  | .eventSetWrite _ _ _ => true
  | .eventClrWrite _ _ _ => true
  | .pageInRefuse _ _ _ => true
  | .hrCfg1Write _ _ _ => true
  | .hrHeadWrite _ _ _ => true
  | .ringEntryWrite _ _ => true
  | .ringCoalesceTimeout _ _ => true
  | .spadHashApply _ => true
  | .eccCorrected _ _ _ => true
  | .uncorrectableError _ _ _ => true
  | .idleEntry _ => true
  | .idleWake _ => true
  | .droopStretch _ => true
  | .droopRelease _ => true
  | .coldReset _ => true
  | .stageMeasurement _ _ _ => true
  | .attestationRequest _ _ _ => true
  | .mcPowerOn _ => true
  | .mcPowerOff _ => true
  | .mcColdReset _ => true
  | .mcReadErrors _ => true
  | .mcReadSensors _ => true
  | .mcAttestation _ _ => true
  | .mcFirmwareUpdate _ _ => true
  | .mcSetPackageNumber _ _ => true
  | .referenceTick => true
  | .indexCommandApply _ _ => true
  | .testAndSetAnswer _ _ _ => true
  | .transferUnitCredit _ _ => true
  | .collectiveCommandStart _ => true
  | .leaseRenewalComplete _ _ => true
  | .gazetteerEntryReplacement _ _ => true
  | .flitReceiveError _ _ => true

/-- No field whose use depends on another field is set while it is reserved (R46, cause 0x02). -/
def Instr.reservedClear : Instr → Bool
  | .jmp _ => true
  | .jmpc _ _ => true
  | .jmpi _ => true
  | .jmpt _ _ => true
  | .jmpm _ => true
  | .call _ => true
  | .calli _ => true
  | .loop _ _ _ _ => true
  | .loopi _ _ _ _ => true
  | .lbrk _ => true
  | .wait _ => true
  | .trap _ => true
  | .brk _ => true
  | .spawn _ _ => true
  | .tld _ _ => true
  | .tst _ _ => true
  | .sysr _ _ => true
  | .sysw _ _ => true
  | .gsub _ => true
  | .add _ _ _ _ => true
  | .sub _ _ _ _ => true
  | .mul _ _ _ _ => true
  | .mulh _ _ _ _ => true
  | .mulhn _ _ _ _ => true
  | .div _ _ _ _ => true
  | .divn _ _ _ _ => true
  | .and _ _ _ _ => true
  | .or _ _ _ _ => true
  | .xor _ _ _ _ => true
  | .andn _ _ _ _ => true
  | .shl _ _ _ _ => true
  | .shr _ _ _ _ => true
  | .sra _ _ _ _ => true
  | .min _ _ _ _ => true
  | .max _ _ _ _ => true
  | .minn _ _ _ _ => true
  | .maxn _ _ _ _ => true
  | .cmp _ _ _ _ _ => true
  | .sel _ _ _ _ => true
  | .li _ _ _ => true
  | .lih _ _ _ => true
  | .clz _ _ _ => true
  | .ctz _ _ _ => true
  | .popc _ _ _ => true
  | .bext _ _ _ _ => true
  | .bins _ _ _ _ => true
  | .addsh1 _ _ _ _ => true
  | .addsh2 _ _ _ _ => true
  | .addsh3 _ _ _ _ => true
  | .addsh5 _ _ _ _ => true
  | .pand _ _ _ _ => true
  | .por _ _ _ _ => true
  | .pnot _ _ _ => true
  | .faddF32 _ _ _ _ => true
  | .fsubF32 _ _ _ _ => true
  | .fmulF32 _ _ _ _ => true
  | .ffmaF32 _ _ _ _ => true
  | .fcmpF32 _ _ _ _ _ => true
  | .fcvt _ _ _ _ _ => true
  | .faddF64 _ _ _ _ => true
  | .fsubF64 _ _ _ _ => true
  | .fmulF64 _ _ _ _ => true
  | .ffmaF64 _ _ _ _ => true
  | .fcmpF64 _ _ _ _ _ => true
  | .ldB _ _ _ _ => true
  | .ldH _ _ _ _ => true
  | .ldW _ _ _ _ => true
  | .ldD _ _ _ _ => true
  | .ldQ _ _ _ _ => true
  | .ldO _ _ _ _ => true
  | .ldnB _ _ _ _ => true
  | .ldnH _ _ _ _ => true
  | .ldnW _ _ _ _ => true
  | .ldWAcq _ _ _ _ => true
  | .ldDAcq _ _ _ _ => true
  | .stB _ _ _ _ => true
  | .stH _ _ _ _ => true
  | .stW _ _ _ _ => true
  | .stD _ _ _ _ => true
  | .stQ _ _ _ _ => true
  | .stO _ _ _ _ => true
  | .stWRel _ _ _ _ => true
  | .stDRel _ _ _ _ => true
  | .ldroW _ _ _ _ => true
  | .ldroD _ _ _ _ => true
  | .ldroQ _ _ _ _ => true
  | .ldroO _ _ _ _ => true
  | .stncD _ _ _ _ => true
  | .stncQ _ _ _ _ => true
  | .stncO _ _ _ _ => true
  | .lds _ _ _ _ _ => true
  | .sts _ _ _ _ _ => true
  | .vld _ _ _ _ _ _ => true
  | .vst _ _ _ _ _ _ => true
  | .vlds _ _ _ _ => true
  | .vsts _ _ _ _ => true
  | .amoW _ _ _ _ _ _ => true
  | .amoD _ _ _ _ _ _ => true
  | .casW _ _ _ _ _ => true
  | .casD _ _ _ _ _ => true
  | .xadd _ _ _ _ => true
  | .xget _ _ _ _ => true
  | .fence _ _ _ => true
  | .prf _ _ _ => true
  | .probe _ _ => true
  | .vadd _ _ _ _ _ => true
  | .vsub _ _ _ _ _ => true
  | .vmul _ _ _ _ _ => true
  | .vfma _ _ _ _ _ => true
  | .vfms _ _ _ _ _ => true
  | .vmin _ _ _ _ _ => true
  | .vmax _ _ _ _ _ => true
  | .vabs _ _ _ _ => true
  | .vneg _ _ _ _ => true
  | .vclamp _ _ _ _ _ => true
  | .vand _ _ _ _ _ => true
  | .vor _ _ _ _ _ => true
  | .vxor _ _ _ _ _ => true
  | .vshl _ _ _ _ _ => true
  | .vshr _ _ _ _ _ => true
  | .vsra _ _ _ _ _ => true
  | .vcmp _ _ _ _ _ _ => true
  | .vsel _ _ _ _ _ => true
  | .vmov _ _ _ _ => true
  | .vbcs _ _ _ _ => true
  | .vlane _ _ _ => true
  | .vaddS _ _ _ _ _ => true
  | .vsubS _ _ _ _ _ => true
  | .vmulS _ _ _ _ _ => true
  | .vfmaS _ _ _ _ _ => true
  | .vfmsS _ _ _ _ _ => true
  | .vminS _ _ _ _ _ => true
  | .vmaxS _ _ _ _ _ => true
  | .vclampS _ _ _ _ _ => true
  | .vandS _ _ _ _ _ => true
  | .vorS _ _ _ _ _ => true
  | .vxorS _ _ _ _ _ => true
  | .vshlS _ _ _ _ _ => true
  | .vshrS _ _ _ _ _ => true
  | .vsraS _ _ _ _ _ => true
  | .vcmpS _ _ _ _ _ _ => true
  | .vselS _ _ _ _ _ => true
  | .vexp _ _ _ _ => true
  | .vlog _ _ _ _ => true
  | .vtanh _ _ _ _ => true
  | .vsig _ _ _ _ => true
  | .vgelu _ _ _ _ => true
  | .vsilu _ _ _ _ => true
  | .vrsqrt _ _ _ _ => true
  | .vsqrt _ _ _ _ => true
  | .vrcp _ _ _ _ => true
  | .vrcpe _ _ _ _ => true
  | .vrcpn _ _ _ _ _ => true
  | .vrsqe _ _ _ _ => true
  | .vrsqn _ _ _ _ _ => true
  | .vcvt _ _ _ _ _ _ => true
  | .vperm _ _ _ _ _ => true
  | .vslide _ _ _ _ _ => true
  | .vsort _ _ _ _ => true
  | .vred _ _ _ _ => true
  | .mpush _ _ => true
  | .minv _ => true
  | .mpop _ => true
  | .mset _ t q _ => (t == 0 || q == 0)
  | .mget _ _ t q => (t == 0 || q == 0)
  | .vslideS _ _ _ _ _ => true
  | .mcfg _ _ _ => true
  | .cpl _ _ _ => true
  | .mld _ _ _ => true
  | .mmk _ _ _ _ => true
  | .mmc _ _ _ _ => true
  | .msp _ _ _ _ _ => true
  | .mdp _ _ => true
  | .mdr _ _ _ _ => true
  | .mstr _ _ _ _ => true
  | .mzero _ => true
  | .mtab _ _ _ => true
  | .mhist _ _ _ _ _ _ => true
  | .mbind _ _ _ _ => true
  | .mst _ _ => true
  | .mfence _ => true
  | .cpy _ _ _ _ => true
  | .cpyt _ _ _ _ => true
  | .cpyx _ _ _ _ => true
  | .cpyc _ _ _ _ => true
  | .barm _ _ _ _ => true
  | .barr _ _ _ => true
  | .bq _ _ => true
  | .qinit _ _ _ _ => true
  | .qadd _ _ _ _ => true
  | .qmerge _ _ _ _ => true
  | .qmergeat _ _ _ _ => true
  | .qquery _ _ _ _ => true
  | .mmerge _ _ _ _ => true
  | .hinit _ _ _ => true
  | .hadd _ _ _ _ => true
  | .hmerge _ _ _ _ => true
  | .htop _ _ _ _ => true
  | .dinit _ _ _ _ => true
  | .dadd _ _ _ _ => true
  | .dmerge _ _ _ _ => true
  | .dest _ _ _ => true
  | .stopen _ _ _ _ => true
  | .stld _ _ _ _ => true
  | .stst _ _ _ _ => true
  | .stmark _ _ _ => true
  | .stback _ _ _ _ => true
  | .stfork _ _ _ _ => true
  | .stpin _ _ _ _ => true
  | .stclose _ _ _ => true
  | .stq _ _ _ => true
  | .mig _ _ _ _ => true
  | .pkset _ _ _ => true
  | .own _ _ => true
  | .ocinv _ _ _ _ => true
  | .lrenew _ _ => true
  | .hnote _ _ _ _ => true
  | .hintr _ _ _ => true
  | .gath _ _ _ => true
  | .scat _ _ _ => true
  | .scata _ _ _ => true
  | .fqread _ _ _ _ => true
  | .frep _ _ => true
  | .fdrop _ _ _ => true
  | .wlnew _ _ _ _ => true
  | .wlpush _ _ _ => true
  | .wlpop _ _ _ => true
  | .wlins _ _ _ _ => true
  | .wlstat _ _ => true
  | .cqsend _ _ _ _ => true
  | .cst _ _ _ => true
  | .copen _ _ _ _ => true
  | .cput _ _ _ => true
  | .cget _ _ _ => true
  | .cred _ _ _ => true
  | .cxf _ _ _ => true
  | .cbar _ _ _ => true
  | .csmp _ _ _ => true
  | .cstr _ _ _ _ => true
  | .nop => true
  | .ret => true
  | .suspend => true
  | .yield => true
  | .endTask => true
  | .eret => true
  | .halt => true
  | .nopScalar => true
  | .nopMemory => true
  | .nopVector0 => true
  | .nopVector1 => true
  | .nopArray => true
  | .nopEngine => true
  | .bundleIssue _ => true
  | .bundleFetch _ => true
  | .fairnessBound _ => true
  | .loadAnswer _ => true
  | .writeAcknowledgement _ => true
  | .storeRejection _ => true
  | .probeAnswer _ => true
  | .dependencyEntryAgeProbe _ _ => true
  | .causalWriteApply _ => true
  | .readRequestServe _ => true
  | .probeRequestServe _ => true
  | .atomicUpdateServe _ => true
  | .writeResendTimeout _ => true
  | .targetUnreachable _ => true
  | .gazetteerEntryExpiry _ _ => true
  | .homeOwnerQuery _ => true
  | .homeOwnerAnswer _ => true
  | .redirect _ => true
  | .notHere _ => true
  | .signpostRelay _ => true
  | .writeResolution _ => true
  | .lineageFrontierReport _ _ _ => true
  | .signpostRetirement _ _ => true
  | .lineageDrop _ _ => true
  | .signpostRemove _ _ => true
  | .migrationRequest _ => true
  | .migrationCopyRound _ => true
  | .migrationFreeze _ => true
  | .freezeTimeout _ => true
  | .migrationCutover _ => true
  | .migrationComplete _ => true
  | .leaseRequest _ _ _ => true
  | .leaseRelease _ _ _ => true
  | .haUopWriteLeaf _ _ => true
  | .haUopCreate _ _ => true
  | .haUopRemove _ _ => true
  | .homeRecordCreate _ => true
  | .hostGraphSubmit _ _ _ => true
  | .hostGraphDisable _ _ _ => true
  | .taskPlacement _ _ => true
  | .passedOverReservation _ _ => true
  | .taskLaunch _ _ => true
  | .residencyRefused _ _ => true
  | .recordWriteBack _ _ => true
  | .overflowQueueRefill _ => true
  | .conditionalNodeRun _ _ => true
  | .copyNodeRun _ _ => true
  | .collectiveNodeRun _ _ => true
  | .notifyNodeRun _ _ => true
  | .joinNodeEnd _ _ => true
  | .quantumExpiry _ _ => true
  | .hostPreemptionRequest _ _ _ => true
  | .preemptionTakeEffect _ => true
  | .saveComplete _ => true
  | .spawnAnswer _ => true
  | .waitComplete _ => true
  | .waitTimeout _ => true
  | .copyCommandStart _ _ => true
  | .copyUnitCredit _ _ _ => true
  | .copyFault _ _ _ => true
  | .copyCommandLeave _ _ _ => true
  | .surveyCommandRun _ => true
  | .qmergeatOwnerApply _ => true
  | .qmergeatAck _ => true
  | .tapRowInsert _ => true
  | .arrayInstructionStart _ => true
  | .arrayPassInterrupt _ => true
  | .arrayInstructionComplete _ => true
  | .arrayRelease _ => true
  | .streamRowCredit _ _ => true
  | .stateCommandApply _ => true
  | .stWatchArm _ _ _ => true
  | .stWatchDisarm _ _ _ => true
  | .indexElementIssue _ _ => true
  | .indexElementArrival _ _ _ => true
  | .elementPark _ _ _ => true
  | .bitmapTestAndSet _ _ _ => true
  | .contributionSend _ _ => true
  | .slotContributionArrival _ => true
  | .contributionRefusedResend _ => true
  | .slotTimeout _ => true
  | .lateWindowEnd _ => true
  | .resultDelivery _ => true
  | .collectiveComplete _ _ => true
  | .queueMessageArrival _ => true
  | .queueMessageResend _ => true
  | .cgGroupCreate _ _ _ => true
  | .cgGroupDelete _ _ _ => true
  | .portLinkDown _ _ => true
  | .portLinkUp _ _ => true
  | .bar2Access _ _ _ _ _ _ => true
  | .bar4Access _ _ _ _ _ _ => true
  | .registerWrite _ _ _ _ => true
  | .registerRead _ _ _ => true
  | .hostRunRequest _ _ _ => true
  | .eventSetWrite _ _ _ => true
  | .eventClrWrite _ _ _ => true
  | .pageInRefuse _ _ _ => true
  | .hrCfg1Write _ _ _ => true
  | .hrHeadWrite _ _ _ => true
  | .ringEntryWrite _ _ => true
  | .ringCoalesceTimeout _ _ => true
  | .spadHashApply _ => true
  | .eccCorrected _ _ _ => true
  | .uncorrectableError _ _ _ => true
  | .idleEntry _ => true
  | .idleWake _ => true
  | .droopStretch _ => true
  | .droopRelease _ => true
  | .coldReset _ => true
  | .stageMeasurement _ _ _ => true
  | .attestationRequest _ _ _ => true
  | .mcPowerOn _ => true
  | .mcPowerOff _ => true
  | .mcColdReset _ => true
  | .mcReadErrors _ => true
  | .mcReadSensors _ => true
  | .mcAttestation _ _ => true
  | .mcFirmwareUpdate _ _ => true
  | .mcSetPackageNumber _ _ => true
  | .referenceTick => true
  | .indexCommandApply _ _ => true
  | .testAndSetAnswer _ _ _ => true
  | .transferUnitCredit _ _ => true
  | .collectiveCommandStart _ => true
  | .leaseRenewalComplete _ _ => true
  | .gazetteerEntryReplacement _ _ => true
  | .flitReceiveError _ _ => true

/-- Bits [17:13] of the S0 word are operands of the instruction (R60, R61). -/
def Instr.usesMode : Instr → Bool
  | .loop _ _ _ _ => true
  | .loopi _ _ _ _ => true
  | _ => false

/-- A header that the S0 word of `i` can carry. -/
def Header.wf (h : Header) (i : Instr) : Bool :=
  if i.usesMode then h.mode == 0 && h.level == 0 else h.legal && h.reservedClear

/-- An instruction that slot `sl` can hold. -/
def Instr.wf (sl : Slot) (i : Instr) : Bool :=
  i.space? == some sl.space && i.legal sl && i.reservedClear

end Sys2Proof
end

