-- ==== Sys2Proof/Machine/Seq.lean ====
section
/-! DEFINITION. The sequencer: issue modes (R55, R56), stage liveness (R152), the end-of-body action (R150), jumps, loops, calls with
the shadow stack, system registers and the return from a handler. wait is in Machine/Wait.lean, the Compass instructions of S0 in
Machine/Compass.lean. -/

namespace Sys2Proof.Machine

-- The loop nest ---------------------------------------------------------------------------------------------------------------

/-- Level n (R153). -/
def Ctx.level (c : Ctx) (n : Nat) : Level := getD n ⟨false, 0, 0, 0, 0, 0⟩ c.levels
def Ctx.setLevel (c : Ctx) (n : Nat) (l : Level) : Ctx := { c with levels := put n l c.levels }

/-- The VA of the last bundle of a level's body. -/
def Level.last (l : Level) : Nat := l.start.toNat + 32 * l.len

/-- The number of iterations T (R149). -/
def Level.trips (l : Level) : Nat := l.count + l.stg

/-- A bundle at VA x is inside a running loop of the level (R56). -/
def Level.holds (l : Level) (x : Nat) : Bool := l.act && decide (l.start.toNat ≤ x) && decide (x ≤ l.last)

/-- The innermost active level (R149). -/
def Ctx.innermost (c : Ctx) : Option Nat := [5, 4, 3, 2, 1, 0].find? (fun n => (c.level n).act)

/-- loop.count.n (R153). -/
def Level.word (l : Level) : W64 := w64 (b2n l.act * 2 ^ 63 + l.stg * 2 ^ 61 + l.len * 2 ^ 53 + l.iter * 2 ^ 24 + l.count)

/-- Every level numbered n or higher deactivated (R149, R151). -/
def Ctx.dropLevels (c : Ctx) (n : Nat) : Ctx :=
  { c with levels := c.levels.map (fun l => if n ≤ l.1 then (l.1, { l.2 with act := false }) else l) }

/-- The level by which an issue mode goes: in a handler, as it stood at the entry (R162; log 108). -/
def Ctx.modeLevel (c : Ctx) (n : Nat) : Level := if bit c.trap.cause 8 then getD n ⟨false, 0, 0, 0, 0, 0⟩ c.entryLevels else c.level n

/-- The issue mode lets the bundle issue (R55, R56). -/
def Ctx.issues (c : Ctx) (mode level : Nat) : Bool :=
  let l := c.modeLevel level
  let inside := l.holds c.pc.toNat
  let first := !inside || l.iter == 0
  let last := !inside || l.iter + 1 == l.trips
  match mode with
  | 0 => true
  | 1 => first
  | 2 => last
  | _ => !last

/-- The bundle is in a pipelined loop: its level (R58). -/
def Ctx.pipelined (c : Ctx) : Option Level :=
  match c.innermost with
  | none => none
  | some n => let l := c.level n; if l.holds c.pc.toNat && l.stg != 0 then some l else none

/-- A stage gate that breaks the limits of R58. -/
def Ctx.gateBad (c : Ctx) (g : Nat) : Bool :=
  match c.pipelined with
  | none => g != 0
  | some l => decide (l.stg < g)

/-- Stage g is live (R152). -/
def Ctx.gateLive (c : Ctx) (g : Nat) : Bool :=
  match c.pipelined with
  | none => true
  | some l => decide (g ≤ l.iter) && decide (l.iter + 1 ≤ g + l.count)

/-- One step of the rotation (R235). -/
def rotate (v : W64) : W64 := if bit v 0 then w64 (setBitsN v.toNat 12 8 (bits v 12 8 + 1)) else v

/-- A stride added to register r: at once, or when its pending write is made. -/
def Ctx.addStride (c : Ctx) (r : Nat) (v : W64) : Ctx :=
  if c.pending r then { c with addends := put r (getD r 0 c.addends + v) c.addends } else { c with regs := put r (c.reg r + v) c.regs }

/-- The strides of level n added to s60 to s63 (R150). -/
def Ctx.addStrides (c : Ctx) (n : Nat) : Ctx := (upFrom 0 4).foldl (fun c k => c.addStride (60 + k) (getD (4 * n + k) 0 c.strides)) c

/-- The end-of-body action over the levels listed, inner first (R150). -/
def Ctx.bodyEnd (c : Ctx) (x : Nat) : List Nat → Ctx
  | [] => { c with pc := w64 (x + 32) }
  | n :: ns =>
    let l := c.level n
    if l.act && l.last == x then
      if l.iter + 1 < l.trips then
        let inner := c.innermost == some n
        let c := (c.setLevel n { l with iter := l.iter + 1 }).addStrides n
        { c with vrot := if inner then rotate c.vrot else c.vrot, pc := l.start }
      else (c.setLevel n { l with act := false }).bodyEnd x ns
    else c.bodyEnd x ns

/-- The action after an eligible bundle at VA x (R150). -/
def Ctx.endOfBody (c : Ctx) (x : Nat) : Ctx := c.bodyEnd x [5, 4, 3, 2, 1, 0]

-- Jumps -----------------------------------------------------------------------------------------------------------------------

/-- A jump to a target: one outside the VA space raises 0x05 with the whole next PC (R148, R165). -/
def State.jumpTo (s : State) (t : W64) : State :=
  if bits t 63 57 != 0 then s.raise 5 t
  else
    (s.modMe (fun c => { c with pc := t })).modBun (fun f => { f with jumped := true })

/-- An indirect target is aligned to a bundle, or 0x04 is raised (R41, R165). -/
def State.jumpIndirect (s : State) (t : W64) (k : State) : State := if t.toNat % 32 != 0 then s.raise 4 (w64 (bits t 56 0)) else k

/-- The target of an offset jump (R41). -/
def State.target (s : State) (off : Int) : W64 := w64 (wrapN 64 ((s.pre.pc.toNat : Int) + 32 * off))

/-- The PC + 32 of a jump that is not taken (R154); within a bundle the end-of-body action decides the next PC. -/
def State.fallThrough (s : State) : State := if s.bun.on then s else s.modMe (fun c => { c with pc := w64 (c.pc.toNat + 32) })

def execNop (s : State) : Host.Outcome State Fault Refusal := .next s

def execJmp (j : BitVec 13) (s : State) : Host.Outcome State Fault Refusal := .next (s.jumpTo (s.target j.toInt))

def execJmpc (q : BitVec 3) (j : BitVec 10) (s : State) : Host.Outcome State Fault Refusal :=
  .next (if s.pre.pending (128 + q.toNat) then s.stall
    else if s.pre.p q.toNat then s.jumpTo (s.target j.toInt) else s.fallThrough)

/-- The lanes of the mask stack's top that count for jmpm (R239). -/
def Ctx.topLanes (c : Ctx) : Nat :=
  let n := if c.bound then lanesOf c.laneType else 512
  match c.mstack with
  | [] => 2 ^ n - 1
  | m :: _ => m.toNat % 2 ^ n

def execJmpm (j : BitVec 13) (s : State) : Host.Outcome State Fault Refusal :=
  .next (if s.pre.topLanes = 0 then s.jumpTo (s.target j.toInt) else s.fallThrough)

def execJmpi (x : BitVec 7) (s : State) : Host.Outcome State Fault Refusal :=
  .next (s.withSource x (fun t => s.jumpIndirect t (s.jumpTo t)))

/-- A load that the S0 slot waits for, made in one step at the owner (log 7): every earlier load of the context has returned and every
earlier write has its number, and the entries it carries are covered there. The cause of a failure is raised at this bundle (R154, R157). -/
def State.syncLoad (s : State) (ia n : Nat) (k : List Byte → State → State) : State :=
  s.afterAcquire (s.waitWhile (s.loadsOut s.cur || s.unnumbered s.cur) (
    match s.readMany s.myDie .load (s.pendingSet s.cur) (pagePieces 3 ia n) with
    | .wait n => s.holdFor n
    | .denied w => s.raise (denialPoison false w ia).cause (denialPoison false w ia).info
    | .ok bs key st _ =>
      if !keyReads s.pre.pkr key then s.raise 7 (info07 ia key)
      else
        let ds := mergedDeps s.tick s.nextId s.me.deps st
        if 8 < ds.length then s.stallProbing else k bs ((s.modMe (fun c => { c with deps := ds })).learnAll s.myDie)))

/-- jmpt (R154). -/
def execJmpt (t : BitVec 6) (x : BitVec 7) (s : State) : Host.Outcome State Fault Refusal :=
  .next (s.with2 (BitVec.ofNat 7 t.toNat) x (fun tb i =>
    if tb.toNat % 4 != 0 then s.raise 4 (w64 (bits tb 56 0))
    else s.globalCheck false tb.toNat 4 1 (fun ia _ => s.syncLoad ia 4 (fun bs s1 =>
      if ofBytes bs ≤ i.toNat then s1.fallThrough
      else
        let ea := wrapN 64 ((tb.toNat : Int) + 4 + 4 * (i.toNat : Int))
        s.globalCheck false ea 4 1 (fun ia2 _ => s1.syncLoad ia2 4 (fun es s2 =>
          let tg := s.target (signedN 32 (ofBytes es))
          if bits tg 63 57 != 0 then s.raise 5 tg else s2.jumpTo tg))))))

-- Loops -----------------------------------------------------------------------------------------------------------------------

/-- A body of len + 1 bundles does not fit the levels below n that are active (R149). -/
def Ctx.nestBad (c : Ctx) (n len : Nat) : Bool :=
  ((upFrom 0 n).map c.level).any (fun l => l.act && (decide (l.last < c.pc.toNat + 32 * (len + 1)) || l.stg != 0))

/-- loop and loopi with trip count c (R149). -/
def State.startLoop (s : State) (n stg c len : Nat) : State :=
  let x := s.pre.pc.toNat
  let last := x + 32 * (len + 1)
  if s.pre.nestBad n len then s.undefinedEncoding
  else
    let s := s.modMe (fun k =>
      let k := k.dropLevels n
      if c = 0 then k else k.setLevel n ⟨true, stg, len, 0, c, w64 (x + 32)⟩)
    s.jumpTo (w64 (if c = 0 then last + 32 else x + 32))

def execLoop (st : BitVec 2) (n : BitVec 3) (c : BitVec 5) (b : BitVec 8) (s : State) : Host.Outcome State Fault Refusal :=
  .next (if s.pre.nestBad n.toNat b.toNat then s.undefinedEncoding
    else s.withSource (BitVec.ofNat 7 c.toNat) (fun v => s.startLoop n.toNat st.toNat (bits v 23 0) b.toNat))

def execLoopi (st : BitVec 2) (n : BitVec 3) (c : BitVec 5) (b : BitVec 8) (s : State) : Host.Outcome State Fault Refusal :=
  .next (s.startLoop n.toNat st.toNat (c.toNat + 1) b.toNat)

/-- lbrk (R151). -/
def execLbrk (n : BitVec 3) (s : State) : Host.Outcome State Fault Refusal :=
  .next (
    let l := s.pre.level n.toNat
    if l.act then (s.modMe (fun c => c.dropLevels n.toNat)).jumpTo (w64 (l.last + 32)) else s.jumpTo (w64 (s.pre.pc.toNat + 32)))

-- Calls -----------------------------------------------------------------------------------------------------------------------

/-- The entries of shadow.top (R155). -/
def shadowDep (v : W64) : Nat := bits v 11 0
def shadowBlk (v : W64) : Nat := bits v 18 16
def shadowTopOf (blk dep : Nat) : W64 := w64 (blk * 65536 + dep)

/-- The offset of shadow entry j in the scratchpad (R155). -/
def Task.shadowOff (t : Task) (j : Nat) : Nat := t.spadBytes - 16384 + 8 * j

/-- The IA of block b of the shadow page, after translation and the footprint check, for which the page lies in a region of mode rw: none with the cause and trap.info that a failure
has (R155). -/
def State.shadowIA (s : State) (b : Nat) (wr : Bool) : Nat ⊕ (Nat × W64) :=
  let va := bits s.pre.shadowBase 56 16 * 65536 + 16384 * b
  match translate s.pre.wnd va 16384 with
  | none => .inr (5, vaInfo wr va)
  | some (ia, _) => match rwMiss (s.card s.cur) (ia / 65536 * 65536) 65536 with
    | some _ => .inr (6, fpInfo wr ia)
    | none => .inl ia

/-- What a spill or a refill gives. -/
inductive Moved where
  | ok (s : State)
  | wait (need : Need)
  | failed (cause : Nat) (info : W64)

/-- The spill of the 2,048 entries into block blk (R156). Entries with an uncorrectable error are not copied as if they were good: the spill fails (R36;
log 80). -/
def State.spill (s : State) (t : Task) (blk : Nat) : Moved :=
  match s.shadowIA blk true with
  | .inr _ => .failed 0x0A 0
  | .inl ia =>
    if s.spadBad s.myCore t (t.shadowOff 0) 16384 then .failed 0x0A 0
    else match s.writeOne s.myDie ia (s.spadRead s.myCore t (t.shadowOff 0) 16384) (.spill true) 0 (s.pendingSet s.cur) with
    | .wait n => .wait n
    | .rejected _ _ _ _ => .failed 0x0A 0
    | .ok s => .ok (s.modMe (fun c => { c with shadowTop := shadowTopOf (blk + 1) 0 }))

/-- The refill from block blk - 1 (R157). -/
def State.refill (s : State) (t : Task) (blk : Nat) : Moved :=
  match s.shadowIA (blk - 1) false with
  | .inr (c, i) => .failed c i
  | .inl ia =>
    match (if s.loadsOut s.cur then .wait none else s.readOne s.myDie ia 16384 (.spill false) (s.pendingSet s.cur)) with
    | .wait n => .wait n
    | .denied w => .failed (denialPoison false w ia).cause (denialPoison false w ia).info
    | .ok bs _ _ _ => .ok ((s.spadWrite s.myCore t (t.shadowOff 0) bs).modMe (fun c => { c with shadowTop := shadowTopOf (blk - 1) 2048 }))

/-- The bundle is to be considered again with the shadow stack moved (R156, R157). -/
def State.moving (s : State) : State := if s.bun.on then s.modBun (fun f => { f with refill := true }) else s

/-- The push of call and calli (R156): onto the shadow stack, and a store at s59 - 8. A bundle that has to spill is considered again with the spill
made, which stands only if it commits. -/
def State.callTo (s : State) (tg : W64) : State :=
  s.withSource 59 (fun sp =>
    if sp.toNat % 8 != 0 then s.raise 4 (w64 (bits sp 56 0))
    else match s.boundTask s.cur with
      | none => s.raise 0x0A 0
      | some t =>
        let dep := shadowDep s.pre.shadowTop
        let blk := shadowBlk s.pre.shadowTop
        let ra := w64 (s.pre.pc.toNat + 32)
        let m := if dep < 2048 then .ok s else if !bit s.pre.shadowBase 0 || blk = 4 then .failed 0x0A 0 else s.spill t blk
        match m with
        | .wait n => s.holdFor n
        | .failed c i => s.raise c i
        | .ok s1 =>
          if s.bun.on && 2048 ≤ dep then s.hold.moving else
          s.globalCheck true (effAddr sp (-8)) 8 1 (fun ia _ => s.afterAcquire (
            let dep1 := shadowDep s1.me.shadowTop
            let s1 := s1.spadWrite s.myCore t (t.shadowOff dep1) (bytesOf 8 ra.toNat)
            let s1 := s1.modMe (fun c => (c.setReg 59 (sp - 8)) )
            let s1 := s1.modMe (fun c => { c with shadowTop := shadowTopOf (shadowBlk c.shadowTop) (dep1 + 1) })
            let s1 := (s1.issuePieces .write none ia (bytesOf 8 ra.toNat) (sectorPieces 2 ia 8)).2
            if bits tg 63 57 != 0 then s.raise 5 tg else s1.jumpTo tg)))

def execCall (j : BitVec 13) (s : State) : Host.Outcome State Fault Refusal := .next (s.withDests [59] (s.callTo (s.target j.toInt)))

def execCalli (x : BitVec 7) (s : State) : Host.Outcome State Fault Refusal :=
  .next (s.withDests [59] (s.withSource x (fun t => s.jumpIndirect t (if bits t 63 57 != 0 then s.raise 5 t else s.callTo t))))

/-- The comparison of ret and its return (R157): `s` is the state a trap leaves, `t` the state after the load and a refill. An entry with an uncorrectable
error raises 0x16 (R36). -/
def State.popCall (s t : State) (k : Task) (m : W64) : State :=
  let top := t.pre.shadowTop
  let off := k.shadowOff (shadowDep top - 1)
  if t.spadBad t.myCore k off 8 then s.raise 0x16 (info16 3 (off / 32 * 32))
  else if m.toNat != ofBytes (t.spadRead t.myCore k off 8) then s.raise 9 (w64 (bits m 56 0))
  else if m.toNat % 32 != 0 then s.raise 4 (w64 (bits m 56 0))
  else if bits m 63 57 != 0 then s.raise 5 m
  else
    let sp := t.pre.reg 59
    (t.modMe (fun c => { (c.setReg 59 (sp + 8)) with shadowTop := shadowTopOf (shadowBlk top) (shadowDep top - 1) })).jumpTo m

/-- ret (R157). Within a bundle a refill is made while the bundle stalls, so that it stands whatever the bundle then does. -/
def execRet (s : State) : Host.Outcome State Fault Refusal :=
  .next (s.withDests [59] (s.withSource 59 (fun sp =>
    if sp.toNat % 8 != 0 then s.raise 4 (w64 (bits sp 56 0))
    else s.globalCheck false sp.toNat 8 1 (fun ia _ => s.syncLoad ia 8 (fun bs s1 =>
      let m := w64 (ofBytes bs)
      match s.boundTask s.cur with
      | none => s.raise 9 0
      | some t =>
        if 0 < shadowDep s.pre.shadowTop then s.popCall s1 t m
        else if shadowBlk s.pre.shadowTop = 0 then s.raise 9 0
        else match s1.refill t (shadowBlk s.pre.shadowTop) with
          | .wait n => s.holdFor n
          | .failed c i => s.raise c i
          | .ok s2 => if s.bun.on then s.hold.moving else s2.popCall s2 t m)))))

-- System registers ------------------------------------------------------------------------------------------------------------

/-- A slot of a system instruction raises 0x03 in task mode (R69, R165). -/
def State.systemOnly (s : State) (k : State) : State := if s.sysMode s.cur then k else s.raise 3 s.slotInfo

/-- ctx.id (R14): the die ID, the core and the context. -/
def State.ctxId (s : State) (g : Nat) : W64 := w64 (s.dieId (dieOfCtx g) * 256 + g % 256)

/-- What wd.data reads (R159): the reserved bits of a control word read 0 (R8), though `wait` finds them set (R160; log 82). -/
def Ctx.wdData (c : Ctx) : W64 :=
  let v := getD c.wdSel.toNat 0 c.wd
  match bits c.wdSel 2 0 with
  | 0 => w64 (bits v 39 0)
  | 1 | 2 | 3 | 4 => v
  | _ => 0

/-- The value of system register r (R146, R147, R153, R159). -/
def State.sysReg (s : State) (r : Nat) : W64 :=
  let c := s.pre
  let k := s.core s.myCore
  match r with
  | 0x00 => s.ctxId s.cur
  | 0x01 => c.trap.cause
  | 0x02 => c.trap.pc
  | 0x03 => c.trap.info
  | 0x04 => c.trap.vec
  | 0x05 => c.trap.keep0
  | 0x06 => c.trap.keep1
  | 0x07 => w64 c.pred.toNat
  | 0x08 => c.pkr
  | 0x09 => c.vbind
  | 0x0A => c.vrot
  | 0x0B => k.hash
  | 0x0C => c.seed
  | 0x0D => c.seedCtr
  | 0x0E => c.shadowBase
  | 0x0F => c.shadowTop
  | 0x30 => c.fpstat
  | 0x31 => w64 (s.dieTick s.myDie)
  | 0x32 => c.wdSel
  | 0x33 => c.wdData
  | 0x34 => k.event
  | 0x35 => 0
  | 0x36 => 0
  | _ => if r < 0x16 then (c.level (r - 0x10)).word else getD (r - 0x18) 0 c.strides

/-- Predicates whose write is pending make the predicate image wait (R20). -/
def Ctx.predPending (c : Ctx) : Bool := (upFrom 129 7).any c.pending

def execSysr (r : BitVec 6) (d : BitVec 7) (s : State) : Host.Outcome State Fault Refusal :=
  .next (if !sysRegOk r then s.undefinedEncoding
    else s.withDests [d.toNat] (if r = 7 && s.pre.predPending then s.stall else s.writeReg d (s.sysReg r.toNat)))

/-- A register marked R in system mode as in task mode (R146). -/
def sysReadOnly (r : Nat) : Bool := [0x00, 0x09, 0x0F, 0x31, 0x34].contains r || (decide (0x10 ≤ r) && decide (r < 0x16))

/-- A register marked R in task mode alone (R146). -/
def sysSystemOnly (r : Nat) : Bool := [0x08, 0x0B, 0x0E].contains r

/-- The state after a write of v to system register r (R146, R147). -/
def State.writeSysReg (s : State) (r : Nat) (v : W64) : State :=
  let tr (f : TrapRegs → TrapRegs) : State := s.modMe (fun c => { c with trap := f c.trap })
  let ev (f : Nat → Nat) : State := s.modCore s.myCore (fun k => { k with event := w64 (f k.event.toNat) })
  match r with
  | 0x01 => s.modMe (fun c => { c with trap := { c.trap with cause := w64 (bits v 8 0) }, entryLevels := if bit c.trap.cause 8 then c.entryLevels else c.levels })
  | 0x02 => tr (fun t => { t with pc := w64 (bits v 56 0) })
  | 0x03 => tr (fun t => { t with info := v })
  | 0x04 => tr (fun t => { t with vec := w64 (bits v 56 5 * 32 + bits v 0 0) })
  | 0x05 => tr (fun t => { t with keep0 := v })
  | 0x06 => tr (fun t => { t with keep1 := v })
  | 0x07 => s.modMe (fun c => { c with pred := BitVec.ofNat 8 (bits v 7 1 * 2 + 1) })
  | 0x08 => s.modMe (fun c => { c with pkr := v })
  | 0x0A => s.modMe (fun c => { c with vrot := w64 (bits v 12 8 * 256 + bits v 0 0) })
  | 0x0B => (s.modCore s.myCore (fun k => { k with hashPend := some v })).settleHash s.myCore
  | 0x0C => s.modMe (fun c => { c with seed := v })
  | 0x0D => s.modMe (fun c => { c with seedCtr := v })
  | 0x0E => s.modMe (fun c => { c with shadowBase := w64 (bits v 56 16 * 65536 + bits v 0 0) })
  | 0x30 => s.modMe (fun c => { c with fpstat := w64 (bits v 4 0 ||| s.bun.conds) })
  | 0x32 => s.modMe (fun c => { c with wdSel := w64 (bits v 5 0) })
  | 0x33 => if bits s.pre.wdSel 2 0 < 5 then s.modMe (fun c => { c with wd := put s.pre.wdSel.toNat v c.wd }) else s
  | 0x35 => ev (fun e => e ||| v.toNat)
  | 0x36 => ev (fun e => e &&& (2 ^ 64 - 1 - v.toNat))
  | _ => if 0x18 ≤ r && r < 0x30 then s.modMe (fun c => { c with strides := put (r - 0x18) v c.strides }) else s

def execSysw (r : BitVec 6) (x : BitVec 7) (s : State) : Host.Outcome State Fault Refusal :=
  .next (if !sysRegOk r then s.undefinedEncoding
    else if !s.sysMode s.cur && (sysReadOnly r.toNat || sysSystemOnly r.toNat) then s.raise 3 s.slotInfo
    else if r = 7 && s.pre.predPending then s.stall
    else s.withSource x (fun v => if sysReadOnly r.toNat then s else s.writeSysReg r.toNat v))

-- Traps and halts -------------------------------------------------------------------------------------------------------------

def execTrap (k : BitVec 8) (s : State) : Host.Outcome State Fault Refusal := .next (s.raise 0x0E (w64 k.toNat))
def execBrk (k : BitVec 8) (s : State) : Host.Outcome State Fault Refusal := .next (s.raise 0x0D (w64 k.toNat))

/-- eret (R164): the pc takes trap.pc as a bundle's address (R41). -/
def execEret (s : State) : Host.Outcome State Fault Refusal :=
  .next (s.systemOnly (
    (s.modMe (fun c => c.returnFromHandler)).modBun (fun f => { f with jumped := true })))

/-- halt (R166): the bundle commits and the context stops issuing. -/
def execHalt (s : State) : Host.Outcome State Fault Refusal :=
  .next (s.systemOnly (if s.bun.on then s.modBun (fun f => { f with halt := true }) else s.modMe (fun c => { c with halted := true })))

end Sys2Proof.Machine
end

