-- ==== Sys2Proof/Machine/Command.lean ====
section
/-! DEFINITION. What the engine commands of S7 share: barrier objects (R23, R24, R215, R216), handles and l5 (R26), the tag a command
keeps of its issue (R38, R457), parameters in scratchpad (R155, R177), ranges of global memory (R124, R174), and deferred faults (R34). -/

namespace Sys2Proof.Machine

def execNopEngine (s : State) : Host.Outcome State Fault Refusal := .next s

/-- A barrier object (R215). -/
structure Barrier where
  ph : Bool
  arr : Nat
  ovr : Bool
  exp : Nat
deriving DecidableEq, Repr

/-- The greatest count of a barrier object (R216). -/
def maxCount : Nat := 2 ^ 48 - 1

def Barrier.ofNat (x : Nat) : Barrier := ⟨bitN x 127, bitsN x 111 64, bitN x 63, bitsN x 47 0⟩
def Barrier.toNat (b : Barrier) : Nat := b2n b.ph * 2 ^ 127 + b.arr * 2 ^ 64 + b2n b.ovr * 2 ^ 63 + b.exp

/-- The test after every update (R216). -/
def Barrier.test (b : Barrier) : Barrier :=
  if b.exp != 0 && decide (b.exp ≤ b.arr) then ⟨!b.ph, 0, b.ovr || decide (b.exp < b.arr), 0⟩ else b

/-- Arrival of n bytes (R216). -/
def Barrier.arrive (b : Barrier) (n : Nat) : Barrier :=
  (if maxCount < b.arr + n then { b with arr := maxCount, ovr := true } else { b with arr := b.arr + n }).test

/-- Arming of n bytes (R216). -/
def Barrier.arm (b : Barrier) (n : Nat) : Barrier := { b with exp := b.exp + n }.test

/-- Barrier object h of a task (R23). -/
def State.barrier (s : State) (c : Nat) (t : Task) (h : Nat) : Barrier := Barrier.ofNat (ofBytes (s.spadRead c t (16 * h) 16))

/-- One update of barrier object h, whole (R216); an object with an uncorrectable error stays as it is, and is never made good (R36; log 80). -/
def State.updateBarrier (s : State) (c : Nat) (t : Task) (h : Nat) (f : Barrier → Barrier) : State :=
  if s.spadBad c t (16 * h) 16 then s else s.spadWrite c t (16 * h) (bytesOf 16 (f (s.barrier c t h)).toNat)

/-- trap.info of cause 0x11 (R225). -/
def info11 (sub ch h whr : Nat) : W64 := w64 (sub * 2 ^ 61 + ch % 2 * 2 ^ 60 + h % 256 * 2 ^ 52 + whr % 2 ^ 52)

/-- The core of a task, where its tiles and scratchpad lie. -/
def Task.onCore (t : Task) : Nat := t.core.getD 0

/-- Bytes credited to a command's handle (R24); handle 255 names no object. What observes it comes after the command's accesses (R457). -/
def State.credit (s : State) (tag : Tag) (n : Nat) : State :=
  if tag.h = 255 || n = 0 then s
  else match s.task? (dieOfCtx tag.g) tag.u with
    | none => s
    | some t => (s.updateBarrier t.onCore t tag.h (fun b => b.arrive n)).learnAll (dieOfCtx tag.g)

/-- The status of a completed command for l5 (R26). -/
def State.reportL5 (s : State) (tag : Tag) (v : Nat) : State :=
  if tag.h = 255 && (s.ctx tag.g).task == some tag.u then (s.deliverL5 tag.g tag.tok (w64 v)).learnAll (dieOfCtx tag.g) else s

/-- An S7 slot: its guard, then its task (R49). -/
def State.engineSlot (s : State) (g : BitVec 4) (k : Task → State) : State :=
  s.guarded g (match s.boundTask s.cur with | none => s.undefinedEncoding | some t => s.waitWhile (s.acquireOut s.cur) (k t))

/-- An S7 slot of a system instruction: its mode is checked before it waits for anything but its guard (R47, R69). -/
def State.systemSlot (s : State) (g : BitVec 4) (k : Task → State) : State := s.guarded g (s.systemOnly (s.engineSlot g k))

/-- The tag of a command that issues now: a fresh token, with the draw it starts at. -/
def State.newTag (s : State) (t : Task) (h draw : Nat) : Tag × State :=
  let (tok, s) := s.fresh
  let c := s.pre
  (⟨s.cur, c.task.getD 0, c.pc, h, tok, s.pendingSet s.cur, c.wnd, t.card, c.pkr, t.sys, c.seed, draw⟩, s)

/-- Why n bytes cannot be added to the count of object h: it has an uncorrectable error (0x16; R36, log 80), or the count would pass its limit
(R216: the cause and trap.info given). A handle of 255 names no object. -/
def State.armCause (s : State) (t : Task) (h n : Nat) (refused : Nat × W64) : Option (Nat × W64) :=
  if h = 255 then none
  else if s.spadBad s.myCore t (16 * h) 16 then some (0x16, info16 3 (16 * h / 32 * 32))
  else if maxCount < (s.barrier s.myCore t h).exp + n then some refused
  else none

/-- Continue when n bytes can be added to the count of a command's object; the refusal of R216 is 0x11, sub-cause 6. -/
def State.armable (s : State) (t : Task) (h : BitVec 8) (n : Nat) (refused : W64) (k : State) : State :=
  match s.armCause t h.toNat n (0x11, refused) with
  | some (c, i) => s.raise c i
  | none => k

/-- The issue of a command whose byte total is known: its count is armed, or the command is refused (R216); a
handle of 255 makes it the last-issued writer of l5 (R26). -/
def State.issueCommand (s : State) (t : Task) (h : BitVec 8) (total draw : Nat) (refused : W64) (k : Tag → State → State) : State :=
  s.armable t h total refused (
    let (tag, s) := s.newTag t h.toNat draw
    k tag (if h.toNat = 255 then s.claimL5 s.cur tag.tok else s.updateBarrier s.myCore t h.toNat (fun b => b.arm total)))

/-- The issue of a command to a queue that may be full: a refusal comes before the wait for a place (R42, R47, R216). -/
def State.issueQueued (s : State) (t : Task) (h : BitVec 8) (total : Nat) (refused : W64) (full : Bool) (k : Tag → State → State) : State :=
  s.armable t h total refused (s.waitWhile full (s.issueCommand t h total 0 refused k))

/-- The refusal's trap.info for a command of another engine: the S7 word (R225). -/
def State.refusal6 (s : State) (h : BitVec 8) : W64 := info11 6 0 h.toNat s.bun.word.toNat

/-- A command that completes at issue and reports to l5 alone: its value is the status (R26). -/
def State.atOnceL5 (s : State) (v : Nat) : State := s.modMe (fun c => c.setReg 85 (w64 v))

-- Memory side -----------------------------------------------------------------------------------------------------------------

/-- The entries an access of a command carries: those of its issue, and those of the context's earlier loads and writes as they now stand
(R457). -/
def State.cmdEnts (s : State) (tag : Tag) : List Ent :=
  let c := s.ctx tag.g
  let read := if c.task == some tag.u then (c.deps.filter (fun x => decide (x.brought < tag.tok))).map Dep.ent else []
  s.net.foldl (fun es q =>
    if q.2.g == tag.g && q.2.task == some tag.u && decide (q.1 < tag.tok) && q.2.kind.causal
    then q.2.ids.foldl (fun es i => mergeEnt es ⟨q.2.origin, i.1, i.2⟩) es else es) (read.foldl mergeEnt tag.ents)

/-- A command waits: an earlier write of the context has no number yet, or an earlier load has not returned (R38, R192; log 23). -/
def State.cmdHeld (s : State) (tag : Tag) : Bool :=
  s.net.any (fun q => q.2.g == tag.g && q.2.task == some tag.u && decide (q.1 < tag.tok) && q.2.kind.causal && q.2.ids.isEmpty) ||
    ((s.ctx tag.g).task == some tag.u && (s.acquireBefore tag.g tag.tok none || s.loadBefore tag.g tag.tok none))

/-- The write-enable vector of a command (R201). -/
def Tag.wen (t : Tag) : Nat := writeVector t.pkr

/-- What a read or a write of an engine gives: it waits, or it fails at an address: 0 key, 1 permission, 2 a rejected write, 3 an
uncorrectable error, as the sub-causes of the engines number them; a rejected write still takes its number (R187). -/
inductive Io (α : Type) where
  | ok (a : α)
  | wait (need : Need)
  | fail (sub at_ : Nat) (used : Used)

def Io.bind {α β : Type} (x : Io α) (f : α → Io β) : Io β :=
  match x with
  | .ok a => f a
  | .wait n => .wait n
  | .fail n a u => .fail n a u

/-- A read of global bytes by a command of die d, sector by sector in one step (R200, R358). -/
def State.cmdReadPieces (s : State) (d : Nat) (pkr : W64) (ents : List Ent) : List (Nat × Nat) → Io (List Byte)
  | [] => .ok []
  | (ia, n) :: ps =>
    match s.readOne d ia n .load ents with
    | .wait n => .wait n
    | .denied w => .fail (if 8 ≤ w then 3 else 1) (ia / 32 * 32) none
    | .ok bs key _ _ => if !keyReads pkr key then .fail 0 (ia / 32 * 32) none else (s.cmdReadPieces d pkr ents ps).bind (fun cs => .ok (bs ++ cs))

def State.cmdRead (s : State) (tag : Tag) (ia n : Nat) : Io (List Byte) :=
  s.cmdReadPieces (dieOfCtx tag.g) tag.pkr (s.cmdEnts tag) (sectorPieces (n / 32 + 2) ia n)

/-- Writes of global bytes by a command, in one step, all or none (R201, R457). -/
def State.cmdWritePieces (s : State) (d wen : Nat) (ents : List Ent) (multi : Bool) (ia0 : Nat) (bs : List Byte) : List (Nat × Nat) → Io State
  | [] => .ok s
  | (ia, n) :: ps =>
    match s.writeOne d ia ((bs.drop (ia - ia0)).take n) .store wen ents multi with
    | .wait n => .wait n
    | .rejected _ _ _ u => .fail 2 (ia / 32 * 32) u
    | .ok s => s.cmdWritePieces d wen ents multi ia0 bs ps

def State.cmdWrite (s : State) (tag : Tag) (ia : Nat) (bs : List Byte) (multi : Bool := false) : Io State :=
  s.cmdWritePieces (dieOfCtx tag.g) tag.wen (s.cmdEnts tag) multi ia bs (sectorPieces (bs.length / 32 + 2) ia bs.length)

/-- The offset of the first 32-byte word of a task's scratchpad range with an uncorrectable error (R225, R448). -/
def State.firstBad (s : State) (t : Task) (a n : Nat) : Nat :=
  match (sectorsOf a n).find? (fun k => s.spadBad t.onCore t (32 * k) 32) with
  | some k => 32 * k
  | none => a

/-- A read of a task's scratchpad by an engine. -/
def State.cmdSpad (s : State) (t : Task) (a n : Nat) : Io (List Byte) :=
  if s.spadBad t.onCore t a n then .fail 3 (s.firstBad t a n) none else .ok (s.spadRead t.onCore t a n)

-- Parameters ------------------------------------------------------------------------------------------------------------------

/-- trap.info of cause 0x17 for a slot (R202). -/
def spadInfoAt (slot a : Nat) : W64 := w64 (slot * 2 ^ 32 + a % 2 ^ 22)

/-- Parameters read at issue are consumed there: an uncorrectable error in them is 0x16 (R36, R448; log 80). -/
def State.goodParams (s : State) (t : Task) (a n : Nat) (k : State) : State :=
  if s.spadBad s.myCore t a n then s.raise 0x16 (info16 3 (s.firstBad t a n)) else k

/-- A range of scratchpad that an S7 command names: aligned, and in usable scratchpad or, where allowed, the barrier page (R155, R177).
What may lie in that page and is read are parameters. -/
def State.engineSpad (s : State) (t : Task) (wr : Bool) (a n align : Nat) (page : Bool) (k : State) : State :=
  if a % align != 0 then s.raise 4 (vaInfo wr a)
  else if decide (a < 2 ^ 22) && decide (a + n + 16384 ≤ t.spadBytes) && (page || decide (4096 ≤ a)) then
    (if page && !wr then s.goodParams t a n k else k)
  else s.raise 0x17 (spadInfoAt 7 a)

/-- A range of global memory that an S7 command names: one window maps it and one region covers it (R124, R174, R219). -/
def State.engineRange (s : State) (t : Task) (wr : Bool) (va n : Nat) (k : Nat → Nat → State) : State :=
  match translate s.pre.wnd va n with
  | none => s.raise 5 (vaInfo wr va)
  | some (ia, w) => match footprintMiss t.card wr ia n with
    | some x => s.raise 6 (fpInfo wr x)
    | none => k ia w

-- Deferred faults -------------------------------------------------------------------------------------------------------------

/-- A pending deferred trap put where the task is: at its context, or with the task while it has none (R34, R141). At most one of
each cause is pending; what later work of that cause leaves faulted counts among its results. -/
def State.deferTo (s : State) (d u cause : Nat) (f : Deferred) : State :=
  match s.task? d u with
  | none => s
  | some t =>
    let add := fun (m : Map Deferred) => match find? cause m with
      | none => put cause f m
      | some p => put cause { p with rows := p.rows ++ f.rows, spad := p.spad ++ f.spad, mem := p.mem ++ f.mem } m
    match t.ctx with
    | some g => s.modCtx g (fun c => { c with deferred := add c.deferred })
    | none => s.setTask d u { t with faults := add t.faults }

/-- What a command writes: core rows, ranges of scratchpad and ranges of global memory (R34). -/
structure Writes where
  rows : List Nat
  spad : List (Nat × Nat)
  mem : List (Nat × Nat)

/-- A command that writes none of them. -/
def Writes.none : Writes := ⟨[], [], []⟩

/-- A command's deferred fault, with the results it writes (R34). -/
def State.deferFault (s : State) (tag : Tag) (cause : Nat) (info : W64) (w : Writes) : State :=
  s.deferTo (dieOfCtx tag.g) tag.u cause ⟨info, tag.va, if tag.h = 255 then some tag.tok else none, w.rows, w.spad, w.mem⟩

end Sys2Proof.Machine
end

