-- ==== Sys2Proof/Machine/Copy.lean ====
section
/-! DEFINITION. The copy engine (R213 to R231): the issue of its commands, their units in element order, crediting and faults, and the node
copier. A unit is read and written in one step (log 6). -/

namespace Sys2Proof.Machine

/-- A channel of a core, or the node copier of a die as channel 2 of its core 0 (R213, R230). -/
def State.channel (s : State) (c ch : Nat) : Channel :=
  match ch with
  | 0 => (s.core c).copy0
  | 1 => (s.core c).copy1
  | _ => (s.die (dieOfCore c)).copier

def State.setChannel (s : State) (c ch : Nat) (x : Channel) : State :=
  match ch with
  | 0 => s.modCore c (fun k => { k with copy0 := x })
  | 1 => s.modCore c (fun k => { k with copy1 := x })
  | _ => s.modDie (dieOfCore c) (fun k => { k with copier := x })

def State.modCopy (s : State) (c ch k : Nat) (f : CopyCmd → CopyCmd) : State :=
  let x := s.channel c ch
  match find? k x.cmds with | none => s | some m => s.setChannel c ch { x with cmds := put k (f m) x.cmds }

/-- The channel status (R214); an offset past its 41 bits is shown modulo 2^41 (R224; log 106). -/
def Channel.status (x : Channel) : Nat :=
  b2n x.flt * 2 ^ 63 + b2n (x.cmds.any (fun q => q.2.run)) * 2 ^ 62 + x.cmds.length % 32 * 2 ^ 57 + x.sub * 2 ^ 54 + x.fctx * 2 ^ 52 +
    x.fh * 2 ^ 44 + x.fcnt * 2 ^ 41 + x.off % 2 ^ 41

-- Descriptors (R218 to R223) --------------------------------------------------------------------------------------------------

/-- The words of a little-endian image. -/
def wordsOf : Nat → List Byte → List W64
  | 0, _ => []
  | k + 1, bs => w64 (ofBytes (bs.take 8)) :: wordsOf k (bs.drop 8)

/-- The count and the strides of dimension k of cpyt. -/
def dimCount (ws : List W64) (k : Nat) : Nat := bits (wordN ws (8 + 2 * k)) 23 0
def dimStride (ws : List W64) (k : Nat) (dst : Bool) : Int :=
  signedN 32 (if dst then bits (wordN ws (9 + 2 * k)) 63 32 else bits (wordN ws (9 + 2 * k)) 31 0)

/-- The fields of a descriptor. -/
def descSk (ws : List W64) : Bool := bit (wordN ws 0) 63
def descDk (ws : List W64) : Bool := bit (wordN ws 1) 63
def descSrc (ws : List W64) : Nat := bits (wordN ws 0) 56 0
def descDst (ws : List W64) : Nat := bits (wordN ws 1) 56 0
def descKind (ws : List W64) : Nat := bits (wordN ws 2) 63 60
def descSx (ws : List W64) : Bool := bit (wordN ws 2) 49
def descDx (ws : List W64) : Bool := bit (wordN ws 2) 38
def descRnd (ws : List W64) : Nat := bits (wordN ws 2) 37 35
def descOvf (ws : List W64) : Bool := bit (wordN ws 2) 34
def descDims (ws : List W64) : Nat := bits (wordN ws 2) 33 30 + 1
def descTesz (ws : List W64) : Nat := 2 ^ bits (wordN ws 2) 27 24
def descXesz (ws : List W64) : Nat := 2 ^ bits (wordN ws 2) 29 28
def descLen (ws : List W64) : Nat := bits (wordN ws 3) 40 0
def descRows (ws : List W64) : Nat := bits (wordN ws 3) 23 0
def descCols (ws : List W64) : Nat := bits (wordN ws 3) 47 24
def descSpitch (ws : List W64) : Nat := bits (wordN ws 4) 39 0
def descDpitch (ws : List W64) : Nat := bits (wordN ws 5) 39 0

/-- The number of elements of a cpyt. -/
def dimTotal (ws : List W64) : Nat := ((upFrom 0 (descDims ws)).map (dimCount ws)).foldl (· * ·) 1

def zeroWords (ws : List W64) (lo n : Nat) : Bool := (upFrom lo n).all (fun i => wordN ws i == 0)

/-- An explicit format and geometry of a side of cpyc (R218, R219). Fields of a side without one must be 0, and raw is no explicit format (log 103). -/
def sideFmtOk (x : Bool) (f g : Nat) (scratch : Bool) : Bool :=
  if !x then f == 0 && g == 0 && !scratch
  else (fmtOf f).isSome && f != 0 && geoOk f g && (!scratch || decide (g < 2))

/-- No reserved field is set and every field keeps its limits (R218 to R223). -/
def copyWordsOk (kind : Nat) (node : Bool) (ws : List W64) : Bool :=
  let w2 := wordN ws 2
  descKind ws == kind && bits (wordN ws 0) 62 57 == 0 && bits (wordN ws 1) 62 57 == 0 && bits w2 23 0 == 0 &&
  (!descSk ws || bits (wordN ws 0) 56 22 == 0) && (!descDk ws || bits (wordN ws 1) 56 22 == 0) &&
  (!node || (!descSk ws && !descDk ws && bits (wordN ws 0) 56 52 == 0 && bits (wordN ws 1) 56 52 == 0)) &&
  (match kind with
   | 1 => bits w2 59 24 == 0 && bits (wordN ws 3) 63 41 == 0 && descLen ws != 0 && decide (descLen ws ≤ 2 ^ 40) && zeroWords ws 4 4
   | 2 => bits w2 59 34 == 0 && bits w2 29 28 == 0 && decide (descDims ws ≤ 12) && decide (bits w2 27 24 ≤ 9) && zeroWords ws 3 5 &&
       (upFrom 0 12).all (fun k =>
         if k < descDims ws then bits (wordN ws (8 + 2 * k)) 63 24 == 0 && dimCount ws k != 0
         else wordN ws (8 + 2 * k) == 0 && wordN ws (9 + 2 * k) == 0) &&
       decide (dimTotal ws * descTesz ws ≤ 2 ^ 40)
   | 3 => bits w2 59 30 == 0 && bits w2 27 24 == 0 && decide (bits w2 29 28 ≤ 2) && bits (wordN ws 3) 63 48 == 0 &&
       descRows ws != 0 && descCols ws != 0 && descRows ws % 32 == 0 && descCols ws % 32 == 0 &&
       bits (wordN ws 4) 63 40 == 0 && bits (wordN ws 5) 63 40 == 0 && descSpitch ws % 32 == 0 && descDpitch ws % 32 == 0 &&
       decide (descCols ws * descXesz ws ≤ descSpitch ws) && decide (descRows ws * descXesz ws ≤ descDpitch ws) && zeroWords ws 6 2
   | _ => bits w2 33 24 == 0 && decide (descRnd ws ≤ 4) && sideFmtOk (descSx ws) (bits w2 59 54) (bits w2 53 50) (descSk ws) &&
       sideFmtOk (descDx ws) (bits w2 48 43) (bits w2 42 39) (descDk ws) && bits (wordN ws 3) 63 41 == 0 && descLen ws != 0 &&
       decide (descLen ws ≤ 2 ^ 40) && zeroWords ws 4 4)

/-- The size of an element of a format code; a raw one counts a byte. -/
def codeSize (f : Nat) : Nat := ((fmtOf f).getD .raw).size

/-- The frame address and the block of an address in an mx.inter layout (R95), and the address of block j from there on. -/
def interStart (a : Nat) : Option (Nat × Nat) :=
  let o := a % 1024
  if o % 33 == 0 && decide (o / 33 < 31) then some (a - o, o / 33) else none
def interAddr (a j : Nat) : Nat :=
  match interStart a with
  | none => a
  | some (f, b) => f + (b + j) / 31 * 1024 + (b + j) % 31 * 33

/-- Block j is the last of its frame, whose padding byte follows it (R95). -/
def interLast (a j : Nat) : Bool := match interStart a with | none => false | some (_, b) => (b + j) % 31 == 30

/-- A side of cpyc may start where it does: an mx.inter one at the first element of a block (R223). -/
def sideStartOk (g a : Nat) : Bool := g != 1 || (interStart a).isSome

/-- The extent in bytes of n elements of a side of cpyc from its base on, scales apart excepted (R219); copySide adds those. -/
def sideSpan (f g a n : Nat) (dst : Bool) : Nat :=
  if g = 1 then interAddr a (n / 32 - 1) + (if dst && interLast a (n / 32 - 1) then 34 else 33) - a else n * codeSize f

/-- The extents of a descriptor's sides, each as an offset before its base and a length (R219). -/
def copyExtents (kind : Nat) (ws : List W64) (sa da sf sg df dg : Nat) : (Nat × Nat) × (Nat × Nat) :=
  match kind with
  | 1 => ((0, descLen ws), (0, descLen ws))
  | 2 =>
    let range := fun (dst : Bool) =>
      let xs := (upFrom 0 (descDims ws)).map (fun k => ((dimCount ws k : Nat) - 1 : Int) * dimStride ws k dst)
      let lo := (xs.filter (fun x => x < 0)).foldl (· + ·) 0
      let hi := (xs.filter (fun x => 0 < x)).foldl (· + ·) 0
      ((-lo).toNat, (hi - lo).toNat + descTesz ws)
    (range false, range true)
  | 3 => ((0, (descRows ws - 1) * descSpitch ws + descCols ws * descXesz ws), (0, (descCols ws - 1) * descDpitch ws + descRows ws * descXesz ws))
  | _ => ((0, sideSpan sf sg sa (descLen ws) false), (0, sideSpan df dg da (descLen ws) true))

/-- The byte total of a command (R220 to R223). -/
def copyTotal (kind : Nat) (ws : List W64) (df dg : Nat) : Nat :=
  match kind with
  | 1 => descLen ws
  | 2 => dimTotal ws * descTesz ws
  | 3 => descRows ws * descCols ws * descXesz ws
  | _ => descLen ws * codeSize df + (if isMX dg then descLen ws / 32 else 0)

/-- The number of units of a command: an mx.apart destination that does not begin at a block has a block more (log 96). -/
def copyUnits (kind : Nat) (ws : List W64) (dg a : Nat) : Nat :=
  match kind with
  | 1 => descLen ws
  | 2 => dimTotal ws
  | 3 => descRows ws / 32 * (descCols ws / 32)
  | _ => if dg = 2 && a % 32 != 0 then descLen ws / 32 + 1 else if isMX dg then descLen ws / 32 else descLen ws

-- Issue (R219) ----------------------------------------------------------------------------------------------------------------

/-- A side of an issuing copy. -/
structure Side where
  /-- an IA, or a scratchpad offset. -/
  base : Nat
  /-- its scale distance. -/
  sd : Int
  /-- its extent. -/
  lo : Nat
  len : Nat
  deriving DecidableEq, Repr

/-- The IA range of the blocks that n elements of an mx.apart side at an IA touch, with their scales (R93, R95, R219). -/
def apartRange (ia n : Nat) (sd : Int) : Nat × Nat :=
  let sc := scaleIA ia sd
  let lo := Nat.min (ia / 32 * 32) sc
  (lo, Nat.max ((ia + n + 31) / 32 * 32) (sc + ((ia + n - 1) / 32 - ia / 32 + 1)) - lo)

/-- A side of an issuing copy after the checks of R219: one window maps its whole extent and one region covers it, the scales of an mx.apart side
among it. -/
def State.copySide (s : State) (t : Task) (wr scratch apart : Bool) (a back len : Nat) (k : Side → State) : State :=
  if scratch then (if back ≤ a then s.engineSpad t wr (a - back) len 1 false (k ⟨a, 0, a - back, len⟩) else s.raise 0x17 (spadInfoAt 7 a))
  else if a < back then s.raise 5 (vaInfo wr (wrapN 57 ((a : Int) - (back : Int))))
  else if apart then
    match windowOf s.pre.wnd a with
    | none => s.raise 5 (vaInfo wr a)
    | some w =>
      let ia := windowIA s.pre.wnd w a
      let (lo, n) := apartRange ia len (windowSD s.pre.wnd w)
      let va : Int := (a : Int) + lo - ia
      if va < 0 then s.raise 5 (vaInfo wr a)
      else s.engineRange t wr va.toNat n (fun _ _ => k ⟨ia, windowSD s.pre.wnd w, lo, n⟩)
  else s.engineRange t wr (a - back) len (fun ia w => k ⟨ia + back, windowSD s.pre.wnd w, ia, len⟩)

/-- The format and geometry of a side of cpyc at issue: its own, or the leaf's of its first page (R223). -/
def State.copyFmt (s : State) (kind : Nat) (x : Bool) (f g va : Nat) : Nat × Nat :=
  if kind != 4 || x then (f, g)
  else match windowOf s.pre.wnd va with
    | none => (0, 0)
    | some w => match s.leafOf s.myDie (windowIA s.pre.wnd w va) with
      | none => (0, 0)
      | some (_, e) => (leafFmt e, leafGeo e)

/-- cpy, cpyt, cpyx and cpyc at issue (R219). trap.info has of a channel number its lowest bit, and of a descriptor's offset its lowest 22 (R225; log
106). -/
def State.copyCommand (s : State) (kind : Nat) (g : BitVec 4) (a b : BitVec 7) (h : BitVec 8) : State :=
  s.engineSlot g (fun t => s.with2 a b (fun av bv =>
    let desc := av.toNat
    let ch := bv.toNat
    let bad := info11 5 ch h.toNat (desc % 2 ^ 22)
    let n := if kind = 2 then 256 else 64
    if 2 ≤ ch then s.raise 0x11 bad
    else s.engineSpad t false desc n 64 true (
      let ws := wordsOf (n / 8) (s.spadRead s.myCore t desc n)
      if !copyWordsOk kind false ws then s.raise 0x11 bad
      else
        let w2 := wordN ws 2
        let (sf, sg) := s.copyFmt kind (descSx ws) (bits w2 59 54) (bits w2 53 50) (descSrc ws)
        let (df, dg) := s.copyFmt kind (descDx ws) (bits w2 48 43) (bits w2 42 39) (descDst ws)
        let (sa, da) := (descSrc ws, descDst ws)
        if kind == 4 && ((isMX sg || isMX dg) && descLen ws % 32 != 0 || !sideStartOk sg sa || !sideStartOk dg da)
        then s.raise 0x11 bad
        else
          let ((sb, sl), (db, dl)) := copyExtents kind ws sa da sf sg df dg
          s.copySide t false (descSk ws) (kind == 4 && sg == 2) sa sb sl (fun src => s.copySide t true (descDk ws) (kind == 4 && dg == 2) da db dl (fun dst =>
              let total := copyTotal kind ws df dg
              let refused := info11 6 ch h.toNat (desc % 2 ^ 22)
              s.armable t h total refused (s.waitWhile (decide (16 ≤ (s.channel s.myCore ch).cmds.length)) (
                let (start, s) := s.draw (if kind == 4 then descRnd ws else 0) (descLen ws)
                s.issueCommand t h total start refused (fun tag s =>
                  let m : CopyCmd := { tag := tag, node := false, words := ws, sbase := src.base, dbase := dst.base, ssd := src.sd, dsd := dst.sd, sfmt := sf, sgeo := sg,
                                       dfmt := df, dgeo := dg, dlo := dst.lo, dlen := dst.len, run := false, pos := 0, ahead := [], cred := 0, fault := none }
                  let x := s.channel s.myCore ch
                  s.setChannel s.myCore ch { x with cmds := put tag.tok m x.cmds }))))))))

def execCpy (g : BitVec 4) (a b : BitVec 7) (h : BitVec 8) (s : State) : Host.Outcome State Fault Refusal := .next (s.copyCommand 1 g a b h)
def execCpyt (g : BitVec 4) (a b : BitVec 7) (h : BitVec 8) (s : State) : Host.Outcome State Fault Refusal := .next (s.copyCommand 2 g a b h)
def execCpyx (g : BitVec 4) (a b : BitVec 7) (h : BitVec 8) (s : State) : Host.Outcome State Fault Refusal := .next (s.copyCommand 3 g a b h)
def execCpyc (g : BitVec 4) (a b : BitVec 7) (h : BitVec 8) (s : State) : Host.Outcome State Fault Refusal := .next (s.copyCommand 4 g a b h)

-- Barrier commands (R217) -----------------------------------------------------------------------------------------------------

def execBarm (g : BitVec 4) (a b : BitVec 7) (h : BitVec 8) (s : State) : Host.Outcome State Fault Refusal :=
  .next (if h = 255 then s.undefinedEncoding else s.engineSlot g (fun t => s.with2 a b (fun n m =>
    let bad := info11 5 0 h.toNat s.bun.word.toNat
    if 2 ≤ m.toNat || maxCount < n.toNat then s.raise 0x11 bad
    else if m = 0 then s.armable t h n.toNat (s.refusal6 h) (s.updateBarrier s.myCore t h.toNat (fun x => x.arm n.toNat))
    else s.goodParams t (16 * h.toNat) 16 (s.updateBarrier s.myCore t h.toNat (fun x => (⟨x.ph, 0, false, n.toNat⟩ : Barrier).test)))))

def execBarr (g : BitVec 4) (a : BitVec 7) (h : BitVec 8) (s : State) : Host.Outcome State Fault Refusal :=
  .next (if h = 255 then s.undefinedEncoding else s.engineSlot g (fun t => s.withSource a (fun n =>
    if maxCount < n.toNat then s.raise 0x11 (info11 5 0 h.toNat s.bun.word.toNat)
    else s.goodParams t (16 * h.toNat) 16 (s.updateBarrier s.myCore t h.toNat (fun x => x.arrive n.toNat)))))

def execBq (g : BitVec 4) (a : BitVec 7) (s : State) : Host.Outcome State Fault Refusal :=
  .next (s.engineSlot g (fun _ => s.withSource a (fun n =>
    let ch := n.toNat % 2
    if 4 ≤ n.toNat then s.raise 0x11 (info11 5 ch 255 s.bun.word.toNat)
    else
      let x := s.channel s.myCore ch
      let s := s.atOnceL5 x.status
      if bit n 1 then s.setChannel s.myCore ch { x with flt := false, sub := 0, fctx := 0, fh := 0, fcnt := 0, off := 0 } else s)))

-- Running (R220 to R225, R227, R228) ------------------------------------------------------------------------------------------

/-- A command starts: the first of the queue that has not (R213, R227). -/
def execCopyCommandStart (c ch : Nat) (s : State) : Host.Outcome State Fault Refusal :=
  onUnit (coreOk c && decide (ch < 3)) (match (s.channel c ch).cmds.find? (fun q => !q.2.run) with
    | none => s
    | some (k, m) => if !m.node && s.cmdHeld m.tag then s else s.modCopy c ch k (fun m => { m with run := true }))

/-- A read of a side at address `a`. -/
def State.sideRead (s : State) (m : CopyCmd) (a n : Nat) : Io (List Byte) :=
  if descSk m.words then
    match s.task? (dieOfCtx m.tag.g) m.tag.u with
    | none => .ok []
    | some t => s.cmdSpad t a n
  else s.cmdRead m.tag a n

/-- A write of a side at address `a`. -/
def State.sideWrite (s : State) (m : CopyCmd) (a : Nat) (bs : List Byte) : Io State :=
  if descDk m.words then
    match s.task? (dieOfCtx m.tag.g) m.tag.u with
    | none => .ok s
    | some t => .ok (s.spadWrite t.onCore t a bs)
  else s.cmdWrite m.tag a bs

/-- A geometry with tile32 taken as plain (R223). -/
def plainGeo (g : Nat) : Nat := if g = 3 then 0 else g

/-- The format of the element at an address of a side: its own, or that of the leaf of the page that holds it (R223). A raw page, or one whose
geometry its format does not allow, is not supported; nor is one that lays its elements out otherwise than the side's first page. -/
def State.sideFmt (s : State) (m : CopyCmd) (x scratch : Bool) (a f g : Nat) : Io Nat :=
  if x || scratch then .ok f
  else match s.leafEntry (dieOfCtx m.tag.g) a with
    | none => .ok f
    | some e =>
      let f' := leafFmt e
      if (fmtOf f').isNone then .ok f
      else if f' == 0 || !geoOk f' (leafGeo e) || plainGeo (leafGeo e) != plainGeo g || codeSize f' != codeSize f then .fail 4 (a / 32 * 32) none
      else .ok f'

/-- The format, the code and the block scale of source element k of a cpyc. -/
def State.convSource (s : State) (m : CopyCmd) (k : Nat) : Io (Nat × Nat × Nat) :=
  let sz := codeSize m.sfmt
  let (a, sc) :=
    if m.sgeo = 1 then (interAddr m.sbase (k / 32) + k % 32, some (interAddr m.sbase (k / 32) + 32))
    else if m.sgeo = 2 then (m.sbase + k, some (scaleIA (m.sbase + k) m.ssd))
    else (m.sbase + k * sz, none)
  (s.sideFmt m (descSx m.words) (descSk m.words) a m.sfmt m.sgeo).bind (fun f => (s.sideRead m a sz).bind (fun bs => match sc with
    | none => .ok (f, ofBytes bs, 128)
    | some p => (s.sideRead m p 1).bind (fun ss => .ok (f, ofBytes bs, ofBytes ss))))

/-- The value of a source element (R91). -/
def convValue (m : CopyCmd) (x : Nat × Nat × Nat) : XReal :=
  let f := (fmtOf x.1).getD .raw
  if isMX m.sgeo then mxValue f x.2.1 x.2.2 else f.decode x.2.1

/-- The elements from k on, up to n of them, that lie in one block of the source: one where it has none (R93). -/
def CopyCmd.blockLeft (m : CopyCmd) (k n : Nat) : Nat :=
  if m.sgeo = 1 then Nat.min n (32 - k % 32) else if m.sgeo = 2 then Nat.min n (32 - (m.sbase + k) % 32) else 1

def CopyCmd.coin (m : CopyCmd) (k : Nat) : Nat := if descRnd m.words = 4 then Machine.coin m.tag.seed.toNat (m.tag.draw + k) else 0

/-- The source elements from k on, n of them. -/
def State.convSources (s : State) (m : CopyCmd) : Nat → Nat → Io (List (Nat × Nat × Nat))
  | _, 0 => .ok []
  | k, n + 1 => (s.convSource m k).bind (fun x => (s.convSources m (k + 1) n).bind (fun xs => .ok (x :: xs)))

/-- The source elements from k on, at least n of them: those read before, and the rest by whole blocks of the source, each read as one unit (R93). -/
def State.convAhead (s : State) (m : CopyCmd) (k n : Nat) : Nat → List (Nat × Nat × Nat) → Io (List (Nat × Nat × Nat))
  | 0, xs => .ok xs
  | f + 1, xs =>
    if n ≤ xs.length then .ok xs
    else (s.convSources m (k + xs.length) (m.blockLeft (k + xs.length) (descLen m.words - (k + xs.length)))).bind (fun ys => s.convAhead m k n f (xs ++ ys))

/-- What a unit of a copy gives: the units and the bytes it is, the source elements that are left over, and the state with it written. -/
structure Copied where
  units : Nat
  bytes : Nat
  ahead : List (Nat × Nat × Nat)
  state : State

/-- Elements written to a plain destination from element j on, up to the first that cannot be written (R223, R224); their bits are copied when the
format codes of both sides are one, whatever the geometry (log 105). -/
def State.convPlain (s : State) (m : CopyCmd) : Nat → List (Nat × Nat × Nat) → Io Copied
  | _, [] => .ok ⟨0, 0, [], s⟩
  | j, x :: xs =>
    let a := m.dbase + j * codeSize m.dfmt
    match (s.sideFmt m (descDx m.words) (descDk m.words) a m.dfmt m.dgeo).bind (fun f =>
      let t := (fmtOf f).getD .raw
      let code := if x.1 = f then x.2.1 else t.enc (convValue m x) (descRnd m.words) (descOvf m.words) (m.coin j)
      s.sideWrite m a (bytesOf t.size code)) with
    | .ok s => (match s.convPlain m (j + 1) xs with
      | .ok u => .ok ⟨u.units + 1, u.bytes + codeSize m.dfmt, u.ahead, u.state⟩
      | _ => .ok ⟨1, codeSize m.dfmt, xs, s⟩)
    | .wait n => .wait n
    | .fail sb at_ u => .fail sb at_ u

/-- An MX block as it stands at the destination, decoded by the format f (R91): of an mx.apart destination, a block of which a copy writes a part. -/
def State.destBlock (s : State) (m : CopyCmd) (a f : Nat) : Io (List XReal) :=
  (s.cmdRead m.tag a 32).bind (fun bs => (s.cmdRead m.tag (scaleIA a m.dsd) 1).bind (fun ss =>
    .ok (bs.map (fun b => mxValue ((fmtOf f).getD .raw) b.toNat (ofBytes ss)))))

/-- A block of an MX destination written with its scale (R92, R93, R95). -/
def State.writeBlock (s : State) (m : CopyCmd) (j a : Nat) (sc : Nat) (es : List Nat) : Io State :=
  let bs : List Byte := es.map (fun x => BitVec.ofNat 8 x)
  let sb : Byte := BitVec.ofNat 8 sc
  if m.dgeo = 1 then s.sideWrite m a (bs ++ [sb] ++ (if interLast m.dbase j then [0] else []))
  else (s.sideWrite m a bs).bind (fun s => s.sideWrite m (scaleIA a m.dsd) [sb])

/-- Block j of an MX destination from its elements (R92, R223). -/
def State.convBlock (s : State) (m : CopyCmd) (j : Nat) : Io Copied :=
  let rnd := descRnd m.words
  let ovf := descOvf m.words
  let r := if m.dgeo = 2 then m.dbase % 32 else 0
  let a := if m.dgeo = 1 then interAddr m.dbase j else m.dbase - r + 32 * j
  let k := 32 * j - r
  let n := Nat.min (32 * (j + 1) - r) (descLen m.words) - k
  let lead := if j = 0 then r else 0
  (s.sideFmt m (descDx m.words) (descDk m.words) a m.dfmt m.dgeo).bind (fun f => (s.convAhead m k n 33 m.ahead).bind (fun xs =>
    (if n = 32 then .ok [] else s.destBlock m a f).bind (fun old =>
      let vs := old.take lead ++ (xs.take n).map (convValue m) ++ old.drop (lead + n)
      let (sc, es) := mxEncode ((fmtOf f).getD .raw) vs rnd ovf (List.replicate lead 0 ++ (upFrom k n).map m.coin ++ List.replicate (32 - lead - n) 0)
      (s.writeBlock m j a sc es).bind (fun s => .ok ⟨1, n + (if j < descLen m.words / 32 then 1 else 0), xs.drop n, s⟩))))

/-- The units of a cpyc from j on that are written at once: a block of an MX destination, an mx.apart one that does not begin at a block among them
(log 96); of a plain one, the elements that lie in one block of the source, which is read as one unit (R93, R223). -/
def State.convUnit (s : State) (m : CopyCmd) (j : Nat) : Io Copied :=
  if isMX m.dgeo then s.convBlock m j else (s.convAhead m j 1 1 m.ahead).bind (fun xs => s.convPlain m j xs)

/-- The offset of element `pos` of a cpyt on a side. -/
def dimOffset (ws : List W64) (dst : Bool) : List Nat → Nat → Int
  | [], _ => 0
  | k :: ks, pos => ((pos % dimCount ws k : Nat) : Int) * dimStride ws k dst + dimOffset ws dst ks (pos / dimCount ws k)

/-- The rows of a source block of a cpyx. -/
def State.blockRows (s : State) (m : CopyCmd) (a n : Nat) : Nat → Nat → Io (List (List Byte))
  | _, 0 => .ok []
  | i, k + 1 => (s.sideRead m (a + i * descSpitch m.words) n).bind (fun r => (s.blockRows m a n (i + 1) k).bind (fun rs => .ok (r :: rs)))

/-- The columns of a block written as rows. -/
def State.blockCols (s : State) (m : CopyCmd) (a e : Nat) (rows : List (List Byte)) : Nat → Nat → Io State
  | _, 0 => .ok s
  | j, k + 1 =>
    let bs := (rows.map (fun r => (r.drop (j * e)).take e)).flatten
    (s.sideWrite m (a + j * descDpitch m.words) bs).bind (fun s => s.blockCols m a e rows (j + 1) k)

/-- The next unit of a command (R220 to R223). -/
def State.copyUnit (s : State) (m : CopyCmd) : Io Copied :=
  let ws := m.words
  match descKind ws with
  | 1 =>
    let sa := m.sbase + m.pos
    let da := m.dbase + m.pos
    let n := Nat.min (descLen ws - m.pos) (Nat.min (32 - sa % 32) (32 - da % 32))
    (s.sideRead m sa n).bind (fun bs => (s.sideWrite m da bs).bind (fun s => .ok ⟨n, n, [], s⟩))
  | 2 =>
    let ks := upFrom 0 (descDims ws)
    let sa := ((m.sbase : Int) + dimOffset ws false ks m.pos).toNat
    let da := ((m.dbase : Int) + dimOffset ws true ks m.pos).toNat
    (s.sideRead m sa (descTesz ws)).bind (fun bs => (s.sideWrite m da bs).bind (fun s => .ok ⟨1, descTesz ws, [], s⟩))
  | 3 =>
    let e := descXesz ws
    let bc := descCols ws / 32
    let (bi, bj) := (m.pos / bc, m.pos % bc)
    (s.blockRows m (m.sbase + 32 * bi * descSpitch ws + 32 * bj * e) (32 * e) 0 32).bind (fun rows =>
      (s.blockCols m (m.dbase + 32 * bj * descDpitch ws + 32 * bi * e) e rows 0 32).bind (fun s => .ok ⟨1, 1024 * e, [], s⟩))
  | _ => s.convUnit m m.pos

/-- A command's writes wait for those of an earlier command of the channel that may reach the same bytes, scales apart among them (R219, R228). -/
def copyBehind (x : Channel) (k : Nat) (m : CopyCmd) : Bool :=
  x.cmds.any (fun q => decide (q.1 < k) && descDk q.2.words == descDk m.words && (!descDk m.words || q.2.tag.u == m.tag.u) &&
    decide (q.2.dlo < m.dlo + m.dlen) && decide (m.dlo < q.2.dlo + q.2.dlen))

/-- Every unit has been written. -/
def CopyCmd.done (m : CopyCmd) : Bool := decide (copyUnits (descKind m.words) m.words m.dgeo m.dbase ≤ m.pos)

/-- A unit has been written and acknowledged, with every earlier one: its bytes are credited (R224). -/
def execCopyUnitCredit (c ch k : Nat) (s : State) : Host.Outcome State Fault Refusal :=
  onUnit (coreOk c && decide (ch < 3)) (match find? k (s.channel c ch).cmds with
    | none => s
    | some m =>
      if !m.run || m.fault.isSome || m.done || copyBehind (s.channel c ch) k m then s
      else match s.copyUnit m with
        | .ok u => (u.state.modCopy c ch k (fun m => { m with pos := m.pos + u.units, ahead := u.ahead, cred := m.cred + u.bytes })).credit m.tag u.bytes
        | .wait n => s.meet n
        | .fail _ _ _ => s)

/-- What a copy writes (R34). -/
def CopyCmd.writes (m : CopyCmd) : Writes := if descDk m.words then ⟨[], [(m.dlo, m.dlen)], []⟩ else ⟨[], [], [(m.dlo, m.dlen)]⟩

/-- The next unit faults: the fault is recorded and becomes pending as 0x11 (R214, R225). -/
def execCopyFault (c ch k : Nat) (s : State) : Host.Outcome State Fault Refusal :=
  onUnit (coreOk c && decide (ch < 3)) (match find? k (s.channel c ch).cmds with
    | none => s
    | some m =>
      if !m.run || m.fault.isSome || m.done || copyBehind (s.channel c ch) k m then s
      else match s.copyUnit m with
        | .fail sb at_ used =>
          let s := s.use used
          let x := s.channel c ch
          let x := if x.flt then { x with fcnt := if x.fcnt = 7 then 7 else x.fcnt + 1 }
            else { x with flt := true, sub := sb, fctx := m.tag.g % 4, fh := m.tag.h, off := m.cred }
          let s := (s.setChannel c ch x).modCopy c ch k (fun m => { m with fault := some (sb, at_) })
          if m.node then s else s.deferFault m.tag 0x11 (info11 sb ch m.tag.h at_) m.writes
        | _ => s)

/-- A node ends: its action has completed or failed (R118). -/
def State.endNode (s : State) (d u : Nat) (ok : Bool) : State :=
  s.modTask d u (fun t => { t with stop := some (if ok then .ended else .faulted 6) })

/-- A command leaves the queue: its status goes to l5 (R213, R224); a copy node's command ends the node (R230). -/
def execCopyCommandLeave (c ch k : Nat) (s : State) : Host.Outcome State Fault Refusal :=
  onUnit (coreOk c && decide (ch < 3)) (match find? k (s.channel c ch).cmds with
    | none => s
    | some m =>
      if !m.run || (m.fault.isNone && !m.done) then s
      else
        let x := s.channel c ch
        let s := s.setChannel c ch { x with cmds := del k x.cmds }
        if m.node then s.endNode (dieOfCore c) m.tag.u m.fault.isNone
        else match m.fault with
          | none => s.reportL5 m.tag (m.cred % 2 ^ 41)
          | some (sb, _) => s.reportL5 m.tag (2 ^ 63 + sb * 2 ^ 53 + m.cred % 2 ^ 41))

end Sys2Proof.Machine
end

