-- ==== Sys2Proof/Machine/Flags.lean ====
section
/-! DEFINITION. Conditions: the integer and floating-point condition codes (R63), the conditions of a floating-point compare (R172), and
fpstat (R147). -/

namespace Sys2Proof.Machine

/-- The condition of cmp on two 64-bit values (R63). -/
def cmpHolds (cc : Nat) (a b : W64) : Bool :=
  match cc with
  | 0 => a == b
  | 1 => a != b
  | 2 => decide (a.toInt < b.toInt)
  | 3 => decide (a.toInt ≤ b.toInt)
  | 4 => decide (b.toInt < a.toInt)
  | 5 => decide (b.toInt ≤ a.toInt)
  | 6 => decide (a.toNat < b.toNat)
  | 7 => decide (a.toNat ≤ b.toNat)
  | 8 => decide (b.toNat < a.toNat)
  | _ => decide (b.toNat ≤ a.toNat)

/-- The condition of fcmp and vcmp on two values (R63, R251). -/
def fcmpHolds (cc : Nat) (x y : XReal) : Bool :=
  match x.cmp? y with
  | none => cc == 1 || cc == 6
  | some o =>
    match cc with
    | 0 => o == .eq
    | 1 => o != .eq
    | 2 => o == .lt
    | 3 => o != .gt
    | 4 => o == .gt
    | 5 => o != .lt
    | 6 => false
    | _ => true

/-- fcmp sets invalid for lt, le, gt and ge when an operand is NaN (R172). -/
def fcmpCond (cc : Nat) (x y : XReal) : Cond :=
  { nv := (x.isNan || y.isNan) && (cc == 2 || cc == 3 || cc == 4 || cc == 5) }

/-- fpstat with conditions ORed in (R147); its other bits read 0. -/
def orFpstat (f : W64) (c : Cond) : W64 := w64 (bits (f ||| w64 c.bits) 4 0)

/-- Conditions raised by a scalar unit: they are ORed into fpstat and kept for a sysw of the same bundle (R147). -/
def State.raiseCond (s : State) (c : Cond) : State :=
  let s := s.modMe (fun x => { x with fpstat := orFpstat x.fpstat c })
  if s.bun.on then s.modBun (fun f => { f with conds := f.conds ||| c.bits }) else s

end Sys2Proof.Machine
end

