-- ==== Sys2Proof/Machine/Funcs.lean ====
section
/-! DEFINITION. The function ops of the vector unit (R254), the estimates (R255) and the refinements (R256).

A transcendental value is computed in fixed point with `fxBits` fractional bits and handed on as a dyadic with a sticky bit, so that
its rounding is that of the exact value (log 8). Where f32 results are only faithful, the choice between the two neighbours is
free: `Config.faithfulUp`. -/

namespace Sys2Proof.Machine

/-- Fractional bits of the fixed-point values. -/
def fxBits : Nat := 512

def fxOne : Nat := 2 ^ fxBits

/-- The fixed-point value of m * 2^e, rounded down. -/
def fxOf (m : Nat) (e : Int) : Nat :=
  let k := e + fxBits
  if 0 ≤ k then m * 2 ^ k.toNat else m / 2 ^ (-k).toNat

def fxMul (a b : Nat) : Nat := a * b / fxOne

/-- The sum of t, t * r / 1, t * r^2 / 2!, ... from term number `i` on. -/
def fxExpGo : Nat → Nat → Nat → Nat → Nat
  | 0, _, _, _ => 0
  | k + 1, i, t, r => t + fxExpGo k (i + 1) (fxMul t r / (i + 1)) r

/-- e^r for r in [0, 1). -/
def fxExp1 (r : Nat) : Nat := fxExpGo 120 0 fxOne r

/-- The sum of z^(2k+1) / (2k+1) from term number `i` on, `p` being z^(2i+1). -/
def fxAtanhGo : Nat → Nat → Nat → Nat → Nat
  | 0, _, _, _ => 0
  | k + 1, i, p, z2 => p / (2 * i + 1) + fxAtanhGo k (i + 1) (fxMul p z2) z2

/-- atanh z for z in [0, 1/3]. -/
def fxAtanh (z : Nat) : Nat := fxAtanhGo 180 0 z (fxMul z z)

def fxLn2 : Nat := 2 * fxAtanh (fxOne / 3)

/-- The alternating sum of arctan(1/n). -/
def fxAtanGo : Nat → Nat → Nat → Nat → Int
  | 0, _, _, _ => 0
  | k + 1, i, p, n2 => ((p / (2 * i + 1) : Nat) : Int) - fxAtanGo k (i + 1) (p / n2) n2

def fxPi : Nat := (16 * fxAtanGo 130 0 (fxOne / 5) 25 - 4 * fxAtanGo 60 0 (fxOne / 239) 57121).toNat

/-- 1 / sqrt(2 pi). -/
def fxGauss : Nat := fxOne * fxOne / isqrt (2 * fxPi * fxOne)

/-- e^-a for a fixed-point a, at least one unit. -/
def fxExpNeg (a : Nat) : Nat :=
  let k := a / fxLn2 + 1
  let v := if fxBits + 8 < k then 0 else fxExp1 (k * fxLn2 - a) / 2 ^ k
  if v = 0 then 1 else v

/-- A positive dyadic v * 2^(e - fxBits) that is not exact. -/
def fxReal (neg : Bool) (v : Nat) (e : Int) : XReal := .fin neg (2 * v + 1) (e - fxBits - 1)

/-- e^x for a finite x that is not zero. -/
def expReal (neg : Bool) (m : Nat) (e : Int) : XReal :=
  if 12 < flog2 m e then (if neg then fxReal false 1 (-4096) else fxReal false 1 8192)
  else
    let a := fxOf m e
    if neg then
      let k := a / fxLn2 + 1
      fxReal false (fxExp1 (k * fxLn2 - a)) (-(k : Int))
    else
      let k := a / fxLn2
      fxReal false (fxExp1 (a - k * fxLn2)) k

/-- ln x for x = m * 2^e, positive and not 1. -/
def lnReal (m : Nat) (e : Int) : XReal :=
  let l := Nat.log2 m
  let a := fxOf m (-(l : Int))
  let v : Int := ((2 * fxAtanh ((a - fxOne) * fxOne / (a + fxOne)) : Nat) : Int) + (e + l) * (fxLn2 : Int)
  .fin (decide (v < 0)) (2 * v.natAbs + 1) (-(fxBits : Int) - 1)

/-- A magnitude in fixed point, at most 2^12. -/
def fxCap (m : Nat) (e : Int) : Nat := if 12 < flog2 m e then 4096 * fxOne else fxOf m e

/-- tanh x for a finite x that is not zero. -/
def tanhReal (neg : Bool) (m : Nat) (e : Int) : XReal :=
  let q := fxExpNeg (2 * fxCap m e)
  fxReal neg ((fxOne - q) * fxOne / (fxOne + q)) 0

/-- 1 / (1 + e^-x) in fixed point. -/
def fxSig (neg : Bool) (m : Nat) (e : Int) : Nat :=
  let q := fxExpNeg (fxCap m e)
  if neg then q * fxOne / (fxOne + q) else fxOne * fxOne / (fxOne + q)

/-- The terms x^(2k+1) / (1 * 3 * ... * (2k+1)) from term number `i` on. -/
def fxPhiGo : Nat → Nat → Nat → Nat → Nat
  | 0, _, _, _ => 0
  | k + 1, i, t, x2 => t + fxPhiGo k (i + 1) (fxMul t x2 / (2 * i + 3)) x2

/-- The distribution function of the standard normal distribution in fixed point. -/
def fxPhi (neg : Bool) (m : Nat) (e : Int) : Nat :=
  if 4 < flog2 m e + 1 then (if neg then 1 else fxOne - 1)
  else
    let x := fxOf m e
    let x2 := fxMul x x
    let h := fxMul fxGauss (fxMul (fxExpNeg (x2 / 2)) (fxPhiGo 700 0 x x2))
    if neg then fxOne / 2 - h else fxOne / 2 + h

/-- A fixed-point value times ± m * 2^e. -/
def fxTimes (neg : Bool) (m : Nat) (e : Int) (v : Nat) : XReal := .fin neg ((2 * v + 1) * m) (e - fxBits - 1)

/-- 1 / sqrt(x) for x = m * 2^e, positive: to many bits, with a sticky bit. -/
def rsqrtReal (m : Nat) (e : Int) : XReal :=
  let (m, e) := if e % 2 = 0 then (m, e) else (2 * m, e - 1)
  let k := Nat.log2 m + 90
  let r := isqrt (2 ^ (2 * k) / m)
  .fin false (2 * r + (if r * r * m = 2 ^ (2 * k) then 0 else 1)) (-(e / 2) - k - 1)

/-- The nine function ops (R254). -/
inductive VFun where
  | exp | log | tanh | sig | gelu | silu | rsqrt | sqrt | rcp
deriving DecidableEq, Repr

/-- The number of a function op. -/
def VFun.num : VFun → Nat
  | .exp => 1 | .log => 2 | .tanh => 3 | .sig => 4 | .gelu => 5 | .silu => 6 | .rsqrt => 7 | .sqrt => 8 | .rcp => 9

/-- F(x) with the special values of R254. -/
def VFun.eval (f : VFun) (x : XReal) : XReal :=
  let one : XReal := .fin false 1 0
  let half : XReal := .fin false 1 (-1)
  match f, x with
  | _, .nan => .nan
  | .exp, .inf n => if n then .zero else .inf false
  | .exp, .fin n m e => if m = 0 then one else expReal n m e
  | .log, .inf n => if n then .nan else .inf false
  | .log, .fin n m e =>
    if m = 0 then .inf true else if n then .nan else if m = 2 ^ Nat.log2 m && flog2 m e = 0 then .zero else lnReal m e
  | .tanh, .inf n => .fin n 1 0
  | .tanh, .fin n m e => if m = 0 then .fin n 0 0 else tanhReal n m e
  | .sig, .inf n => if n then .zero else one
  | .sig, .fin n m e => if m = 0 then half else fxReal false (fxSig n m e) 0
  | .gelu, .inf n => if n then .fin true 0 0 else .inf false
  | .gelu, .fin n m e => if m = 0 then .fin n 0 0 else fxTimes n m e (fxPhi n m e)
  | .silu, .inf n => if n then .fin true 0 0 else .inf false
  | .silu, .fin n m e => if m = 0 then .fin n 0 0 else fxTimes n m e (fxSig n m e)
  | .rsqrt, .inf n => if n then .nan else .zero
  | .rsqrt, .fin n m e => if m = 0 then .inf n else if n then .nan else rsqrtReal m e
  | .sqrt, y => y.sqrt
  | .rcp, y => one.div y

/-- The function is only faithful on f32 (R254). -/
def VFun.faithful : VFun → Bool
  | .sqrt => false
  | .rcp => false
  | _ => true

/-- A faithful f32 result (R254): exact when the value is an f32 value, an infinity when its magnitude exceeds the largest finite f32, and
otherwise one of the two neighbours, by a free choice that is a fixed function of the operand. -/
def faithfulF32 (op code : Nat) (x : XReal) : Nat :=
  match x with
  | .fin n m e =>
    let (lo, exact) := f32Fmt.place n m e 1 0
    if exact then f32Fmt.code n lo
    else if f32Fmt.top ≤ lo then f32Fmt.infCode n
    else f32Fmt.code n (if Config.faithfulUp op code then lo + 1 else lo)
  | y => encF32 y

/-- The lane a function op writes for the operand `code` (R254). -/
def VFun.lane (f : VFun) (g : FloatFmt) (code : Nat) : Nat :=
  let y := f.eval (g.decode code)
  if g.width = 32 && f.faithful then faithfulF32 f.num code y else (g.encode y 0 true 0).1

/-- A value rounded to 8 significant bits, the exponent unbounded, ties to even (R255). -/
def round8 (x : XReal) : XReal :=
  match x with
  | .fin n m e =>
    if m = 0 then x
    else
      let u := flog2 m e - 7
      let s := scaleTo m e u
      .fin n (if roundsUp s (s.n % 2 == 1) n 0 0 then s.n + 1 else s.n) u
  | y => y

/-- vrcpe and vrsqe (R255). -/
def rcpEstimate (x : XReal) : XReal := round8 ((XReal.fin false 1 0).div x)
def rsqrtEstimate (x : XReal) : XReal := round8 (VFun.rsqrt.eval x)

/-- One Newton step of vrcpn and vrsqn in exact extended reals (R256), y finite and not zero. -/
def rcpStep (x y : XReal) : XReal := y.add 0 (y.mul ((XReal.fin false 1 0).sub 0 (x.mul y)))
def rsqrtStep (x y : XReal) : XReal := y.add 0 ((y.scale (-1)).mul ((XReal.fin false 1 0).sub 0 ((x.mul y).mul y)))

end Sys2Proof.Machine
end

