-- ==== Sys2Proof/Machine/Vector.lean ====
section
/-! DEFINITION. The vector unit: stage gates (R58, R152), masks (R238 to R240), the S4 instructions (R244 to R252), the S5
instructions (R253 to R261). -/

namespace Sys2Proof.Machine

-- Lanes and masks -------------------------------------------------------------------------------------------------------------

/-- The format of the bound tile's elements, its lane size and its lane count (R233). -/
def Ctx.laneFmt (c : Ctx) : Fmt := (fmtOf c.laneType).getD (.int 8 false)

def Fmt.isFloat : Fmt → Bool
  | .flt _ => true
  | _ => false

/-- The types of the function ops: f32, bf16 and f16 (R241). -/
def Fmt.isWide : Fmt → Bool
  | .flt f => decide (16 ≤ f.width)
  | _ => false

/-- Mask register k, 1 to 7 (R238). -/
def Ctx.maskReg (c : Ctx) (k : Nat) : W512 := getD k 0 c.masks

/-- All lanes enabled. -/
def allLanes : W512 := BitVec.allOnes 512

/-- The mask that a lane-mask field selects (R57). -/
def Ctx.laneMask (c : Ctx) (k : Nat) : W512 :=
  if k = 0 then allLanes else if k = 7 then c.mstack.headD allLanes else c.maskReg k

/-- Lane k is enabled. -/
def enabled (m : W512) (k : Nat) : Bool := bitN m.toNat k

/-- Some of the first n lanes is enabled, and all of them are. -/
def someLane (m : W512) (n : Nat) : Bool := m.toNat % 2 ^ n != 0
def everyLane (m : W512) (n : Nat) : Bool := m.toNat % 2 ^ n == 2 ^ n - 1

/-- A mask made of truth values, lane 0 first. -/
def maskOf (bs : List Bool) : W512 := BitVec.ofNat 512 (ofBits bs)
where
  ofBits : List Bool → Nat
    | [] => 0
    | b :: bs => b2n b + 2 * ofBits bs

/-- A vector instruction: its type is accepted (R234, R241), its stage gate is within its limits and live (R58, R152). -/
def State.vec (s : State) (g : BitVec 2) (ok : Bool) (k : State) : State :=
  if !ok then s.undefinedEncoding
  else if s.pre.gateBad g.toNat then s.raise 2 s.slotInfo
  else if s.pre.gateLive g.toNat then k
  else s

/-- Operand b: a row or a scalar broadcast to all lanes (R252). -/
inductive Opnd where
  | row (k : BitVec 7)
  | scalar (x : BitVec 7)

/-- Continue with the lanes of an operand; a row's poison is raised when it is read (R240). -/
def State.withLanes (s : State) (o : Opnd) (e n : Nat) (reads : Bool) (k : List Nat → State) : State :=
  match o with
  | .row r => s.withRow r.toNat reads (fun v => k (rowLanes e n v))
  | .scalar x => s.withSource x (fun v => k (List.replicate n (v.toNat % 2 ^ (8 * e))))

/-- The vector registers and the scalar sources of an operand. -/
def Opnd.rows : Opnd → List Nat
  | .row r => [r.toNat]
  | .scalar _ => []
def Opnd.srcs : Opnd → List (BitVec 7)
  | .row _ => []
  | .scalar x => [x]

/-- A mask-stack instruction: a stack it cannot use is an undefined encoding, found before the stage gate (R46, R47, R261). -/
def State.vecStack (s : State) (g : BitVec 2) (bad : Bool) (k : State) : State :=
  if bad && (s.pre.gateBad g.toNat || s.pre.gateLive g.toNat) then s.undefinedEncoding else s.vec g true k

/-- The lanes `new` where the mask enables them, and `old` elsewhere (R240). -/
def mergeLanes (m : W512) (old new : List Nat) : List Nat :=
  ((old.zip new).zip (upFrom 0 new.length)).map (fun p => if enabled m p.2 then p.1.2 else p.1.1)

/-- Lanes of e bytes written to vector register d under a mask (R236, R240). -/
def State.writeLanes (s : State) (d : BitVec 7) (e n : Nat) (m : W512) (new : List Nat) : State :=
  s.withRowDest d.toNat (fun r =>
    let old := rowLanes e n (getD r 0 s.preRows)
    s.writeRow r (BitVec.ofNat 4096 (ofLanes e (mergeLanes m old new))) (everyLane m n))

/-- A lane-wise instruction of one operand: `f` of the lane number and the operand's lane. -/
def State.vec1 (s : State) (k : BitVec 3) (g : BitVec 2) (d a : BitVec 7) (ok : Fmt → Bool) (f : Fmt → Nat → Nat → Nat) : State :=
  let t := s.pre.laneFmt
  let n := 512 / t.size
  let m := s.pre.laneMask k.toNat
  s.vec g (s.pre.bound && ok t) (s.settled [a.toNat] [d.toNat] [] (s.withRow a.toNat (someLane m n) (fun ra =>
    s.writeLanes d t.size n m (((rowLanes t.size n ra).zip (upFrom 0 n)).map (fun p => f t p.2 p.1)))))

/-- A lane-wise instruction of two operands: `f` of the lane number and the operands' lanes. With `draws`, it rounds by vbind and takes a
draw of n values on a float type under rs (R242). -/
def State.vec2 (s : State) (k : BitVec 3) (g : BitVec 2) (d a : BitVec 7) (b : Opnd) (ok : Fmt → Bool) (draws : Bool)
    (f : Fmt → Nat → Nat → Nat → Nat) : State :=
  let t := s.pre.laneFmt
  let n := 512 / t.size
  let m := s.pre.laneMask k.toNat
  s.vec g (s.pre.bound && ok t) (s.settled (a.toNat :: b.rows) [d.toNat] b.srcs (s.withRow a.toNat (someLane m n) (fun ra => s.withLanes b t.size n (someLane m n) (fun lb =>
    let rs := draws && t.isFloat && s.pre.vecRnd == 4
    let (start, s) := s.draw (if rs then 4 else 0) n
    s.writeLanes d t.size n m (((rowLanes t.size n ra).zip (lb.zip (upFrom 0 n))).map (fun p =>
      f t (if rs then coin s.pre.seed.toNat (start + p.2.2) else 0) p.1 p.2.1))))))

def anyFmt (_ : Fmt) : Bool := true

/-- The lesser and the greater of two values, -0 below +0 (R247). -/
def XReal.below (x y : XReal) : Bool := x.lt y || (x.eqv y && x.neg? && !y.neg?)
def minX (x y : XReal) : XReal := if y.below x then y else x
def maxX (x y : XReal) : XReal := if x.below y then y else x

-- S4 --------------------------------------------------------------------------------------------------------------------------

/-- vadd, vsub and vmul of a lane (R245, R246); `op` is 0, 1 or 2. -/
def arithLane (op rnd : Nat) (ovf : Bool) (t : Fmt) (c a b : Nat) : Nat :=
  match t with
  | .flt f => (match op with | 0 => f.addOp a b rnd ovf c | 1 => f.subOp a b rnd ovf c | _ => f.mulOp a b rnd ovf c).1
  | _ =>
    let w := t.width
    match op with
    | 0 => (a + b) % 2 ^ w
    | 1 => wrapN w ((a : Int) - (b : Int))
    | _ => a * b % 2 ^ w

def State.vArith (s : State) (op : Nat) (k : BitVec 3) (g : BitVec 2) (d a : BitVec 7) (b : Opnd) : State :=
  s.vec2 k g d a b anyFmt true (arithLane op s.pre.vecRnd s.pre.vecOvf)

/-- vfma (z + x y) and vfms (z - x y) of a lane of a float type (R245). -/
def fmaLane (sub : Bool) (f : FloatFmt) (rnd : Nat) (ovf : Bool) (c a b d : Nat) : Nat :=
  let (x, y, z) := (f.decode a, f.decode b, f.decode d)
  let p := x.mul y
  (f.result [x, y, z] (z.add rnd (if sub then p.negate else p)) rnd ovf c).1

/-- The packed dot of a group of 4 bytes (R250): `w` bits a lane. -/
def dotGroup (sub : Bool) (w : Nat) (sg : Bool) (a b d : Nat) : Nat :=
  let v := fun (x j : Nat) => if sg then signedN w (x / 2 ^ (w * j)) else ((x / 2 ^ (w * j) % 2 ^ w : Nat) : Int)
  let p := ((upFrom 0 (32 / w)).map (fun j => v a j * v b j)).foldl (· + ·) 0
  let acc : Int := if sg then signedN 32 d else (d : Int)
  wrapN 32 (satI 32 sg (if sub then acc - p else acc + p))

def State.vFma (s : State) (sub : Bool) (k : BitVec 3) (g : BitVec 2) (d a : BitVec 7) (b : Opnd) : State :=
  let t := s.pre.laneFmt
  let m := s.pre.laneMask k.toNat
  match t with
  | .flt f =>
    let n := 512 / t.size
    let on := someLane m n
    s.vec g s.pre.bound (s.settled (a.toNat :: d.toNat :: b.rows) [d.toNat] b.srcs (s.withRow a.toNat on (fun ra => s.withLanes b t.size n on (fun lb => s.withRow d.toNat on (fun rd =>
      let rs := s.pre.vecRnd == 4
      let (start, s) := s.draw (if rs then 4 else 0) n
      s.writeLanes d t.size n m (((rowLanes t.size n ra).zip (lb.zip ((rowLanes t.size n rd).zip (upFrom 0 n)))).map (fun p =>
        fmaLane sub f s.pre.vecRnd s.pre.vecOvf (if rs then coin s.pre.seed.toNat (start + p.2.2.2) else 0) p.1 p.2.1 p.2.2.1)))))))
  | _ =>
    let sg := match t with | .int _ x => x | _ => false
    let on := someLane m 128
    s.vec g s.pre.bound (s.settled (a.toNat :: d.toNat :: b.rows) [d.toNat] b.srcs (s.withRow a.toNat on (fun ra => s.withLanes b 4 128 on (fun lb => s.withRow d.toNat on (fun rd =>
      s.writeLanes d 4 128 m (((rowLanes 4 128 ra).zip (lb.zip (rowLanes 4 128 rd))).map (fun p => dotGroup sub t.width sg p.1 p.2.1 p.2.2)))))))

/-- vmin and vmax of a lane (R247). -/
def minmaxLane (greater : Bool) (t : Fmt) (_c a b : Nat) : Nat :=
  let (x, y) := (t.decode a, t.decode b)
  if x.isNan || y.isNan then t.enc .nan 0 true else if greater then (if x.below y then b else a) else (if y.below x then b else a)

/-- vabs and vneg of a lane (R247). -/
def signLane (neg : Bool) (t : Fmt) (_k a : Nat) : Nat :=
  match t with
  | .flt _ => let x := t.decode a; t.enc (if neg then x.negate else x.absv) 0 true
  | .int w sg =>
    let i : Int := if sg then signedN w a else (a : Int)
    wrapN w (if neg then -i else if i < 0 then -i else i)
  | .raw => a

/-- vclamp of a lane (R248). -/
def clampLane (t : Fmt) (_c a b : Nat) : Nat :=
  let (x, y) := (t.decode a, t.decode b)
  if x.isNan || y.isNan then t.enc .nan 0 true
  else t.enc (minX (maxX x y.absv.negate) y.absv) 0 true

/-- vshl (0), vshr (1) and vsra (2) of a lane (R249). -/
def shiftLane (op : Nat) (t : Fmt) (_c a b : Nat) : Nat :=
  let w := t.width
  match op with
  | 0 => if w ≤ b then 0 else a * 2 ^ b % 2 ^ w
  | 1 => if w ≤ b then 0 else a / 2 ^ b
  | _ => if w ≤ b then (if signedN w a < 0 then 2 ^ w - 1 else 0) else wrapN w (signedN w a / ((2 ^ b : Nat) : Int))

def State.vShift (s : State) (op : Nat) (k : BitVec 3) (g : BitVec 2) (d a : BitVec 7) (b : Opnd) : State :=
  s.vec2 k g d a b (fun t => !t.isFloat) false (shiftLane op)

/-- A mask register written (R238). -/
def State.writeMask (s : State) (k : Nat) (m : W512) : State := s.modMe (fun c => { c with masks := put k m c.masks })

/-- vcmp (R251). -/
def State.vCmp (s : State) (k : BitVec 3) (g : BitVec 2) (c : BitVec 4) (q : BitVec 3) (a : BitVec 7) (b : Opnd) : State :=
  let t := s.pre.laneFmt
  let n := 512 / t.size
  let m := s.pre.laneMask k.toNat
  let on := someLane m n
  s.vec g s.pre.bound (s.settled (a.toNat :: b.rows) [] b.srcs (s.withRow a.toNat on (fun ra => s.withLanes b t.size n on (fun lb =>
    s.writeMask q.toNat (maskOf (((rowLanes t.size n ra).zip (lb.zip (upFrom 0 n))).map (fun p =>
      enabled m p.2.2 && fcmpHolds c.toNat (t.decode p.1) (t.decode p.2.1))))))))

/-- vsel writes every lane (R252); a row that no lane selects is not read. -/
def State.vSel (s : State) (k : BitVec 3) (g : BitVec 2) (d a : BitVec 7) (b : Opnd) : State :=
  let t := s.pre.laneFmt
  let n := 512 / t.size
  let m := s.pre.laneMask k.toNat
  s.vec g s.pre.bound (s.settled (a.toNat :: b.rows) [d.toNat] b.srcs (s.withRow a.toNat (someLane m n) (fun ra => s.withLanes b t.size n (!everyLane m n) (fun lb =>
    s.writeLanes d t.size n allLanes (mergeLanes m lb (rowLanes t.size n ra))))))

def execNopVector0 (s : State) : Host.Outcome State Fault Refusal := .next s
def execVadd (k : BitVec 3) (g : BitVec 2) (d a b : BitVec 7) (s : State) : Host.Outcome State Fault Refusal := .next (s.vArith 0 k g d a (.row b))
def execVsub (k : BitVec 3) (g : BitVec 2) (d a b : BitVec 7) (s : State) : Host.Outcome State Fault Refusal := .next (s.vArith 1 k g d a (.row b))
def execVmul (k : BitVec 3) (g : BitVec 2) (d a b : BitVec 7) (s : State) : Host.Outcome State Fault Refusal := .next (s.vArith 2 k g d a (.row b))
def execVfma (k : BitVec 3) (g : BitVec 2) (d a b : BitVec 7) (s : State) : Host.Outcome State Fault Refusal := .next (s.vFma false k g d a (.row b))
def execVfms (k : BitVec 3) (g : BitVec 2) (d a b : BitVec 7) (s : State) : Host.Outcome State Fault Refusal := .next (s.vFma true k g d a (.row b))
def execVmin (k : BitVec 3) (g : BitVec 2) (d a b : BitVec 7) (s : State) : Host.Outcome State Fault Refusal := .next (s.vec2 k g d a (.row b) anyFmt false (minmaxLane false))
def execVmax (k : BitVec 3) (g : BitVec 2) (d a b : BitVec 7) (s : State) : Host.Outcome State Fault Refusal := .next (s.vec2 k g d a (.row b) anyFmt false (minmaxLane true))
def execVabs (k : BitVec 3) (g : BitVec 2) (d a : BitVec 7) (s : State) : Host.Outcome State Fault Refusal := .next (s.vec1 k g d a anyFmt (signLane false))
def execVneg (k : BitVec 3) (g : BitVec 2) (d a : BitVec 7) (s : State) : Host.Outcome State Fault Refusal := .next (s.vec1 k g d a anyFmt (signLane true))
def execVclamp (k : BitVec 3) (g : BitVec 2) (d a b : BitVec 7) (s : State) : Host.Outcome State Fault Refusal := .next (s.vec2 k g d a (.row b) anyFmt false clampLane)
def execVand (k : BitVec 3) (g : BitVec 2) (d a b : BitVec 7) (s : State) : Host.Outcome State Fault Refusal := .next (s.vec2 k g d a (.row b) anyFmt false (fun _ _ x y => x &&& y))
def execVor (k : BitVec 3) (g : BitVec 2) (d a b : BitVec 7) (s : State) : Host.Outcome State Fault Refusal := .next (s.vec2 k g d a (.row b) anyFmt false (fun _ _ x y => x ||| y))
def execVxor (k : BitVec 3) (g : BitVec 2) (d a b : BitVec 7) (s : State) : Host.Outcome State Fault Refusal := .next (s.vec2 k g d a (.row b) anyFmt false (fun _ _ x y => x ^^^ y))
def execVshl (k : BitVec 3) (g : BitVec 2) (d a b : BitVec 7) (s : State) : Host.Outcome State Fault Refusal := .next (s.vShift 0 k g d a (.row b))
def execVshr (k : BitVec 3) (g : BitVec 2) (d a b : BitVec 7) (s : State) : Host.Outcome State Fault Refusal := .next (s.vShift 1 k g d a (.row b))
def execVsra (k : BitVec 3) (g : BitVec 2) (d a b : BitVec 7) (s : State) : Host.Outcome State Fault Refusal := .next (s.vShift 2 k g d a (.row b))
def execVcmp (k : BitVec 3) (g : BitVec 2) (c : BitVec 4) (q : BitVec 3) (a b : BitVec 7) (s : State) : Host.Outcome State Fault Refusal := .next (s.vCmp k g c q a (.row b))
def execVsel (k : BitVec 3) (g : BitVec 2) (d a b : BitVec 7) (s : State) : Host.Outcome State Fault Refusal := .next (s.vSel k g d a (.row b))
def execVmov (k : BitVec 3) (g : BitVec 2) (d a : BitVec 7) (s : State) : Host.Outcome State Fault Refusal := .next (s.vec1 k g d a anyFmt (fun _ _ x => x))

/-- vbcs (R252). -/
def execVbcs (k : BitVec 3) (g : BitVec 2) (d b : BitVec 7) (s : State) : Host.Outcome State Fault Refusal :=
  .next (
    let t := s.pre.laneFmt
    let n := 512 / t.size
    let m := s.pre.laneMask k.toNat
    s.vec g s.pre.bound (s.settled [] [d.toNat] [b] (s.withLanes (.scalar b) t.size n true (fun lb => s.writeLanes d t.size n m lb))))

/-- vlane (R252). -/
def execVlane (k : BitVec 3) (g : BitVec 2) (d : BitVec 7) (s : State) : Host.Outcome State Fault Refusal :=
  .next (
    let t := s.pre.laneFmt
    let n := 512 / t.size
    let m := s.pre.laneMask k.toNat
    s.vec g s.pre.bound (
      let rs := t.isFloat && s.pre.vecRnd == 4
      let (start, s) := s.draw (if rs then 4 else 0) n
      s.writeLanes d t.size n m ((upFrom 0 n).map (fun (j : Nat) => match t with
        | .flt f => (f.encode (.ofInt (j : Int)) s.pre.vecRnd s.pre.vecOvf (if rs then coin s.pre.seed.toNat (start + j) else 0)).1
        | _ => j % 2 ^ t.width))))

def execVaddS (k : BitVec 3) (g : BitVec 2) (d a b : BitVec 7) (s : State) : Host.Outcome State Fault Refusal := .next (s.vArith 0 k g d a (.scalar b))
def execVsubS (k : BitVec 3) (g : BitVec 2) (d a b : BitVec 7) (s : State) : Host.Outcome State Fault Refusal := .next (s.vArith 1 k g d a (.scalar b))
def execVmulS (k : BitVec 3) (g : BitVec 2) (d a b : BitVec 7) (s : State) : Host.Outcome State Fault Refusal := .next (s.vArith 2 k g d a (.scalar b))
def execVfmaS (k : BitVec 3) (g : BitVec 2) (d a b : BitVec 7) (s : State) : Host.Outcome State Fault Refusal := .next (s.vFma false k g d a (.scalar b))
def execVfmsS (k : BitVec 3) (g : BitVec 2) (d a b : BitVec 7) (s : State) : Host.Outcome State Fault Refusal := .next (s.vFma true k g d a (.scalar b))
def execVminS (k : BitVec 3) (g : BitVec 2) (d a b : BitVec 7) (s : State) : Host.Outcome State Fault Refusal := .next (s.vec2 k g d a (.scalar b) anyFmt false (minmaxLane false))
def execVmaxS (k : BitVec 3) (g : BitVec 2) (d a b : BitVec 7) (s : State) : Host.Outcome State Fault Refusal := .next (s.vec2 k g d a (.scalar b) anyFmt false (minmaxLane true))
def execVclampS (k : BitVec 3) (g : BitVec 2) (d a b : BitVec 7) (s : State) : Host.Outcome State Fault Refusal := .next (s.vec2 k g d a (.scalar b) anyFmt false clampLane)
def execVandS (k : BitVec 3) (g : BitVec 2) (d a b : BitVec 7) (s : State) : Host.Outcome State Fault Refusal := .next (s.vec2 k g d a (.scalar b) anyFmt false (fun _ _ x y => x &&& y))
def execVorS (k : BitVec 3) (g : BitVec 2) (d a b : BitVec 7) (s : State) : Host.Outcome State Fault Refusal := .next (s.vec2 k g d a (.scalar b) anyFmt false (fun _ _ x y => x ||| y))
def execVxorS (k : BitVec 3) (g : BitVec 2) (d a b : BitVec 7) (s : State) : Host.Outcome State Fault Refusal := .next (s.vec2 k g d a (.scalar b) anyFmt false (fun _ _ x y => x ^^^ y))
def execVshlS (k : BitVec 3) (g : BitVec 2) (d a b : BitVec 7) (s : State) : Host.Outcome State Fault Refusal := .next (s.vShift 0 k g d a (.scalar b))
def execVshrS (k : BitVec 3) (g : BitVec 2) (d a b : BitVec 7) (s : State) : Host.Outcome State Fault Refusal := .next (s.vShift 1 k g d a (.scalar b))
def execVsraS (k : BitVec 3) (g : BitVec 2) (d a b : BitVec 7) (s : State) : Host.Outcome State Fault Refusal := .next (s.vShift 2 k g d a (.scalar b))
def execVcmpS (k : BitVec 3) (g : BitVec 2) (c : BitVec 4) (q : BitVec 3) (a b : BitVec 7) (s : State) : Host.Outcome State Fault Refusal := .next (s.vCmp k g c q a (.scalar b))
def execVselS (k : BitVec 3) (g : BitVec 2) (d a b : BitVec 7) (s : State) : Host.Outcome State Fault Refusal := .next (s.vSel k g d a (.scalar b))

-- S5 --------------------------------------------------------------------------------------------------------------------------

/-- A function op (R254). -/
def State.vFun (s : State) (f : VFun) (k : BitVec 3) (g : BitVec 2) (d a : BitVec 7) : State :=
  s.vec1 k g d a Fmt.isWide (fun t _ x => match t with | .flt q => f.lane q x | _ => x)

/-- An estimate (R255). -/
def State.vEst (s : State) (f : XReal → XReal) (k : BitVec 3) (g : BitVec 2) (d a : BitVec 7) : State :=
  s.vec1 k g d a Fmt.isWide (fun t _ x => t.enc (f (t.decode x)) 0 true)

/-- A refinement (R256). -/
def State.vRefine (s : State) (f : XReal → XReal → XReal) (k : BitVec 3) (g : BitVec 2) (d a b : BitVec 7) : State :=
  s.vec2 k g d a (.row b) Fmt.isWide false (fun t _ x y =>
    let (p, q) := (t.decode x, t.decode y)
    if q.isZero || q.isInf then y else if p.isNan || q.isNan then t.enc .nan 0 true else t.enc (f p q) 0 true)

def execNopVector1 (s : State) : Host.Outcome State Fault Refusal := .next s
def execVexp (k : BitVec 3) (g : BitVec 2) (d a : BitVec 7) (s : State) : Host.Outcome State Fault Refusal := .next (s.vFun .exp k g d a)
def execVlog (k : BitVec 3) (g : BitVec 2) (d a : BitVec 7) (s : State) : Host.Outcome State Fault Refusal := .next (s.vFun .log k g d a)
def execVtanh (k : BitVec 3) (g : BitVec 2) (d a : BitVec 7) (s : State) : Host.Outcome State Fault Refusal := .next (s.vFun .tanh k g d a)
def execVsig (k : BitVec 3) (g : BitVec 2) (d a : BitVec 7) (s : State) : Host.Outcome State Fault Refusal := .next (s.vFun .sig k g d a)
def execVgelu (k : BitVec 3) (g : BitVec 2) (d a : BitVec 7) (s : State) : Host.Outcome State Fault Refusal := .next (s.vFun .gelu k g d a)
def execVsilu (k : BitVec 3) (g : BitVec 2) (d a : BitVec 7) (s : State) : Host.Outcome State Fault Refusal := .next (s.vFun .silu k g d a)
def execVrsqrt (k : BitVec 3) (g : BitVec 2) (d a : BitVec 7) (s : State) : Host.Outcome State Fault Refusal := .next (s.vFun .rsqrt k g d a)
def execVsqrt (k : BitVec 3) (g : BitVec 2) (d a : BitVec 7) (s : State) : Host.Outcome State Fault Refusal := .next (s.vFun .sqrt k g d a)
def execVrcp (k : BitVec 3) (g : BitVec 2) (d a : BitVec 7) (s : State) : Host.Outcome State Fault Refusal := .next (s.vFun .rcp k g d a)
def execVrcpe (k : BitVec 3) (g : BitVec 2) (d a : BitVec 7) (s : State) : Host.Outcome State Fault Refusal := .next (s.vEst rcpEstimate k g d a)
def execVrcpn (k : BitVec 3) (g : BitVec 2) (d a b : BitVec 7) (s : State) : Host.Outcome State Fault Refusal := .next (s.vRefine rcpStep k g d a b)
def execVrsqe (k : BitVec 3) (g : BitVec 2) (d a : BitVec 7) (s : State) : Host.Outcome State Fault Refusal := .next (s.vEst rsqrtEstimate k g d a)
def execVrsqn (k : BitVec 3) (g : BitVec 2) (d a b : BitVec 7) (s : State) : Host.Outcome State Fault Refusal := .next (s.vRefine rsqrtStep k g d a b)

/-- vcvt (R257): N elements, the rest of d unchanged. -/
def execVcvt (k : BitVec 3) (g : BitVec 2) (d a : BitVec 7) (r : BitVec 1) (u : BitVec 6) (s : State) : Host.Outcome State Fault Refusal :=
  .next (
    let t := s.pre.laneFmt
    let v := (fmtOf u.toNat).getD t
    let (src, dst) := if r = 0 then (t, v) else (v, t)
    let same := s.pre.laneType == u.toNat
    let n := 512 / Nat.max src.size dst.size
    let m := s.pre.laneMask k.toNat
    s.vec g (s.pre.bound && laneCodeOk u.toNat) (s.settled [a.toNat] [d.toNat] [] (s.withRow a.toNat (someLane m n) (fun ra => s.withRowDest d.toNat (fun rd =>
      let rs := s.pre.vecRnd == 4
      let (start, s) := s.draw (if rs then 4 else 0) n
      let res := ((rowLanes src.size n ra).zip (upFrom 0 n)).map (fun p =>
        if same then p.1
        else dst.enc (src.decode p.1) s.pre.vecRnd s.pre.vecOvf (if rs then coin s.pre.seed.toNat (start + p.2) else 0))
      let old := (getD rd 0 s.preRows).toNat
      let low := ofLanes dst.size (mergeLanes m (rowLanes dst.size n (BitVec.ofNat 4096 old)) res)
      let w := 8 * dst.size * n
      s.writeRow rd (BitVec.ofNat 4096 (old / 2 ^ w * 2 ^ w + low)) (everyLane m n && w == 4096))))))

/-- vperm (R258). -/
def execVperm (k : BitVec 3) (g : BitVec 2) (d a b : BitVec 7) (s : State) : Host.Outcome State Fault Refusal :=
  .next (
    let t := s.pre.laneFmt
    let n := 512 / t.size
    let m := s.pre.laneMask k.toNat
    s.vec g s.pre.bound (s.settled [a.toNat, b.toNat] [d.toNat] [] (s.withRow a.toNat (someLane m n) (fun ra => s.withRow b.toNat (someLane m n) (fun rb =>
      s.writeLanes d t.size n m (((rowLanes t.size n rb).zip (upFrom 0 n)).map (fun p =>
        laneN ra.toNat t.size (if n = 512 then 256 * (p.2 / 256) + p.1 else p.1 % n))))))))

/-- vslide (R258): lane 0 takes b's last lane. -/
def execVslide (k : BitVec 3) (g : BitVec 2) (d a b : BitVec 7) (s : State) : Host.Outcome State Fault Refusal :=
  .next (
    let t := s.pre.laneFmt
    let n := 512 / t.size
    let m := s.pre.laneMask k.toNat
    s.vec g s.pre.bound (s.settled [a.toNat, b.toNat] [d.toNat] [] (s.withRow a.toNat (someLane (m >>> 1) (n - 1)) (fun ra => s.withRow b.toNat (enabled m 0) (fun rb =>
      s.writeLanes d t.size n m ((upFrom 0 n).map (fun j => if j = 0 then laneN rb.toNat t.size (n - 1) else laneN ra.toNat t.size (j - 1))))))))

/-- vslide.s (R258). -/
def execVslideS (k : BitVec 3) (g : BitVec 2) (d a b : BitVec 7) (s : State) : Host.Outcome State Fault Refusal :=
  .next (
    let t := s.pre.laneFmt
    let n := 512 / t.size
    let m := s.pre.laneMask k.toNat
    s.vec g s.pre.bound (s.settled [a.toNat] [d.toNat] [b] (s.withRow a.toNat (someLane m n) (fun ra => s.withSource b (fun v =>
      s.writeLanes d t.size n m ((upFrom 0 n).map (fun (j : Nat) =>
        let i := (j : Int) - v.toInt
        if 0 ≤ i ∧ i < (n : Int) then laneN ra.toNat t.size i.toNat else 0)))))))

/-- The order of vsort: every NaN last, and equal to every other NaN (R259). -/
def sortLe (t : Fmt) (a b : Nat) : Bool :=
  let (x, y) := (t.decode a, t.decode b)
  if y.isNan then true else if x.isNan then false else x.le y

/-- The sorted values put back at the enabled lanes. -/
def placeSorted (m : W512) : Nat → List Nat → List Nat → List Nat
  | _, [], _ => []
  | k, o :: os, vs => if enabled m k then vs.headD o :: placeSorted m (k + 1) os vs.tail else o :: placeSorted m (k + 1) os vs

/-- vsort (R259). -/
def execVsort (k : BitVec 3) (g : BitVec 2) (d a : BitVec 7) (s : State) : Host.Outcome State Fault Refusal :=
  .next (
    let t := s.pre.laneFmt
    let n := 512 / t.size
    let m := s.pre.laneMask k.toNat
    s.vec g s.pre.bound (s.settled [a.toNat] [d.toNat] [] (s.withRow a.toNat (someLane m n) (fun ra =>
      let la := rowLanes t.size n ra
      let vs := sortBy (sortLe t) (((la.zip (upFrom 0 n)).filter (fun p => enabled m p.2)).map (fun p => p.1))
      s.writeLanes d t.size n m (placeSorted m 0 la vs)))))

/-- The 32-byte moment summary of lanes (R260): its four words. -/
def moments (t : Fmt) (n : Nat) (m : W512) (lanes : List Nat) : List W64 :=
  let xs := (lanes.zip (upFrom 0 n)).map (fun p => if enabled m p.2 then some (t.decode p.1) else none)
  let present := xs.filterMap (fun x => x.bind (fun v => if v.isNan then none else some v))
  let nan := (xs.filter (fun x => match x with | some v => v.isNan | none => false)).length
  let lo := present.foldl minX (.inf false)
  let hi := present.foldl maxX (.inf true)
  let leaf := fun (f : XReal → XReal) => xs.map (fun x => match x with | some v => (if v.isNan then 0 else encF64 (f v)) | none => 0)
  let lg := Nat.log2 n
  [w64 (present.length + nan * 2 ^ 32),
   w64 ((f32Fmt.encode lo 3 true 0).1 + (f32Fmt.encode hi 2 true 0).1 * 2 ^ 32),
   w64 (pairsum lg (leaf id)), w64 (pairsum lg (leaf (fun v => v.mul v)))]

/-- vred (R260). -/
def execVred (k : BitVec 3) (g : BitVec 2) (d a : BitVec 7) (s : State) : Host.Outcome State Fault Refusal :=
  .next (
    let t := s.pre.laneFmt
    let n := 512 / t.size
    let m := s.pre.laneMask k.toNat
    s.vec g s.pre.bound (s.withDests (groupRegs d 4) (s.withRow a.toNat (someLane m n) (fun ra =>
      s.modMe (fun c => ((groupRegs d 4).zip (moments t n m (rowLanes t.size n ra))).foldl (fun c p => c.setReg p.1 p.2) c)))))

-- Mask stack and mask registers (R261) ----------------------------------------------------------------------------------------

def execMpush (g : BitVec 2) (q : BitVec 3) (s : State) : Host.Outcome State Fault Refusal :=
  .next (s.vecStack g (decide (16 ≤ s.pre.mstack.length)) (
    let st := s.pre.mstack
    let mk := if q = 0 then allLanes else s.pre.maskReg q.toNat
    s.modMe (fun c => { c with mstack := (st.headD allLanes &&& mk) :: st })))

def execMinv (g : BitVec 2) (s : State) : Host.Outcome State Fault Refusal :=
  .next (s.vecStack g s.pre.mstack.isEmpty (match s.pre.mstack with
    | [] => s
    | top :: rest => s.modMe (fun c => { c with mstack := (rest.headD allLanes &&& ~~~top) :: rest })))

def execMpop (g : BitVec 2) (s : State) : Host.Outcome State Fault Refusal :=
  .next (s.vecStack g s.pre.mstack.isEmpty (match s.pre.mstack with
    | [] => s
    | _ :: rest => s.modMe (fun c => { c with mstack := rest })))

def execMset (g : BitVec 2) (t : BitVec 1) (q : BitVec 3) (a : BitVec 7) (s : State) : Host.Outcome State Fault Refusal :=
  .next (
    let f := s.pre.laneFmt
    let n := 512 / f.size
    if !s.pre.bound then s.undefinedEncoding else s.vecStack g (t = 1 && s.pre.mstack.isEmpty) (
      s.withRow a.toNat true (fun ra =>
        let m := maskOf ((rowLanes f.size n ra).map (fun x => x != 0))
        if t = 1 then s.modMe (fun c => { c with mstack := m :: s.pre.mstack.tail }) else s.writeMask q.toNat m)))

def execMget (g : BitVec 2) (d : BitVec 7) (t : BitVec 1) (q : BitVec 3) (s : State) : Host.Outcome State Fault Refusal :=
  .next (
    let f := s.pre.laneFmt
    let n := 512 / f.size
    let m := if t = 1 then s.pre.mstack.headD allLanes else if q = 0 then allLanes else s.pre.maskReg q.toNat
    s.vec g s.pre.bound (s.writeLanes d f.size n allLanes ((upFrom 0 n).map (fun j => if enabled m j then 2 ^ (8 * f.size) - 1 else 0))))

end Sys2Proof.Machine
end

