-- ==== Sys2Proof/Machine/Array.lean ====
section
/-! DEFINITION. The array (R263 to R302): configurations (R266, R267), cell programs (R269 to R271), passes (R272, R273, R280 to R283),
the drain (R284 to R288), the user table (R289), the histogram (R287, R290), the queue (R293) and its faults (R300). -/

namespace Sys2Proof.Machine

-- Configuration ---------------------------------------------------------------------------------------------------------------

/-- The fields of cfg0 (R266). -/
def cfgSr (x : W64) : Nat := bits x 2 0
def cfgFlow (x : W64) : Nat := bits x 5 4
def cfgMx (x : W64) : Bool := bit x 6
def cfgA (x : W64) : Nat := bits x 13 8
def cfgB (x : W64) : Nat := bits x 21 16
def cfgC (x : W64) : Nat := bits x 29 24
def cfgRnd (x : W64) : Nat := bits x 34 32
def cfgOvf (x : W64) : Bool := bit x 35

def isB8 (c : Nat) : Bool := decide (c < 0x20) && c % 8 != 0
def isHalf (c : Nat) : Bool := c == 0x20 || c == 0x21
def isByteInt (c : Nat) : Bool := c == 0x28 || c == 0x2C

/-- A row of the semiring table allows the formats and the cell type (R267). -/
def semiringRow (sr a b c : Nat) : Bool :=
  match sr with
  | 0 => (c == 0x22 && ((a == 0x22 && b == 0x22) || (isHalf a && isHalf b) || (isB8 a && isB8 b))) || (c == 0x2A && isByteInt a && isByteInt b)
  | 1 => a == b && [(0x29, 0x29), (0x2A, 0x2A), (0x22, 0x22), (0x20, 0x22)].contains (a, c)
  | 2 => a == b && [(0x29, 0x29), (0x2A, 0x2A), (0x22, 0x22), (0x20, 0x22)].contains (a, c)
  | 3 => c == 0x22 && ((a == 0x22 && b == 0x22) || (isHalf a && isHalf b))
  | 4 => c == 0x2E && a == b && [0x2C, 0x2D, 0x2E].contains a
  | _ => false

/-- 1-byte formats: a lane holds four elements (R267, R273). -/
def fourWide (x : W64) : Bool := isB8 (cfgA x) || isByteInt (cfgA x)

/-- The configuration is one of R267. -/
def configOk (x y : W64) : Bool :=
  let sr := cfgSr x
  let (a, b, c) := (cfgA x, cfgB x, cfgC x)
  bits x 63 48 == 0 && bits x 39 36 == 0 && bits x 31 30 == 0 && bits x 23 22 == 0 && bits x 15 14 == 0 && !bit x 7 && !bit x 3 &&
  decide (sr ≤ 5) && decide (cfgRnd x ≤ 4) &&
  (if sr = 5 then (upFrom 0 5).any (fun k => semiringRow k a b c) else semiringRow sr a b c) &&
  (!cfgMx x || (sr == 0 && (isB8 a || isByteInt a))) &&
  (if sr = 5 then decide (y.toNat < 2 ^ ((fmtOf c).getD .raw).width) else y == 0)

/-- The cell type: float or the width and sign of an integer, with the identity (R267). -/
structure CellTy where
  flt : Bool
  w : Nat
  sg : Bool
  ident : Int

/-- The value of bits in a cell: the code of an f32 cell, the integer of an integer cell (R268). -/
def CellTy.ofBits (t : CellTy) (n : Nat) : Int := if t.flt || !t.sg then ((n % 2 ^ t.w : Nat) : Int) else signedN t.w n
def CellTy.toBits (t : CellTy) (v : Int) : Nat := wrapN t.w v
def CellTy.lo (t : CellTy) : Int := intMin t.w t.sg
def CellTy.hi (t : CellTy) : Int := intMax t.w t.sg
def CellTy.wrap (t : CellTy) (v : Int) : Int := t.ofBits (wrapN t.w v)

/-- acc as its readers see it (R270). -/
def CellTy.sat (t : CellTy) (v : Int) : Int := if t.flt then v else satI t.w t.sg v

def decI (v : Int) : XReal := decF32 v.toNat
def encI (x : XReal) : Int := (encF32 x : Nat)

/-- A value of a cell as an exact value, and an exact operand value as a value of the cell (R268). -/
def CellTy.real (t : CellTy) (v : Int) : XReal := if t.flt then decI v else XReal.ofInt v
def XReal.toI : XReal → Int
  | .fin n m e => signedAt n m e 0
  | _ => 0

/-- The integer that an exact value is, if it is one. -/
def XReal.whole? : XReal → Option Int
  | .fin n m e =>
    if 0 ≤ e then some (signedAt n m e 0)
    else if m % 2 ^ (-e).toNat = 0 then some (signedAt n (m / 2 ^ (-e).toNat) 0 0)
    else none
  | _ => none
def CellTy.ofReal (t : CellTy) (x : XReal) : Int := if t.flt then encI x else t.wrap x.toI

/-- The cell type and the identity of a configuration (R267). -/
def cellTy (x y : W64) : CellTy :=
  let c := cfgC x
  let t : CellTy := match fmtOf c with
    | some (.int w s) => ⟨false, w, s, 0⟩
    | _ => ⟨true, 32, false, 0⟩
  let id : Int := match cfgSr x with
    | 0 => 0
    | 1 => if t.flt then 0x7F800000 else t.hi
    | 2 => if t.flt then 0xFF800000 else t.lo
    | 3 => 0xFF800000
    | 4 => 0
    | _ => t.ofBits y.toNat
  { t with ident := id }

/-- The standard program of a semiring (R266, R267). -/
def standardProg (x : W64) : List Nat :=
  match cfgSr x with
  | 0 => [0x101000]
  | 1 => [0x201000]
  | 2 => [0x301000]
  | 3 => [0x401000]
  | 4 => [0x501000]
  | _ => [0]

-- Cell programs (R268 to R271) ------------------------------------------------------------------------------------------------

/-- The absorbing sum (R268). -/
def CellTy.box (t : CellTy) (x y : Int) : Int :=
  if t.flt then encI ((decI x).add 0 (decI y))
  else if (x == t.hi && y == t.lo) || (x == t.lo && y == t.hi) then t.ident
  else if x == t.hi || y == t.hi then t.hi
  else if x == t.lo || y == t.lo then t.lo
  else satI t.w t.sg (x + y)

/-- MIN and MAX of a cell (R270). -/
def CellTy.min (t : CellTy) (x y : Int) : Int :=
  if t.flt then (if (decI x).isNan || (decI y).isNan then f32Fmt.nanCode else encI (minX (decI x) (decI y))) else if y < x then y else x
def CellTy.max (t : CellTy) (x y : Int) : Int :=
  if t.flt then (if (decI x).isNan || (decI y).isNan then f32Fmt.nanCode else encI (maxX (decI x) (decI y))) else if x < y then y else x

/-- The numeric order of a cell's values; none with a NaN (R270). -/
def CellTy.cmp? (t : CellTy) (x y : Int) : Option Ordering := if t.flt then (decI x).cmp? (decI y) else some (compare x y)

def CellTy.add (t : CellTy) (x y : Int) (n : Bool) : Int :=
  if t.flt then encI ((decI x).add 0 (if n then (decI y).negate else decI y)) else t.wrap (if n then x - y else x + y)
def CellTy.mul (t : CellTy) (x y : Int) : Int := if t.flt then encI ((decI x).mul (decI y)) else t.wrap (x * y)
/-- The product that MULMAX compares: rounded to f32 in every cell, an integer cell's too (R270; log 78). -/
def CellTy.mulF32 (t : CellTy) (x y : Int) : Int :=
  if t.flt then t.mul x y else ((decF32 (encF32 ((XReal.ofInt x).mul (XReal.ofInt y)))).whole?).getD 0
def CellTy.isZero (t : CellTy) (x : Int) : Bool := if t.flt then (decI x).isZero else x == 0

/-- The fields of a micro-op (R269). -/
def uopOp (w : Nat) : Nat := bitsN w 23 20
def uopDst (w : Nat) : Nat := bitsN w 19 18
def uopS (w k : Nat) : Nat := match k with | 1 => bitsN w 17 15 | 2 => bitsN w 14 12 | _ => bitsN w 11 9
def uopImm (w : Nat) : Int := signedN 6 (bitsN w 5 0)

/-- How many sources an op reads (R270). -/
def uopSources (op : Nat) : Nat :=
  match op with
  | 0 => 0
  | 6 => 3
  | 7 => 3
  | 12 => 1
  | 13 => 1
  | 14 => 3
  | _ => 2

/-- A micro-op is valid in a configuration (R271). -/
def uopOk (x : W64) (w : Nat) : Bool :=
  let t := cellTy x 0
  let op := uopOp w
  let ss := [uopS w 1, uopS w 2, uopS w 3]
  let used := ss.take (uopSources op)
  let sr0 := semiringRow 0 (cfgA x) (cfgB x) (cfgC x)
  let xSource := fun (c : Nat) => !t.flt || c == 7 || (c == 6 && cfgFlow x != 3)
  decide (w < 2 ^ 24) && !bitN w 7 && uopDst w != 3 && (ss.drop (uopSources op)).all (· == 0) &&
  (uopDst w == 0 || (decide (7 ≤ op) && op != 13)) &&
  (!bitN w 8 || op == 8) && (!bitN w 6 || op == 6) &&
  (bitsN w 5 0 == 0 || op == 7 || op == 14 || used.contains 7) &&
  (op != 1 || ((cfgSr x == 0 || cfgSr x == 5) && sr0)) && (op != 5 || cfgC x == 0x2E) && (op != 15 || !t.flt) &&
  (!(fourWide x || cfgMx x) || op == 1 || op == 5 || used.all (fun c => decide (4 ≤ c))) &&
  (uopDst w != 2 || (op == 12 && xSource (uopS w 1))) && (op != 6 || xSource (uopS w 3))

/-- The inputs of a beat: the elements of a and b, the value and the integer of source 6, and in an MX pass whether the beat is the last
of its block. -/
structure Beat where
  a : List XReal
  b : List XReal
  k6 : Int
  k : Nat
  blk : Option Bool

/-- The decoded elements of c0 or c1 (R278). In an MX pass they carry no scale: mld loads none, and the model takes 2^0 for it (R105; log 79). -/
def stationary (x : W64) (n : Nat) : List XReal :=
  let f := (fmtOf (if cfgFlow x = 2 then cfgA x else cfgB x)).getD .raw
  if fourWide x then (upFrom 0 4).map (fun q => f.decode (n / 2 ^ (8 * q) % 256)) else [f.decode (n % 2 ^ f.width)]

/-- The elements of source s (R269, R270). -/
def uopElems (x : W64) (t : CellTy) (e : Beat) (w : Nat) (c : Cell) (s : Nat) : List XReal :=
  match s with
  | 0 => e.a
  | 1 => e.b
  | 2 => stationary x c.c0
  | 3 => stationary x c.c1
  | 4 => [t.real (t.sat c.acc)]
  | 5 => [t.real (t.ofBits c.t)]
  | 6 => [t.real e.k6]
  | _ => [t.real (if t.flt then encI (XReal.ofInt (uopImm w)) else t.wrap (uopImm w))]

/-- The value of source s in the cell. -/
def uopValue (x : W64) (t : CellTy) (e : Beat) (w : Nat) (c : Cell) (s : Nat) : Int := t.ofReal ((uopElems x t e w c s).headD .zero)

/-- The value of source s modulo 2^16 (R269, R270). -/
def uopX (x : W64) (t : CellTy) (e : Beat) (w : Nat) (c : Cell) (s : Nat) : Nat :=
  if t.flt then (if s = 6 then e.k % 65536 else wrapN 16 (uopImm w)) else wrapN 16 (uopValue x t e w c s)

/-- The pairs of the elements of two sources: a single element stands for each element of a 4-wide one (R270). -/
def elemPairs (xs ys : List XReal) : List (XReal × XReal) :=
  if xs.length = 1 then ys.map (fun y => (xs.headD .zero, y)) else if ys.length = 1 then xs.map (fun x => (x, ys.headD .zero)) else xs.zip ys

/-- The exact sum of products, after an earlier sum if there is one. -/
def sumProducts (start : Option XReal) (ps : List (XReal × XReal)) : Option XReal :=
  ps.foldl (fun acc p => let y := p.1.mul p.2; match acc with | none => some y | some a => some (a.add 0 y)) start

/-- acc after a MAD of an exact sum (R270, R273). An MX block in an integer cell is rounded to f32; a sum that is then no 48-bit integer has no
stated value: it is a free value that the operands fix (log 25). -/
def madAcc (t : CellTy) (mx : Bool) (acc : Int) (sum : XReal) : Int :=
  if t.flt then encI ((decI acc).add 0 sum)
  else if !mx then signedN 48 (wrapN 48 (acc + sum.toI))
  else
    let r := encF32 ((XReal.ofInt acc).add 0 sum)
    match (decF32 r).whole? with
    | some v => if -(2 ^ 47) ≤ v && v < 2 ^ 47 then v else signedN 48 (Config.mxSum (BitVec.ofInt 64 acc) r).toNat
    | none => signedN 48 (Config.mxSum (BitVec.ofInt 64 acc) r).toNat

/-- One micro-op other than MAD, PASS and NOP (R270). -/
def plainUop (x : W64) (t : CellTy) (e : Beat) (w : Nat) (c : Cell) : Cell :=
  let v := fun k => uopValue x t e w c (uopS w k)
  let imm : Int := if t.flt then encI (XReal.ofInt (uopImm w)) else t.wrap (uopImm w)
  let acc := t.sat c.acc
  let out := fun (r : Int) => if uopDst w = 0 then { c with acc := r } else { c with t := t.toBits r }
  match uopOp w with
  | 2 => { c with acc := t.min acc (t.box (v 1) (v 2)) }
  | 3 => { c with acc := t.max acc (t.box (v 1) (v 2)) }
  | 4 => { c with acc := t.max acc (t.mulF32 (v 1) (v 2)) }
  | 5 =>
    let ps := elemPairs (uopElems x t e w c (uopS w 1)) (uopElems x t e w c (uopS w 2))
    { c with acc := (ps.foldl (fun r p => r ||| (wrapN 32 p.1.toI &&& wrapN 32 p.2.toI)) (t.toBits acc) : Nat) }
  | 6 =>
    let u := t.box (v 1) (v 2)
    if t.cmp? u acc == some (if bitN w 6 then .lt else .gt) then { c with acc := u, x := uopX x t e w c (uopS w 3) } else c
  | 7 => out (t.min (t.min (t.box (v 1) imm) (t.box (v 2) imm)) (v 3))
  | 8 => out (t.add (v 1) (v 2) (bitN w 8))
  | 9 => out (t.mul (v 1) (v 2))
  | 10 => out (t.min (v 1) (v 2))
  | 11 => out (t.max (v 1) (v 2))
  | 12 => if uopDst w = 2 then { c with x := uopX x t e w c (uopS w 1) } else out (v 1)
  | 14 => out (if t.cmp? (v 1) (v 2) == some .eq then v 3 else t.box (v 3) imm)
  | 15 => out (satI t.w t.sg (v 1 + v 2))
  | _ => c

/-- The program of a beat (R270); `ps` holds the sums of the MX block so far, by micro-op (R273). -/
def runUops (x : W64) (t : CellTy) (e : Beat) : Nat → List Nat → Cell × Map XReal → Cell × Map XReal
  | _, [], r => r
  | i, w :: ws, (c, ps) =>
    if uopOp w = 13 then (if t.isZero (uopValue x t e w c (uopS w 1)) then (c, ps) else runUops x t e (i + 1) ws (c, ps))
    else if uopOp w = 1 then
      let pairs := elemPairs (uopElems x t e w c (uopS w 1)) (uopElems x t e w c (uopS w 2))
      match e.blk with
      | none => runUops x t e (i + 1) ws ({ c with acc := madAcc t false c.acc ((sumProducts none pairs).getD .zero) }, ps)
      | some last =>
        let sum := (sumProducts (find? i ps) pairs).getD .zero
        if last then runUops x t e (i + 1) ws ({ c with acc := madAcc t true c.acc sum }, del i ps)
        else runUops x t e (i + 1) ws (c, put i sum ps)
    else runUops x t e (i + 1) ws (plainUop x t e w c, ps)

/-- The beats of one cell from beat k on (R272): its A and B elements, beat by beat. -/
def cellBeats (x : W64) (t : CellTy) (prog : List Nat) : Nat → List (List XReal × List XReal) → Cell × Map XReal → Cell
  | _, [], r => r.1
  | k, ab :: rest, r =>
    let e : Beat := ⟨ab.1, ab.2, t.ofReal (XReal.ofInt (k : Nat)), k, if cfgMx x then some (k % 8 == 7) else none⟩
    cellBeats x t prog (k + 1) rest (runUops x t e 0 prog r)

-- The array state -------------------------------------------------------------------------------------------------------------

def State.modArray (s : State) (c : Nat) (f : ArrayUnit → ArrayUnit) : State := s.modCore c (fun k => { k with array := f k.array })

def cellInit : Cell := ⟨0, 0, 0, 0, 0⟩

/-- The cells, listed. -/
def ArrayUnit.all (a : ArrayUnit) : List Cell := if a.cells.isEmpty then List.replicate 16384 cellInit else a.cells

/-- Lists of 128. -/
def rows128 {α : Type} : Nat → List α → List (List α)
  | 0, _ => []
  | k + 1, xs => xs.take 128 :: rows128 k (xs.drop 128)

/-- Every cell's acc set to the identity, x and t to 0 (R266, R279). -/
def ArrayUnit.zeroed (a : ArrayUnit) : ArrayUnit :=
  let t := cellTy a.cfg0 a.cfg1
  { a with cells := a.all.map (fun c => { c with acc := t.ident, x := 0, t := 0 }), bad := { a.bad with acc := false, x := false, t := false } }

/-- What an instruction at issue finds once the queue before it has run: the configuration, if any, the program, and whether the user table is
loaded (R293). -/
structure ArrayView where
  cfg : Option (W64 × W64)
  prog : List Nat
  table : Bool

def ArrayUnit.view (a : ArrayUnit) : ArrayView :=
  a.queue.foldl (fun v q =>
    if q.2.op = 1 then { v with cfg := some (q.2.av, q.2.bv), prog := standardProg q.2.av }
    else if q.2.op = 2 then { v with prog := q.2.img }
    else if q.2.op = 11 then { v with table := true } else v)
    ⟨if a.conf then some (a.cfg0, a.cfg1) else none, a.prog, a.table.isSome⟩

-- Issue (R293, R300) ----------------------------------------------------------------------------------------------------------

/-- What the checks of an array instruction find: a cause, or its scratchpad extents not yet read, the rows it holds, its draw, and the image
of cpl. -/
inductive ArrayCheck where
  | fault (cause : Nat) (info : W64)
  | ok (reads : List (Nat × Nat)) (rows : List (Nat × Bool)) (draw : Nat) (img : List Nat)

/-- trap.info of cause 0x10 (R301). -/
def info10 (sub beat word : Nat) : W64 := w64 (sub * 2 ^ 60 + beat % 4096 * 2 ^ 32 + word)

/-- A precise array fault. -/
def State.sub10 (s : State) (sub : Nat) : ArrayCheck := .fault 0x10 (info10 sub 0 s.bun.word.toNat)

/-- Continue unless one of the listed sub-causes holds, first one first. -/
def State.check10 (s : State) : List (Bool × Nat) → ArrayCheck → ArrayCheck
  | [], k => k
  | (b, sub) :: cs, k => if b then s.sub10 sub else s.check10 cs k

/-- The scratchpad extents of an array instruction: aligned to 32, inside usable scratchpad (R177, R300). -/
def extentsOk (t : Task) (wr : Bool) (es : List (Nat × Nat)) (k : ArrayCheck) : ArrayCheck :=
  match es.find? (fun e => e.1 % 32 != 0) with
  | some e => .fault 4 (vaInfo wr e.1)
  | none => match es.find? (fun e => !t.usable e.1 e.2) with
    | some e => .fault 0x17 (spadInfoAt 6 e.1)
    | none => k

/-- Of the rows that an array instruction will read, those that its own bundle has written or will: it reads them as they stood before (R237). -/
def State.rowsBefore (s : State) (rows : List (Nat × Bool)) : Map (Row × Bool) :=
  let k := s.core s.myCore
  let mine := fun (r : Nat) => s.me.pend.any (fun p => p.1 == 256 + r && decide (s.bun.first ≤ p.2)) || find? r s.preRows != find? r k.rows ||
    find? r s.preMarks != find? r k.rowPoison
  if !s.bun.on then [] else (rows.filter (fun x => !x.2 && mine x.1)).map (fun x => (x.1, (getD x.1 0 s.preRows, (find? x.1 s.preMarks).isSome)))

/-- An array instruction enters the queue, with the draw it takes; an array that no task holds is claimed, with its state cleared (R264,
R293). -/
def State.enterArray (s : State) (t : Task) (op ctl : Nat) (av bv : W64) (img : List Nat) (reads : List (Nat × Nat)) (rows : List (Nat × Bool)) (draw : Nat) : State :=
  let (start, s) := s.draw (if draw = 0 then 0 else 4) draw
  let (tag, s) := s.newTag t 0 start
  let m : ArrayCmd := { tag := tag, op := op, word := s.bun.word.toNat, av := av, bv := bv, ctl := ctl, img := img, reads := reads, rows := rows,
                        old := s.rowsBefore rows, run := false, beat := 0 }
  s.modArray s.myCore (fun a =>
    let a := if a.holder.isSome then a else { ArrayUnit.init with holder := s.me.task }
    { a with queue := put tag.tok m a.queue })

/-- The array is not the context's to claim or use: another task holds it, or a release is under way (R264). -/
def State.arrayTaken (s : State) : Bool :=
  let a := (s.core s.myCore).array
  a.holder.isSome && (a.holder != s.me.task || a.rel)

/-- The queue of the array is full (R293). -/
def State.arrayFull (s : State) : Bool := decide (4 ≤ (s.core s.myCore).array.queue.length)

/-- An S6 instruction that claims the array or enters its queue (R264, R293): it waits for another holder and for a release under way; it is
checked, since a fault claims nothing and enters no queue; then it waits for a place in the queue. -/
def State.arraySlot (s : State) (g : BitVec 4) (op ctl : Nat) (operands : (W64 → W64 → State) → State)
    (check : Task → ArrayView → W64 → W64 → ArrayCheck) (before : W64 → State → State := fun _ s => s) : State :=
  s.guarded g (match s.boundTask s.cur with
    | none => s.undefinedEncoding
    | some t =>
      operands (fun av bv => s.waitWhile s.arrayTaken (match check t (s.core s.myCore).array.view av bv with
        | .fault c i => s.raise c i
        | .ok reads rows draw img => s.waitWhile s.arrayFull ((before av s).enterArray t op ctl av bv img reads rows draw))))

/-- Bits of a value that are not among the fields listed are 0. -/
def onlyFields (v : W64) (fs : List (Nat × Nat)) : Bool :=
  (fs.foldl (fun n f => setBitsN n f.1 f.2 0) v.toNat) == 0

/-- A panel or matrix of an operand: its offset, and its stride for a packed size of `n` bytes (R278, R280). -/
def panelOff (v : W64) : Nat := bits v 21 0
def panelStride (v : W64) (n : Nat) : Nat := if bits v 31 24 = 0 then n else bits v 31 24 * 32

/-- The size of a lane of a slice (R273). -/
def laneBytes (x : W64) (f : Nat) : Nat := if fourWide x then 4 else codeSize f

/-- The slice positions of K beats, scale slices included (R273). -/
def slicePos (x : W64) (k : Nat) : Nat := if cfgMx x then k / 8 * 9 + k % 8 else k
def slicesOf (x : W64) (k : Nat) : Nat := if cfgMx x then k / 8 * 9 else k

/-- The extent of a panel from beat k0 of K on; the last slice of an MX panel is one of 128 scales (R273). -/
def panelExtent (x v : W64) (size k0 K : Nat) : List (Nat × Nat) :=
  if K ≤ k0 then [] else
  let st := panelStride v size
  [(panelOff v + slicePos x k0 * st, (slicesOf x K - 1 - slicePos x k0) * st + (if cfgMx x then 128 else size))]

/-- The sizes of the A and B slices of mmk, mmc and msp. -/
def aSlice (x : W64) : Nat := 128 * laneBytes x (cfgA x)
def bSlice (x : W64) : Nat := 128 * laneBytes x (cfgB x)

/-- N of msp (R282). -/
def mspN (c : Nat) : Nat := 2 ^ (c % 4)

/-- The extents an instruction has still to read from beat k0 on; `K` its beats. -/
def cmdExtents (x : W64) (op : Nat) (av bv : W64) (ctl k0 K : Nat) : List (Nat × Nat) :=
  match op with
  | 4 => (if cfgFlow x = 2 then [] else panelExtent x av (aSlice x) k0 K) ++ (if cfgFlow x = 1 then [] else panelExtent x bv (bSlice x) k0 K)
  | 5 => if cfgFlow x = 1 then [] else panelExtent x bv (bSlice x) k0 K
  | 6 =>
    let n := mspN ctl
    panelExtent x av (128 * (32 / n)) k0 K ++ panelExtent x bv 512 k0 K ++
      (if K ≤ k0 then [] else [(bits bv 53 32 + k0 * (512 / n), (K - k0) * (512 / n))])
  | _ => []

/-- The beats of a pass (R280 to R283). -/
def cmdBeats (op : Nat) (av : W64) : Nat :=
  match op with
  | 4 => bits av 43 32 + 1
  | 5 => bits av 38 32 + 1
  | 6 => bits av 43 32 + 1
  | 7 => 255
  | _ => 0

/-- The physical rows of a held tile (R127, R291). -/
def Task.tileRows (t : Task) (k : Nat) (wr : Bool) : List (Nat × Bool) := (upFrom 0 128).map (fun i => ((t.row? k i).getD 0, wr))

def noOperands (s : State) (k : W64 → W64 → State) : State := s.waitWhile false (k 0 0)
def oneOperand (s : State) (a : BitVec 7) (k : W64 → W64 → State) : State := s.withSource a (fun x => k x 0)

/-- A configured array is required (R277 to R284). -/
def ArrayView.needs (v : ArrayView) (s : State) (k : W64 → W64 → ArrayCheck) : ArrayCheck :=
  match v.cfg with
  | none => s.sub10 1
  | some (x, y) => k x y

def execNopArray (s : State) : Host.Outcome State Fault Refusal := .next s

/-- The checks of mcfg at issue (R266, R267, R300). -/
def State.mcfgCheck (s : State) (x y : W64) : ArrayCheck := s.check10 [(!configOk x y, 0)] (.ok [] [] 0 [])

def execMcfg (g : BitVec 4) (a b : BitVec 7) (s : State) : Host.Outcome State Fault Refusal :=
  .next (s.arraySlot g 1 0 (s.with2 a b) (fun _ _ x y => s.mcfgCheck x y))

/-- The checks of cpl at issue (R277, R300). -/
def State.cplCheck (s : State) (t : Task) (v : ArrayView) (l : BitVec 4) (x : W64) : ArrayCheck :=
  s.check10 [(!onlyFields x [(21, 0)], 0)] (v.needs s (fun c _ =>
    extentsOk t false [(panelOff x, 64)] (
      let ws := (upFrom 0 (l.toNat + 1)).map (fun m => ofBytes (s.spadRead s.myCore t (panelOff x + 4 * m) 4))
      if s.spadBad s.myCore t (panelOff x) (4 * ws.length) then .fault 0x16 (info16 3 (s.firstBad t (panelOff x) (4 * ws.length)))
      else s.check10 [(!ws.all (uopOk c), 4)] (.ok [] [] 0 ws))))

/-- cpl reads its image at issue (R277). -/
def execCpl (g : BitVec 4) (a : BitVec 7) (l : BitVec 4) (s : State) : Host.Outcome State Fault Refusal :=
  .next (s.arraySlot g 2 l.toNat (oneOperand s a) (fun t v x _ => s.cplCheck t v l x))

/-- The checks of mld at issue (R278, R300). -/
def State.mldCheck (s : State) (t : Task) (v : ArrayView) (x : W64) : ArrayCheck :=
  s.check10 [(!onlyFields x [(31, 24), (21, 0)], 0)] (v.needs s (fun cf _ =>
    let size := 128 * laneBytes cf (if cfgFlow cf = 2 then cfgA cf else cfgB cf)
    let es := [(panelOff x, 127 * panelStride x size + size)]
    s.check10 [(decide (panelStride x size < size), 0)] (extentsOk t false es (.ok es [] 0 []))))

def execMld (g : BitVec 4) (a : BitVec 7) (c : BitVec 1) (s : State) : Host.Outcome State Fault Refusal :=
  .next (s.arraySlot g 3 (c.toNat * 128) (oneOperand s a) (fun t v x _ => s.mldCheck t v x))

/-- The count of beats is allowed in the flow (R272, R273). -/
def beatsOk (x : W64) (K : Nat) : Bool := (cfgFlow x == 0 || decide (K ≤ 128)) && (!cfgMx x || K % 8 == 0)

/-- The checks of mmk at issue (R280, R300). -/
def State.mmkCheck (s : State) (t : Task) (v : ArrayView) (x y : W64) : ArrayCheck :=
  s.check10 [(!onlyFields x [(43, 32), (31, 24), (21, 0)] || !onlyFields y [(31, 24), (21, 0)], 0)] (v.needs s (fun c _ =>
    let es := cmdExtents c 4 x y 0 0 (cmdBeats 4 x)
    s.check10 [(cfgFlow c == 3, 1), (!beatsOk c (cmdBeats 4 x), 0), (cfgFlow c == 1 && y != 0, 0), (cfgFlow c == 2 && bits x 31 0 != 0, 0),
               (cfgFlow c != 2 && decide (panelStride x (aSlice c) < aSlice c), 0), (cfgFlow c != 1 && decide (panelStride y (bSlice c) < bSlice c), 0)]
      (extentsOk t false es (.ok es [] 0 []))))

def execMmk (g : BitVec 4) (a b : BitVec 7) (z : BitVec 1) (s : State) : Host.Outcome State Fault Refusal :=
  .next (s.arraySlot g 4 (z.toNat * 128) (s.with2 a b) (fun t v x y => s.mmkCheck t v x y))

/-- The checks of mmc at issue (R281, R300). -/
def State.mmcCheck (s : State) (t : Task) (v : ArrayView) (x y : W64) : ArrayCheck :=
  let u := bits x 21 16
    let K := cmdBeats 5 x
    s.check10 [(!onlyFields x [(38, 32), (21, 16), (15, 8), (1, 0)] || !onlyFields y [(31, 24), (21, 0)], 0), (!laneCodeOk u, 0)] (v.needs s (fun c _ =>
      let lanes := if fourWide c then 4 * K else K
      let es := cmdExtents c 5 x y 0 0 K
      s.check10 [(decide (2 ≤ cfgFlow c) || cfgMx c, 1), (decide (lanesOf u < bits x 15 8 + lanes), 0), (cfgFlow c == 1 && y != 0, 0),
                 (cfgFlow c != 1 && decide (panelStride y (bSlice c) < bSlice c), 0), (decide (t.tiles.length ≤ bits x 1 0), 2)]
        (extentsOk t false es (.ok es (t.tileRows (bits x 1 0) false) (if cfgRnd c = 4 then 128 * lanes else 0) []))))

def execMmc (g : BitVec 4) (a b : BitVec 7) (z : BitVec 1) (s : State) : Host.Outcome State Fault Refusal :=
  .next (s.arraySlot g 5 (z.toNat * 128) (s.with2 a b) (fun t v x y => s.mmcCheck t v x y))

/-- The checks of msp at issue (R282, R300). -/
def State.mspCheck (s : State) (t : Task) (v : ArrayView) (n : BitVec 2) (x y : W64) : ArrayCheck :=
  let K := cmdBeats 6 x
    let ga := 128 * (32 / mspN n.toNat)
    s.check10 [(n == 3 || !onlyFields x [(43, 32), (31, 24), (21, 0)] || !onlyFields y [(53, 32), (31, 24), (21, 0)], 0)] (v.needs s (fun c _ =>
      let es := cmdExtents c 6 x y n.toNat 0 K
      let mad := v.prog.any (fun w => uopOp w == 1)
      s.check10 [(cfgFlow c != 0 || !fourWide c || cfgMx c || !(cfgSr c == 0 || (cfgSr c == 5 && (cfgC c == 0x22 || cfgC c == 0x2A) && mad)), 1),
                 (decide (panelStride x ga < ga) || decide (panelStride y 512 < 512), 0)]
        (extentsOk t false es (.ok es [] 0 []))))

def execMsp (g : BitVec 4) (a b : BitVec 7) (z : BitVec 1) (n : BitVec 2) (s : State) : Host.Outcome State Fault Refusal :=
  .next (s.arraySlot g 6 (z.toNat * 128 + n.toNat) (s.with2 a b) (fun t v x y => s.mspCheck t v n x y))

/-- The checks of mdp at issue (R283, R300). -/
def State.mdpCheck (s : State) (t : Task) (v : ArrayView) (x : W64) : ArrayCheck :=
  s.check10 [(!onlyFields x [(21, 0)], 0)] (v.needs s (fun c _ =>
    let es := [(panelOff x, 257 * codeSize (cfgC c))]
    s.check10 [(cfgFlow c != 3 || cfgMx c || fourWide c, 1)] (extentsOk t false es (.ok es [] 0 []))))

def execMdp (g : BitVec 4) (a : BitVec 7) (s : State) : Host.Outcome State Fault Refusal :=
  .next (s.arraySlot g 7 0 (oneOperand s a) (fun t v x _ => s.mdpCheck t v x))

/-- The stage bits of mdr and mstr: bias, act, rq, hist, tap, keep, x (R284). -/
def stg (ctl k : Nat) : Bool := bitN ctl k

/-- The checks of mdr and mstr on their operands (R284 to R288). -/
def State.drainCheck (s : State) (t : Task) (v : ArrayView) (x y : W64) (ctl : Nat) (stream : Bool) (k : Nat → ArrayCheck) : ArrayCheck :=
  let fs := (if stream then [(47, 32)] else [(1, 0)]) ++ (if stg ctl 5 then [(14, 8)] else []) ++ (if stg ctl 6 then [(21, 16)] else []) ++
    (if stg ctl 4 then [(27, 24)] else [])
  s.check10 [(!onlyFields x fs || !onlyFields y (if stg ctl 7 then [(21, 0)] else []), 0)] (v.needs s (fun c cy =>
    let f := bits x 13 8
    s.check10 [((stg ctl 7 || stg ctl 6) && !(cellTy c cy).flt, 0), (stg ctl 1 && (upFrom 3 5).any (stg ctl), 0), (decide (7 < bits x 21 16), 0),
               (stg ctl 5 && !(if bit x 14 then mxElemCode f else laneCodeOk f), 0),
               (stg ctl 3 && !((s.core s.myCore).tap.any (fun p => some p.tag.u == s.me.task)), 3),
               (stg ctl 6 && bits x 21 16 == 7 && !v.table, 7)]
      (extentsOk t false (if stg ctl 7 then [(panelOff y, 512)] else []) (k (if stg ctl 5 && cfgRnd c = 4 then 16384 else 0)))))

/-- The checks of mdr at issue (R284 to R287, R300). -/
def State.mdrCheck (s : State) (t : Task) (v : ArrayView) (ctl : Nat) (x y : W64) : ArrayCheck :=
  s.drainCheck t v x y ctl false (fun draw => s.check10 [(decide (t.tiles.length ≤ bits x 1 0), 2)]
    (.ok (if stg ctl 7 then [(panelOff y, 512)] else []) (t.tileRows (bits x 1 0) true) draw []))

def execMdr (g : BitVec 4) (a b : BitVec 7) (st : BitVec 7) (s : State) : Host.Outcome State Fault Refusal :=
  .next (
    let ctl := st.toNat * 2
    s.arraySlot g 8 ctl (s.with2 a b) (fun t v x y => s.mdrCheck t v ctl x y))

/-- Stream n of the core, if it is open (R424); a stream that is shut while rows of it are left may stand under a larger number. -/
def State.openStream (s : State) (n : Nat) : Option Stream := if 16 ≤ n then none else (find? n (s.core s.myCore).streams).bind (fun q => if q.shut then none else some q)

/-- The task of a stream and its tag, while the stream is open. -/
def State.streamTask (s : State) (n : Nat) : Option (Task × Tag) :=
  (s.openStream n).bind (fun q => (s.task? s.myDie q.tag.u).map (fun o => (o, q.tag)))

/-- The state with the bytes of an mstr armed on the handle of its stream (R216, R424). -/
def State.armStream (s : State) (n : Nat) : State :=
  match s.streamTask n with
  | none => s
  | some (o, q) => s.updateBarrier s.myCore o q.h (fun y => y.arm 65536)

/-- The checks of mstr at issue (R288, R300); the instruction keeps the number of the stream it finds open. -/
def State.mstrCheck (s : State) (t : Task) (v : ArrayView) (ctl : Nat) (x y : W64) : ArrayCheck :=
  s.drainCheck t v x y ctl true (fun draw =>
    match s.openStream (bits x 47 32) with
    | none => s.sub10 3
    | some q =>
      match (s.streamTask (bits x 47 32)).bind (fun p => s.armCause p.1 p.2.h 65536 (0x11, info11 6 0 p.2.h s.bun.word.toNat)) with
      | some (c, i) => .fault c i
      | none => .ok (if stg ctl 7 then [(panelOff y, 512)] else []) [] draw [q.tag.tok])

/-- mstr (R288). -/
def execMstr (g : BitVec 4) (a b : BitVec 7) (st : BitVec 7) (s : State) : Host.Outcome State Fault Refusal :=
  .next (
    let ctl := st.toNat * 2
    s.arraySlot g 9 ctl (s.with2 a b) (fun t v x y => s.mstrCheck t v ctl x y)
      (fun x s => s.armStream (bits x 47 32)))

/-- The checks of mzero at issue (R279, R300). -/
def State.mzeroCheck (s : State) (v : ArrayView) : ArrayCheck := v.needs s (fun _ _ => .ok [] [] 0 [])

def execMzero (g : BitVec 4) (s : State) : Host.Outcome State Fault Refusal :=
  .next (s.arraySlot g 10 0 (noOperands s) (fun _ v _ _ => s.mzeroCheck v))

/-- lo, lo + 1,023 h and h are finite, and h is positive (R289). -/
def tableOk (y : W64) : Bool :=
  let lo := decF32 (bits y 31 0)
  let h := decF32 (bits y 63 32)
  let top := lo.add 0 ((XReal.fin false 1023 0).mul h)
  let finite := fun (x : XReal) => !x.isNan && !x.isInf
  finite lo && finite h && !h.neg? && !h.isZero && finite top && finite (decF32 (encF32 top))

/-- The checks of mtab at issue (R289, R300). -/
def State.mtabCheck (s : State) (t : Task) (x y : W64) : ArrayCheck := s.check10 [(!onlyFields x [(21, 0)] || !tableOk y, 0)] (extentsOk t false [(panelOff x, 4096)] (.ok [(panelOff x, 4096)] [] 0 []))

def execMtab (g : BitVec 4) (a b : BitVec 7) (s : State) : Host.Outcome State Fault Refusal :=
  .next (s.arraySlot g 11 0 (s.with2 a b) (fun t _ x y => s.mtabCheck t x y))

/-- The checks of mhist at issue (R290, R300). -/
def State.mhistCheck (s : State) (t : Task) (r l : BitVec 1) (ctl : Nat) (x y : W64) : ArrayCheck :=
  s.check10 [(ctl == 0 || !onlyFields x (if r = 1 then [(21, 0)] else []) || !onlyFields y (if l = 1 then [(15, 8), (3, 0)] else [(3, 0)]), 0)]
    (extentsOk t true (if r = 1 then [(panelOff x, 128)] else []) (.ok [] [] 0 []))

def execMhist (g : BitVec 4) (a b : BitVec 7) (r c l : BitVec 1) (s : State) : Host.Outcome State Fault Refusal :=
  .next (
    let ctl := r.toNat * 128 + c.toNat * 64 + l.toNat * 32
    s.arraySlot g 12 ctl (s.with2 a b) (fun t _ x y => s.mhistCheck t r l ctl x y))

/-- mbind writes vbind (R291). -/
def execMbind (g : BitVec 4) (a : BitVec 7) (t : BitVec 2) (y : BitVec 6) (s : State) : Host.Outcome State Fault Refusal :=
  .next (s.guarded g (s.withSource a (fun v =>
    let off := bit v 4
    let fail := fun sub => s.raise 0x10 (info10 sub 0 s.bun.word.toNat)
    if bits v 63 5 != 0 || decide (4 < bits v 2 0) || (if off then t != 0 || y != 0 else !laneCodeOk y.toNat) then fail 0
    else if off then s.modMe (fun c => { c with vbind := 0 })
    else match s.boundTask s.cur with
      | none => fail 2
      | some k =>
        if k.tiles.length ≤ t.toNat then fail 2
        else s.modMe (fun c => { c with vbind := w64 (2 ^ 63 + bits v 3 3 * 2 ^ 16 + bits v 2 0 * 2 ^ 13 + t.toNat * 2 ^ 8 + y.toNat) }))))

/-- The status of mst (R292). -/
def State.arrayStatus (s : State) : W64 :=
  let c := s.me
  let a := (s.core s.myCore).array
  let hold := a.holder.isSome && a.holder == c.task
  let mine := a.queue.filter (fun q => some q.2.tag.u == c.task && s.before q.1)
  let d := find? 0x10 c.deferred
  let left := match mine.find? (fun q => q.2.run) with
    | some q => Nat.min 4095 (cmdBeats q.2.op q.2.av - q.2.beat)
    | none => 0
  w64 (b2n hold * 2 ^ 63 + b2n (hold && a.conf) * 2 ^ 62 + b2n (!mine.isEmpty) * 2 ^ 61 + mine.length * 2 ^ 58 + b2n d.isSome * 2 ^ 57 +
    (match d with | some x => bits x.info 63 60 | none => 0) % 16 * 2 ^ 53 + left)

def execMst (g : BitVec 4) (a : BitVec 7) (s : State) : Host.Outcome State Fault Refusal :=
  .next (if 64 ≤ a.toNat then s.undefinedEncoding else s.toReg g a (s.writeReg a s.arrayStatus))

/-- mfence (R296). -/
def execMfence (g : BitVec 4) (s : State) : Host.Outcome State Fault Refusal :=
  .next (s.guarded g (s.waitWhile ((s.core s.myCore).array.queue.any (fun q => some q.2.tag.u == s.me.task && s.before q.1)) s))

-- Execution -------------------------------------------------------------------------------------------------------------------

/-- What an array instruction writes: the rows that mdr drains, the scratchpad bytes of mhist (R34). -/
def ArrayCmd.writes (m : ArrayCmd) : Writes :=
  ⟨if m.op = 8 then m.rows.map (·.1) else [], if m.op = 12 && bitN m.ctl 7 then [(panelOff m.av, 128)] else [], []⟩

/-- A deferred array fault (R300). -/
def State.deferArray (s : State) (m : ArrayCmd) (sub beat : Nat) : State := s.deferFault m.tag 0x10 (info10 sub beat m.word) m.writes

/-- The elements of lane i of a slice at an offset, one or four, with the block scale in an MX pass (R273). -/
def laneElems (x : W64) (f : Nat) (bs : List Byte) (i : Nat) (scale : Option Nat) : List XReal :=
  let ft := (fmtOf f).getD .raw
  let n := if fourWide x then 4 else 1
  let e := if fourWide x then 1 else ft.size
  (upFrom 0 n).map (fun q =>
    let code := ofBytes ((bs.drop (n * e * i + e * q)).take e)
    match scale with
    | none => ft.decode code
    | some sc => mxValue ft code sc)

/-- The lanes of beats k0 to k0 + n - 1 of a panel: for each beat 128 lanes of elements (R272, R273). -/
def State.panelLanes (s : State) (c : Nat) (t : Task) (x v : W64) (f size k0 n : Nat) : List (List (List XReal)) :=
  let st := panelStride v size
  (upFrom k0 n).map (fun k =>
    let bs := s.spadRead c t (panelOff v + slicePos x k * st) size
    let scs := if cfgMx x then s.spadRead c t (panelOff v + (k / 8 * 9 + 8) * st) 128 else []
    (upFrom 0 128).map (fun i => laneElems x f bs i (if cfgMx x then some (scs.getD i 0).toNat else none)))

/-- A row as an array instruction reads it: as before its own bundle, or as it stands (R237). -/
def ArrayCmd.rowOf (m : ArrayCmd) (k : Core) (r : Nat) : Row := match find? r m.old with | some x => x.1 | none => k.row r
def ArrayCmd.rowPoisoned (m : ArrayCmd) (k : Core) (r : Nat) : Bool := match find? r m.old with | some x => x.2 | none => (find? r k.rowPoison).isSome

/-- The lanes of the down-converter (R281). -/
def State.downLanes (s : State) (c : Nat) (t : Task) (x : W64) (m : ArrayCmd) : List (List (List XReal)) :=
  let u := bits m.av 21 16
  let fu := (fmtOf u).getD .raw
  let fa := (fmtOf (cfgA x)).getD .raw
  let l0 := bits m.av 15 8
  let q4 := if fourWide x then 4 else 1
  (upFrom 0 (cmdBeats 5 m.av)).map (fun k => (upFrom 0 128).map (fun i => (upFrom 0 q4).map (fun q =>
    let row := m.rowOf (s.core c) ((t.row? (bits m.av 1 0) i).getD 0)
    let v := fu.decode (laneN row.toNat fu.size (l0 + q4 * k + q))
    let cn := if cfgRnd x = 4 then coin m.tag.seed.toNat (m.tag.draw + q4 * (128 * k + i) + q) else 0
    fa.decode (fa.enc v (cfgRnd x) (cfgOvf x) cn))))

/-- Column j's dense elements of a beat of msp, and whether some group has too many mask bits (R282). -/
def sparseColumn (f n : Nat) (vs ms : List Byte) : List XReal × Bool :=
  let ft := (fmtOf f).getD .raw
  let groups := (upFrom 0 (4 / n)).map (fun g =>
    let m := (ms.getD g 0).toNat
    if n < popcountN 8 m then (List.replicate 8 XReal.zero, true)
    else ((upFrom 0 8).map (fun e => if bitN m e then ft.decode (vs.getD (n * g + popcountN 8 (m % 2 ^ e)) 0).toNat else .zero), false))
  ((groups.map (·.1)).flatten, groups.any (·.2))

/-- The A and B lanes of beats of msp, with the beats that have a bad group. -/
def State.sparseLanes (s : State) (c : Nat) (t : Task) (x : W64) (m : ArrayCmd) (k0 n : Nat) :
    List (List (List XReal)) × List (List (List XReal)) × List Nat :=
  let nn := mspN m.ctl
  let gg := 32 / nn
  let fa := (fmtOf (cfgA x)).getD .raw
  let as_ := (upFrom k0 n).map (fun k =>
    let bs := s.spadRead c t (panelOff m.av + k * panelStride m.av (128 * gg)) (128 * gg)
    (upFrom 0 128).map (fun i => ((bs.drop (gg * i)).take gg).map (fun b => fa.decode b.toNat)))
  let bcols := (upFrom k0 n).map (fun k =>
    let vs := s.spadRead c t (panelOff m.bv + k * panelStride m.bv 512) 512
    let ms := s.spadRead c t (bits m.bv 53 32 + k * (512 / nn)) (512 / nn)
    (upFrom 0 128).map (fun j => sparseColumn (cfgB x) nn ((vs.drop (4 * j)).take 4) ((ms.drop (4 / nn * j)).take (4 / nn))))
  (as_, bcols.map (fun b => b.map (·.1)), ((upFrom k0 n).zip bcols).filterMap (fun p => if p.2.any (·.2) then some p.1 else none))

/-- Lane i of every beat. -/
def laneOf (ls : List (List (List XReal))) (i : Nat) : List (List XReal) := ls.map (fun l => l.getD i [])

/-- Beats k0 to k0 + n - 1 of a pass of mmk, mmc or msp on every cell (R272), with the beats of msp that have a bad group. -/
def State.runBeats (s : State) (c : Nat) (t : Task) (m : ArrayCmd) (k0 n : Nat) : List Cell × List Nat :=
  let a := (s.core c).array
  let x := a.cfg0
  let ty := cellTy a.cfg0 a.cfg1
  let (sa, sb, bad) := if m.op = 6 then s.sparseLanes c t x m k0 n else ([], [], [])
  let al := if m.op = 6 then sa else if m.op = 5 then s.downLanes c t x m else if cfgFlow x = 2 then [] else s.panelLanes c t x m.av (cfgA x) (aSlice x) k0 n
  let bl := if m.op = 6 then sb else if cfgFlow x = 1 then [] else s.panelLanes c t x m.bv (cfgB x) (bSlice x) k0 n
  let rows := rows128 128 a.all
  let as_ := (upFrom 0 128).map (fun i =>
    if m.op = 4 && cfgFlow x = 2 then (upFrom k0 n).map (fun k => stationary x (((rows.getD i []).getD k cellInit).c0)) else laneOf al i)
  let bs := (upFrom 0 128).map (fun j =>
    if m.op != 6 && cfgFlow x = 1 then (upFrom k0 n).map (fun k => stationary x (((rows.getD k []).getD j cellInit).c0)) else laneOf bl j)
  ((rows.zip as_).map (fun r =>
    (r.1.zip bs).map (fun p => cellBeats x ty a.prog k0 (r.2.zip p.2) (p.1, []))) |>.flatten, bad)

/-- The cells of one row in beats d0 to d1 - 1 of a wavefront pass (R283): `w` and `nw` are the west and northwest values of the next cell. -/
def waveRow (x : W64) (t : CellTy) (prog : List Nat) (d0 d1 i : Nat) : Nat → Int → Int → List (Int × Cell) → List Cell
  | _, _, _, [] => []
  | j, w, nw, (n, c) :: rest =>
    let e : Beat := ⟨[t.real w], [t.real n], nw, 0, none⟩
    let c := if d0 ≤ i + j && i + j < d1 then (runUops x t e 0 prog (c, [])).1 else c
    c :: waveRow x t prog d0 d1 i (j + 1) (t.sat c.acc) n rest

/-- The rows from row i on: `ns` the values to the north, `corner` to the northwest, `ws` the boundary values to the west. -/
def waveRows (x : W64) (t : CellTy) (prog : List Nat) (d0 d1 : Nat) : Nat → List Int → Int → List Int → List (List Cell) → List (List Cell)
  | _, _, _, _, [] => []
  | i, ns, corner, ws, r :: rest =>
    let r := waveRow x t prog d0 d1 i 0 (ws.headD 0) corner (ns.zip r)
    r :: waveRows x t prog d0 d1 (i + 1) (r.map (fun c => t.sat c.acc)) (ws.headD 0) ws.tail rest

def State.runWave (s : State) (c : Nat) (t : Task) (m : ArrayCmd) (d0 d1 : Nat) : List Cell :=
  let a := (s.core c).array
  let ty := cellTy a.cfg0 a.cfg1
  let e := codeSize (cfgC a.cfg0)
  let vs := (upFrom 0 257).map (fun k => ty.ofBits (ofBytes (s.spadRead c t (panelOff m.av + e * k) e)))
  (waveRows a.cfg0 ty a.prog d0 d1 0 ((vs.drop 1).take 128) (vs.headD 0) (vs.drop 129) (rows128 128 a.all)).flatten

/-- The scratchpad bytes of a panel that one beat reads (R273). -/
def beatPanel (x v : W64) (size k : Nat) : List (Nat × Nat) :=
  (panelOff v + slicePos x k * panelStride v size, size) ::
    (if cfgMx x then [(panelOff v + (k / 8 * 9 + 8) * panelStride v size, 128)] else [])

/-- The scratchpad bytes that beat k of a pass reads (R280 to R283). -/
def beatExtents (x : W64) (m : ArrayCmd) (k : Nat) : List (Nat × Nat) :=
  match m.op with
  | 4 => (if cfgFlow x = 2 then [] else beatPanel x m.av (aSlice x) k) ++ (if cfgFlow x = 1 then [] else beatPanel x m.bv (bSlice x) k)
  | 5 => if cfgFlow x = 1 then [] else beatPanel x m.bv (bSlice x) k
  | 6 => cmdExtents x 6 m.av m.bv m.ctl k (k + 1)
  | _ =>
    let e := codeSize (cfgC x)
    let at_ := fun (n : Nat) => (panelOff m.av + e * n, e)
    (if k = 0 then [at_ 0] else []) ++ (if k < 128 then [at_ (1 + k), at_ (129 + k)] else [])

/-- The inputs of beat k have an uncorrectable error: bytes that it reads, rows, which every beat of mmc reads, or the stationary operand (R300, R301). -/
def State.badInput (s : State) (c : Nat) (t : Task) (m : ArrayCmd) (k : Nat) : Bool :=
  let a := (s.core c).array
  let f := cfgFlow a.cfg0
  (m.op == 5 && m.rows.any (fun r => m.rowPoisoned (s.core c) r.1)) || (a.bad.c0 && (f == 1 || f == 2)) ||
    (!(s.core c).badSpad.isEmpty && (beatExtents a.cfg0 m k).any (fun e => s.spadBad c t e.1 e.2))

/-- A source of a micro-op reads a bad part: `ab` for the inputs of the beat. -/
def ArrayMarks.source (b : ArrayMarks) (ab : Bool) (wave : Bool) (s : Nat) : Bool :=
  match s with
  | 0 => ab
  | 1 => ab
  | 2 => b.c0
  | 3 => b.c1
  | 4 => b.acc
  | 5 => b.t
  | 6 => wave && ab
  | _ => false

/-- What a micro-op spoils (R270), and whether it reads a bad part: `m` says that an earlier PASS of the beat read one, so that what it writes may stand
or not, and `p` that there was a PASS. -/
def ArrayMarks.uop (ab wave : Bool) (r : ArrayMarks × Bool × Bool × Bool) (w : Nat) : ArrayMarks × Bool × Bool × Bool :=
  let (b, seen, m, p) := r
  let op := uopOp w
  let hit := (([uopS w 1, uopS w 2, uopS w 3].take (uopSources op)).any (b.source ab wave)) || (decide (1 ≤ op) && decide (op ≤ 6) && b.acc)
  let write := fun (old : Bool) => hit || m || (p && old)
  let b := match op with
    | 0 => b
    | 13 => b
    | 6 => { b with acc := hit || m || b.acc, x := hit || m || b.x }
    | _ => if op ≤ 5 then { b with acc := hit || m || b.acc } else match uopDst w with
      | 0 => { b with acc := write b.acc }
      | 1 => { b with t := write b.t }
      | _ => { b with x := write b.x }
  (b, seen || hit, m || (op == 13 && hit), p || op == 13)

/-- What beats k0 to k1 - 1 of a pass spoil, and the first of them that meets an uncorrectable error (R300, R301). -/
def State.spoiled (s : State) (c : Nat) (t : Task) (m : ArrayCmd) (k0 k1 : Nat) : ArrayMarks × Option Nat :=
  let a := (s.core c).array
  let wave := cfgFlow a.cfg0 == 3
  if a.bad = ArrayMarks.clean && (s.core c).badSpad.isEmpty && m.op != 5 then (a.bad, none)
  else (upFrom k0 (k1 - k0)).foldl (fun (r : ArrayMarks × Option Nat) k =>
    let ab := s.badInput c t m k || (wave && r.1.acc)
    let (b, seen, _, _) := a.prog.foldl (ArrayMarks.uop ab wave) (r.1, ab, false, false)
    let b := if a.bad.prog then { b with acc := true, x := true, t := true } else b
    (b, r.2.orElse (fun _ => if seen || a.bad.prog then some k else none))) (a.bad, none)

/-- The next beats of a pass: up to its next interrupt point (R297). Of two faults the one of the earlier beat is recorded first (R300; log 97). -/
def State.arraySegment (s : State) (c : Nat) (t : Task) (k : Nat) (m : ArrayCmd) : State :=
  let K := cmdBeats m.op m.av
  let k0 := m.beat
  let k1 := Nat.min K (k0 + 128)
  let x := (s.core c).array.cfg0
  let (marks, fail) := s.spoiled c t m k0 k1
  let (cells, bad) := if m.op = 7 then (s.runWave c t m k0 k1, []) else s.runBeats c t m k0 (k1 - k0)
  let m := { m with run := true, beat := k1, reads := if m.op = 7 then (if k1 = K then [] else m.reads) else cmdExtents x m.op m.av m.bv m.ctl k1 K,
                    rows := if k1 = K then [] else m.rows }
  let s := s.modArray c (fun a => { a with cells := cells, bad := marks, queue := put k m a.queue })
  match bad.head?, fail with
  | none, none => s
  | some b, none => s.deferArray m 5 b
  | none, some e => s.deferArray m 6 e
  | some b, some e => if e < b then (s.deferArray m 6 e).deferArray m 5 b else (s.deferArray m 5 b).deferArray m 6 e

-- The drain (R284 to R288) ----------------------------------------------------------------------------------------------------

/-- The user table (R289). -/
def UserTable.eval (u : UserTable) (v : XReal) : Nat :=
  let lo := decF32 u.lo
  let h := decF32 u.h
  let ent := fun i => decF32 (u.entries.getD i 0)
  let entryCode := fun i => encF32 (ent i)
  if v.isNan then f32Fmt.nanCode
  else if v.le lo then entryCode 0
  else if (lo.add 0 ((XReal.fin false 1023 0).mul h)).le v then entryCode 1023
  else
    let d := v.sub 0 lo
    let i : Nat := match d, h with
      | .fin _ m e, .fin _ k f => (let q := if e ≤ f then e else f; m * 2 ^ (e - q).toNat / (k * 2 ^ (f - q).toNat))
      | _, _ => 0
    let rest := d.sub 0 ((XReal.ofInt (i : Nat)).mul h)
    encF32 ((((ent i).mul h).add 0 (rest.mul ((ent (i + 1)).sub 0 (ent i)))).div h)

/-- The activation functions on an f32 code (R285). -/
def activation (tab : Option UserTable) (code v : Nat) : Nat :=
  match code with
  | 0 => v
  | 1 => VFun.exp.lane f32Fmt v
  | 2 => VFun.tanh.lane f32Fmt v
  | 3 => VFun.sig.lane f32Fmt v
  | 4 => VFun.gelu.lane f32Fmt v
  | 5 => VFun.silu.lane f32Fmt v
  | 6 => let x := decF32 v; if x.isNan then f32Fmt.nanCode else if XReal.zero.lt x then v else 0
  | _ => match tab with | some u => u.eval (decF32 v) | none => v

/-- The histogram bin of a value under a lowest exponent (R287). -/
def histBin (e : Int) (v : XReal) : Nat :=
  match v with
  | .fin _ m k =>
    if m = 0 || flog2 m k < e then 0 else if e + 30 ≤ flog2 m k then 31 else (flog2 m k - e + 1).toNat
  | _ => 31

/-- The element of a drained row before requantisation: bias and activation applied (R284). -/
def drainValue (t : CellTy) (ctl act : Nat) (tab : Option UserTable) (bias : Nat) (v : Int) : Int :=
  let v := if stg ctl 7 then encI ((decI v).add 0 (decF32 bias)) else v
  if stg ctl 6 then (activation tab act v.toNat : Nat) else if t.flt then v else t.sat v

/-- The bytes of a drained row (R286): `f` the output format, MX blocks or plain. -/
def drainRow (f : Nat) (mx : Bool) (rnd : Nat) (ovf : Bool) (vs : List XReal) (coins : List Nat) : List Byte :=
  let ft := (fmtOf f).getD .raw
  if mx then
    let bl := ((groups32 4 vs).zip (groups32 4 coins)).map (fun p => mxEncode ft p.1 rnd ovf p.2)
    (bl.map (fun p => p.2.map (fun (x : Nat) => BitVec.ofNat 8 x))).flatten ++ bl.map (fun p => BitVec.ofNat 8 p.1)
  else ((vs.zip coins).map (fun p => bytesOf ft.size (ft.enc p.1 rnd ovf p.2))).flatten

/-- What a drain gives for one row of cells: its bytes, the values counted and tapped, and the cells after it. -/
structure Drained where
  bytes : List Byte
  vals : List XReal
  cells : List Cell

/-- A drain reads a part of the array with an uncorrectable error (R300): x, or acc, or the user table. -/
def ArrayUnit.drainBad (a : ArrayUnit) (m : ArrayCmd) : Bool :=
  if stg m.ctl 1 then a.bad.x else a.bad.acc || (stg m.ctl 6 && decide (7 ≤ bits m.av 21 16) && a.bad.table)

/-- Row i of a drain (R284). What an uncorrectable error spoils gives free values (R300). -/
def State.drainOne (s : State) (a : ArrayUnit) (m : ArrayCmd) (poor : Bool) (bias : List Nat) (i : Nat) (row : List Cell) : Drained :=
  let t := cellTy a.cfg0 a.cfg1
  let ctl := m.ctl
  let idx := upFrom (128 * i) 128
  if stg ctl 1 then
    ⟨((row.zip idx).map (fun p => bytesOf 2 (if poor then (Config.freeWord (s.free + p.2)).toNat else p.1.x))).flatten, [],
     if stg ctl 2 then row else row.map (fun c => { c with x := 0 })⟩
  else
    let accs := (row.zip idx).map (fun p => if poor then t.ofBits (Config.freeWord (s.free + p.2)).toNat else t.sat p.1.acc)
    let vs := (accs.zip (upFrom 0 128)).map (fun p => drainValue t ctl (bits m.av 21 16) a.table (bias.getD p.2 0) p.1)
    let reals := vs.map t.real
    let bs := if stg ctl 5 then
        drainRow (bits m.av 13 8) (bit m.av 14) (cfgRnd a.cfg0) (cfgOvf a.cfg0) reals
          (idx.map (fun n => if cfgRnd a.cfg0 = 4 then coin m.tag.seed.toNat (m.tag.draw + n) else 0))
      else (vs.map (fun v => bytesOf (t.w / 8) (t.toBits v))).flatten
    ⟨bs, reals, if stg ctl 2 then row else row.map (fun c => { c with acc := t.ident })⟩

/-- A value counted in the histogram; a counter saturates (R287). -/
def ArrayUnit.count (a : ArrayUnit) (tag : Nat) (v : XReal) : ArrayUnit :=
  let k := 32 * tag + histBin (getD tag (-126) a.low) v
  { a with hist := put k (Nat.min (2 ^ 32 - 1) (getD k 0 a.hist + 1)) a.hist }

/-- mdr and mstr: 128 rows in order (R284, R288). -/
def State.drain (s : State) (c : Nat) (t : Task) (k : Nat) (m : ArrayCmd) : State :=
  let a := (s.core c).array
  let bad := a.drainBad m || m.reads.any (fun e => s.spadBad c t e.1 e.2)
  let bias := if stg m.ctl 7 then (upFrom 0 128).map (fun j => ofBytes (s.spadRead c t (panelOff m.bv + 4 * j) 4)) else []
  let ds := ((rows128 128 a.all).zip (upFrom 0 128)).map (fun p => s.drainOne a m bad bias p.2 p.1)
  let a := if stg m.ctl 4 then ds.foldl (fun a d => d.vals.foldl (fun a v => a.count (bits m.av 27 24) v) a) a else a
  let b := if stg m.ctl 4 && bad then { a.bad with tags := insertNat (bits m.av 27 24) a.bad.tags } else a.bad
  let b := if stg m.ctl 2 then b else if stg m.ctl 1 then { b with x := false } else { b with acc := false }
  let a := { a with cells := (ds.map (·.cells)).flatten, bad := b,
                    queue := put k { m with run := true, beat := 0, reads := [], rows := [] } a.queue }
  let s := s.modArray c (fun _ => a)
  let s := { s with free := s.free + 16384 }
  let s := if m.op = 8 then
      ((ds.zip m.rows).foldl (fun s p =>
        let s := s.putRow c p.2.1 (rowOfBytes p.1.bytes)
        if bad then s.modCore c (fun q => { q with rowPoison := put p.2.1 ⟨0x16, info16 5 0⟩ q.rowPoison }) else s) s)
    else
      s.modCore c (fun q => { q with streams := q.streams.map (fun r =>
        if m.img.head? = some r.2.tag.tok then
          (r.1, { r.2 with count := r.2.count + 128,
                           rows := r.2.rows ++ (ds.zip (upFrom r.2.count 128)).map (fun p => (p.2, m.tag, bytesOf 512 (rowOfBytes p.1.bytes).toNat)) })
        else r) })
  let s := if stg m.ctl 3 && (s.core c).tap.any (fun p => p.tag.u == m.tag.u) then
      ds.foldl (fun s d =>
        let (n, s) := s.fresh
        s.modCore c (fun q => { q with tapRows := q.tapRows ++ [(n, d.vals.map encF32)] })) s
    else s
  if bad then s.deferArray m 6 0 else s

-- Events ----------------------------------------------------------------------------------------------------------------------

/-- mld (R278). -/
def State.loadCells (s : State) (c : Nat) (t : Task) (m : ArrayCmd) : List Cell :=
  let a := (s.core c).array
  let x := a.cfg0
  let e := laneBytes x (if cfgFlow x = 2 then cfgA x else cfgB x)
  let st := panelStride m.av (128 * e)
  (((rows128 128 a.all).zip (upFrom 0 128)).map (fun p =>
    let bs := s.spadRead c t (panelOff m.av + p.2 * st) (128 * e)
    (p.1.zip (upFrom 0 128)).map (fun q =>
      let v := ofBytes ((bs.drop (e * q.2)).take e)
      if m.ctl = 128 then { q.1 with c1 := v } else { q.1 with c0 := v }))).flatten

/-- mhist: one update of a tag (R290). -/
def State.histUpdate (s : State) (c : Nat) (t : Task) (m : ArrayCmd) : State :=
  let tag := bits m.bv 3 0
  let a := (s.core c).array
  let s := if bitN m.ctl 7 then
      let s := s.spadWrite c t (panelOff m.av) ((upFrom 0 32).map (fun j => bytesOf 4 (getD (32 * tag + j) 0 a.hist))).flatten
      if a.bad.tags.contains tag then s.spoilSpad c t (panelOff m.av) 128 else s
    else s
  let s := if bitN m.ctl 6 then s.modArray c (fun a => { a with hist := (upFrom 0 32).foldl (fun h j => del (32 * tag + j) h) a.hist,
                                                                 bad := { a.bad with tags := a.bad.tags.filter (· != tag) } }) else s
  if bitN m.ctl 5 then s.modArray c (fun a => { a with low := put tag (signedN 8 (bits m.bv 15 8)) a.low }) else s

/-- A row that the instruction reads or writes is awaited by an earlier load of the holder's context (R295). -/
def State.rowsAwaited (s : State) (t : Task) (m : ArrayCmd) : Bool :=
  match t.ctx with
  | none => false
  | some g => m.rows.any (fun r => (s.ctx g).pend.any (fun p => p.1 == 256 + r.1))

/-- The array of a core may run instructions of its holder: not while a pre-emption that does not drain keeps the task off its context (R297,
R298). -/
def State.arrayRuns (s : State) (c : Nat) (t : Task) : Bool :=
  (s.core c).array.rel || match t.ctx with
    | none => false
    | some g => (s.ctx g).life != .saving || (s.ctx g).preempt != some false

/-- An instruction that is no pass runs whole (R293); what it loads from bad words is bad (R300). -/
def State.arrayPlain (s : State) (c : Nat) (t : Task) (k : Nat) (m : ArrayCmd) : State :=
  let lost := m.op == 12 && bitN m.ctl 7 && (s.core c).array.bad.tags.contains (bits m.bv 3 0)
  let bad := m.reads.any (fun e => s.spadBad c t e.1 e.2)
  let done := { m with run := true, reads := [], rows := [] }
  let fin := fun (s : State) (f : ArrayUnit → ArrayUnit) => s.modArray c (fun a => let a := f a; { a with queue := put k done a.queue })
  let s := match m.op with
    | 1 => fin s (fun a => ({ a with conf := true, cfg0 := m.av, cfg1 := m.bv, prog := standardProg m.av, bad := { a.bad with prog := false } } : ArrayUnit).zeroed)
    | 2 => fin s (fun a => { a with prog := m.img, bad := { a.bad with prog := false } })
    | 3 => fin s (fun a => { a with cells := s.loadCells c t m, bad := if m.ctl = 128 then { a.bad with c1 := bad } else { a.bad with c0 := bad } })
    | 10 => fin s ArrayUnit.zeroed
    | 11 => fin s (fun a => { a with bad := { a.bad with table := bad }, table := some ⟨bits m.bv 31 0, bits m.bv 63 32,
        (upFrom 0 1024).map (fun i => ofBytes (s.spadRead c t (panelOff m.av + 4 * i) 4))⟩ })
    | _ => fin (s.histUpdate c t m) id
  if bad || lost then s.deferArray m 6 0 else s

/-- The next instruction of the queue starts (R293); a pass runs to its first interrupt point. -/
def execArrayInstructionStart (c : Nat) (s : State) : Host.Outcome State Fault Refusal :=
  onUnit (coreOk c) (match (s.core c).array.queue.head?, (s.core c).array.holder.bind (s.task? (dieOfCore c)) with
    | some (k, m), some t =>
      if m.run || (s.core c).array.paused || !s.arrayRuns c t || s.rowsAwaited t m then s
      else if 4 ≤ m.op && m.op ≤ 7 then
        let s := if bitN m.ctl 7 then s.modArray c ArrayUnit.zeroed else s
        s.arraySegment c t k m
      else if m.op = 8 || m.op = 9 then s.drain c t k m
      else s.arrayPlain c t k m
    | _, _ => s)

/-- A pass at an interrupt point stops there while a pre-emption that does not drain is pending, and goes on otherwise (R297). -/
def execArrayPassInterrupt (c : Nat) (s : State) : Host.Outcome State Fault Refusal :=
  onUnit (coreOk c) (match (s.core c).array.queue.head?, (s.core c).array.holder.bind (s.task? (dieOfCore c)) with
    | some (k, m), some t =>
      if !m.run || (s.core c).array.paused || decide (cmdBeats m.op m.av ≤ m.beat) then s
      else if (match t.ctx with | some g => (s.ctx g).preempt == some false | none => !s.arrayRuns c t) then s.modArray c (fun a => { a with paused := true })
      else s.arraySegment c t k m
    | _, _ => s)

/-- An instruction completes: every beat done, and every row written or accepted (R296). -/
def execArrayInstructionComplete (c : Nat) (s : State) : Host.Outcome State Fault Refusal :=
  onUnit (coreOk c) (match (s.core c).array.queue.head? with
    | some (k, m) => if m.run && decide (cmdBeats m.op m.av ≤ m.beat) then s.modArray c (fun a => { a with queue := del k a.queue }) else s
    | none => s)

/-- The release takes effect: the array state is discarded and the tap disarmed (R263, R264, R325); a holder whose record has been written back
as ended gives up its tiles and scratchpad (R140). -/
def execArrayRelease (c : Nat) (s : State) : Host.Outcome State Fault Refusal :=
  onUnit (coreOk c) (
    let k := s.core c
    if k.array.rel && k.array.queue.isEmpty && k.tapRows.isEmpty then
      let s := s.modCore c (fun k => { k with array := ArrayUnit.init, tap := none })
      match k.array.holder with
      | none => s
      | some u => match s.task? (dieOfCore c) u with
        | some t => if t.closing then s.freeAlloc (dieOfCore c) u else s
        | none => s
    else s)

end Sys2Proof.Machine
end

