-- ==== Sys2Proof/Decode.lean ====
section
/-! DEFINITION. Decoding of slot words (R46, R60 to R76) and, after it, their encoding.
A word is decoded with its slot: the same 32 bits mean different instructions in different slots (R18).
The bundle is eight words, slot Sk at bytes 4k to 4k + 3, each little-endian (R3, R18). -/

namespace Sys2Proof

/-- Why a slot word is refused (R46). -/
inductive DecodeError where
  /-- cause 0x01: an unallocated opcode, or a used field with a value that has no meaning. -/
  | undefinedEncoding
  /-- cause 0x02: a reserved field that is not zero. -/
  | reservedField
deriving DecidableEq, Repr

/-- The field of `k` bits whose lowest bit is bit `lo` of the word (R4). -/
def fld (w : BitVec 32) (lo k : Nat) : BitVec k := BitVec.ofNat k (w.toNat / 2 ^ lo)

/-- The S0 map (R70): the instruction an opcode names, with the fields of the word; none where unallocated. -/
def opcodeControl (w : BitVec 32) : Option Instr :=
  match w.toNat / 2 ^ 26 with
  | 0x01 => some (.jmp (fld w 0 13))
  | 0x02 => some (.jmpc (fld w 10 3) (fld w 0 10))
  | 0x03 => some (.jmpi (fld w 0 7))
  | 0x04 => some (.jmpt (fld w 7 6) (fld w 0 7))
  | 0x05 => some (.jmpm (fld w 0 13))
  | 0x06 => some (.call (fld w 0 13))
  | 0x07 => some (.calli (fld w 0 7))
  | 0x09 => some (.loop (fld w 16 2) (fld w 13 3) (fld w 8 5) (fld w 0 8))
  | 0x0A => some (.loopi (fld w 16 2) (fld w 13 3) (fld w 8 5) (fld w 0 8))
  | 0x0B => some (.lbrk (fld w 0 3))
  | 0x0C => some (.wait (fld w 0 3))
  | 0x0D => some (.trap (fld w 0 8))
  | 0x0E => some (.brk (fld w 0 8))
  | 0x10 => some (.spawn (fld w 10 3) (fld w 0 7))
  | 0x14 => some (.tld (fld w 7 3) (fld w 0 7))
  | 0x15 => some (.tst (fld w 7 3) (fld w 0 7))
  | 0x39 => some (.sysr (fld w 7 6) (fld w 0 7))
  | 0x3A => some (.sysw (fld w 7 6) (fld w 0 7))
  | 0x3C => some (.gsub (fld w 0 7))
  | 0x00 => some .nop
  | 0x08 => some .ret
  | 0x11 => some .suspend
  | 0x12 => some .yield
  | 0x13 => some .endTask
  | 0x38 => some .eret
  | 0x3B => some .halt
  | _ => none

/-- The S1 and S2 map (R71): the instruction an opcode names, with the fields of the word; none where unallocated. -/
def opcodeScalar (w : BitVec 32) : Option Instr :=
  match w.toNat / 2 ^ 25 with
  | 0x01 => some (.add (fld w 21 4) (fld w 14 7) (fld w 7 7) (fld w 0 7))
  | 0x02 => some (.sub (fld w 21 4) (fld w 14 7) (fld w 7 7) (fld w 0 7))
  | 0x03 => some (.mul (fld w 21 4) (fld w 14 7) (fld w 7 7) (fld w 0 7))
  | 0x04 => some (.mulh (fld w 21 4) (fld w 14 7) (fld w 7 7) (fld w 0 7))
  | 0x05 => some (.mulhn (fld w 21 4) (fld w 14 7) (fld w 7 7) (fld w 0 7))
  | 0x06 => some (.div (fld w 21 4) (fld w 14 7) (fld w 7 7) (fld w 0 7))
  | 0x07 => some (.divn (fld w 21 4) (fld w 14 7) (fld w 7 7) (fld w 0 7))
  | 0x08 => some (.and (fld w 21 4) (fld w 14 7) (fld w 7 7) (fld w 0 7))
  | 0x09 => some (.or (fld w 21 4) (fld w 14 7) (fld w 7 7) (fld w 0 7))
  | 0x0A => some (.xor (fld w 21 4) (fld w 14 7) (fld w 7 7) (fld w 0 7))
  | 0x0B => some (.andn (fld w 21 4) (fld w 14 7) (fld w 7 7) (fld w 0 7))
  | 0x0C => some (.shl (fld w 21 4) (fld w 14 7) (fld w 7 7) (fld w 0 7))
  | 0x0D => some (.shr (fld w 21 4) (fld w 14 7) (fld w 7 7) (fld w 0 7))
  | 0x0E => some (.sra (fld w 21 4) (fld w 14 7) (fld w 7 7) (fld w 0 7))
  | 0x10 => some (.min (fld w 21 4) (fld w 14 7) (fld w 7 7) (fld w 0 7))
  | 0x11 => some (.max (fld w 21 4) (fld w 14 7) (fld w 7 7) (fld w 0 7))
  | 0x12 => some (.minn (fld w 21 4) (fld w 14 7) (fld w 7 7) (fld w 0 7))
  | 0x13 => some (.maxn (fld w 21 4) (fld w 14 7) (fld w 7 7) (fld w 0 7))
  | 0x14 => some (.cmp (fld w 21 4) (fld w 17 4) (fld w 14 3) (fld w 7 7) (fld w 0 7))
  | 0x15 => some (.sel (fld w 21 4) (fld w 14 7) (fld w 7 7) (fld w 0 7))
  | 0x16 => some (.li (fld w 21 4) (fld w 14 7) (fld w 0 14))
  | 0x17 => some (.lih (fld w 21 4) (fld w 14 7) (fld w 0 14))
  | 0x18 => some (.clz (fld w 21 4) (fld w 14 7) (fld w 7 7))
  | 0x19 => some (.ctz (fld w 21 4) (fld w 14 7) (fld w 7 7))
  | 0x1A => some (.popc (fld w 21 4) (fld w 14 7) (fld w 7 7))
  | 0x1B => some (.bext (fld w 21 4) (fld w 14 7) (fld w 7 7) (fld w 0 7))
  | 0x1C => some (.bins (fld w 21 4) (fld w 14 7) (fld w 7 7) (fld w 0 7))
  | 0x20 => some (.addsh1 (fld w 21 4) (fld w 14 7) (fld w 7 7) (fld w 0 7))
  | 0x21 => some (.addsh2 (fld w 21 4) (fld w 14 7) (fld w 7 7) (fld w 0 7))
  | 0x22 => some (.addsh3 (fld w 21 4) (fld w 14 7) (fld w 7 7) (fld w 0 7))
  | 0x23 => some (.addsh5 (fld w 21 4) (fld w 14 7) (fld w 7 7) (fld w 0 7))
  | 0x24 => some (.pand (fld w 21 4) (fld w 14 3) (fld w 7 3) (fld w 0 3))
  | 0x25 => some (.por (fld w 21 4) (fld w 14 3) (fld w 7 3) (fld w 0 3))
  | 0x26 => some (.pnot (fld w 21 4) (fld w 14 3) (fld w 7 3))
  | 0x30 => some (.faddF32 (fld w 21 4) (fld w 14 7) (fld w 7 7) (fld w 0 7))
  | 0x31 => some (.fsubF32 (fld w 21 4) (fld w 14 7) (fld w 7 7) (fld w 0 7))
  | 0x32 => some (.fmulF32 (fld w 21 4) (fld w 14 7) (fld w 7 7) (fld w 0 7))
  | 0x33 => some (.ffmaF32 (fld w 21 4) (fld w 14 7) (fld w 7 7) (fld w 0 7))
  | 0x34 => some (.fcmpF32 (fld w 21 4) (fld w 17 4) (fld w 14 3) (fld w 7 7) (fld w 0 7))
  | 0x35 => some (.fcvt (fld w 21 4) (fld w 14 7) (fld w 7 7) (fld w 4 3) (fld w 0 4))
  | 0x38 => some (.faddF64 (fld w 21 4) (fld w 14 7) (fld w 7 7) (fld w 0 7))
  | 0x39 => some (.fsubF64 (fld w 21 4) (fld w 14 7) (fld w 7 7) (fld w 0 7))
  | 0x3A => some (.fmulF64 (fld w 21 4) (fld w 14 7) (fld w 7 7) (fld w 0 7))
  | 0x3B => some (.ffmaF64 (fld w 21 4) (fld w 14 7) (fld w 7 7) (fld w 0 7))
  | 0x3C => some (.fcmpF64 (fld w 21 4) (fld w 17 4) (fld w 14 3) (fld w 7 7) (fld w 0 7))
  | 0x00 => some .nopScalar
  | _ => none

/-- The S3 map (R72): the instruction an opcode names, with the fields of the word; none where unallocated. -/
def opcodeMemory (w : BitVec 32) : Option Instr :=
  match w.toNat / 2 ^ 26 with
  | 0x01 => some (.ldB (fld w 22 4) (fld w 15 7) (fld w 8 7) (fld w 0 8))
  | 0x02 => some (.ldH (fld w 22 4) (fld w 15 7) (fld w 8 7) (fld w 0 8))
  | 0x03 => some (.ldW (fld w 22 4) (fld w 15 7) (fld w 8 7) (fld w 0 8))
  | 0x04 => some (.ldD (fld w 22 4) (fld w 15 7) (fld w 8 7) (fld w 0 8))
  | 0x05 => some (.ldQ (fld w 22 4) (fld w 15 7) (fld w 8 7) (fld w 0 8))
  | 0x06 => some (.ldO (fld w 22 4) (fld w 15 7) (fld w 8 7) (fld w 0 8))
  | 0x08 => some (.ldnB (fld w 22 4) (fld w 15 7) (fld w 8 7) (fld w 0 8))
  | 0x09 => some (.ldnH (fld w 22 4) (fld w 15 7) (fld w 8 7) (fld w 0 8))
  | 0x0A => some (.ldnW (fld w 22 4) (fld w 15 7) (fld w 8 7) (fld w 0 8))
  | 0x0B => some (.ldWAcq (fld w 22 4) (fld w 15 7) (fld w 8 7) (fld w 0 8))
  | 0x0C => some (.ldDAcq (fld w 22 4) (fld w 15 7) (fld w 8 7) (fld w 0 8))
  | 0x10 => some (.stB (fld w 22 4) (fld w 15 7) (fld w 8 7) (fld w 0 8))
  | 0x11 => some (.stH (fld w 22 4) (fld w 15 7) (fld w 8 7) (fld w 0 8))
  | 0x12 => some (.stW (fld w 22 4) (fld w 15 7) (fld w 8 7) (fld w 0 8))
  | 0x13 => some (.stD (fld w 22 4) (fld w 15 7) (fld w 8 7) (fld w 0 8))
  | 0x14 => some (.stQ (fld w 22 4) (fld w 15 7) (fld w 8 7) (fld w 0 8))
  | 0x15 => some (.stO (fld w 22 4) (fld w 15 7) (fld w 8 7) (fld w 0 8))
  | 0x16 => some (.stWRel (fld w 22 4) (fld w 15 7) (fld w 8 7) (fld w 0 8))
  | 0x17 => some (.stDRel (fld w 22 4) (fld w 15 7) (fld w 8 7) (fld w 0 8))
  | 0x18 => some (.ldroW (fld w 22 4) (fld w 15 7) (fld w 8 7) (fld w 0 8))
  | 0x19 => some (.ldroD (fld w 22 4) (fld w 15 7) (fld w 8 7) (fld w 0 8))
  | 0x1A => some (.ldroQ (fld w 22 4) (fld w 15 7) (fld w 8 7) (fld w 0 8))
  | 0x1B => some (.ldroO (fld w 22 4) (fld w 15 7) (fld w 8 7) (fld w 0 8))
  | 0x1C => some (.stncD (fld w 22 4) (fld w 15 7) (fld w 8 7) (fld w 0 8))
  | 0x1D => some (.stncQ (fld w 22 4) (fld w 15 7) (fld w 8 7) (fld w 0 8))
  | 0x1E => some (.stncO (fld w 22 4) (fld w 15 7) (fld w 8 7) (fld w 0 8))
  | 0x20 => some (.lds (fld w 22 4) (fld w 15 7) (fld w 8 7) (fld w 6 2) (fld w 0 6))
  | 0x21 => some (.sts (fld w 22 4) (fld w 15 7) (fld w 8 7) (fld w 6 2) (fld w 0 6))
  | 0x22 => some (.vld (fld w 22 4) (fld w 15 7) (fld w 8 7) (fld w 5 3) (fld w 4 1) (fld w 0 4))
  | 0x23 => some (.vst (fld w 22 4) (fld w 15 7) (fld w 8 7) (fld w 5 3) (fld w 4 1) (fld w 0 4))
  | 0x24 => some (.vlds (fld w 22 4) (fld w 15 7) (fld w 8 7) (fld w 0 8))
  | 0x25 => some (.vsts (fld w 22 4) (fld w 15 7) (fld w 8 7) (fld w 0 8))
  | 0x28 => some (.amoW (fld w 22 4) (fld w 15 7) (fld w 8 7) (fld w 4 4) (fld w 2 2) (fld w 0 2))
  | 0x29 => some (.amoD (fld w 22 4) (fld w 15 7) (fld w 8 7) (fld w 4 4) (fld w 2 2) (fld w 0 2))
  | 0x2A => some (.casW (fld w 22 4) (fld w 15 7) (fld w 8 7) (fld w 2 2) (fld w 0 2))
  | 0x2B => some (.casD (fld w 22 4) (fld w 15 7) (fld w 8 7) (fld w 2 2) (fld w 0 2))
  | 0x2C => some (.xadd (fld w 22 4) (fld w 15 7) (fld w 8 7) (fld w 0 1))
  | 0x2D => some (.xget (fld w 22 4) (fld w 15 7) (fld w 8 7) (fld w 0 1))
  | 0x30 => some (.fence (fld w 22 4) (fld w 5 3) (fld w 0 3))
  | 0x31 => some (.prf (fld w 22 4) (fld w 8 7) (fld w 0 8))
  | 0x32 => some (.probe (fld w 22 4) (fld w 15 7))
  | 0x00 => some .nopMemory
  | _ => none

/-- The S4 map (R73): the instruction an opcode names, with the fields of the word; none where unallocated. -/
def opcodeVector0 (w : BitVec 32) : Option Instr :=
  match w.toNat / 2 ^ 26 with
  | 0x01 => some (.vadd (fld w 23 3) (fld w 21 2) (fld w 14 7) (fld w 7 7) (fld w 0 7))
  | 0x02 => some (.vsub (fld w 23 3) (fld w 21 2) (fld w 14 7) (fld w 7 7) (fld w 0 7))
  | 0x03 => some (.vmul (fld w 23 3) (fld w 21 2) (fld w 14 7) (fld w 7 7) (fld w 0 7))
  | 0x04 => some (.vfma (fld w 23 3) (fld w 21 2) (fld w 14 7) (fld w 7 7) (fld w 0 7))
  | 0x05 => some (.vfms (fld w 23 3) (fld w 21 2) (fld w 14 7) (fld w 7 7) (fld w 0 7))
  | 0x06 => some (.vmin (fld w 23 3) (fld w 21 2) (fld w 14 7) (fld w 7 7) (fld w 0 7))
  | 0x07 => some (.vmax (fld w 23 3) (fld w 21 2) (fld w 14 7) (fld w 7 7) (fld w 0 7))
  | 0x08 => some (.vabs (fld w 23 3) (fld w 21 2) (fld w 14 7) (fld w 7 7))
  | 0x09 => some (.vneg (fld w 23 3) (fld w 21 2) (fld w 14 7) (fld w 7 7))
  | 0x0A => some (.vclamp (fld w 23 3) (fld w 21 2) (fld w 14 7) (fld w 7 7) (fld w 0 7))
  | 0x0B => some (.vand (fld w 23 3) (fld w 21 2) (fld w 14 7) (fld w 7 7) (fld w 0 7))
  | 0x0C => some (.vor (fld w 23 3) (fld w 21 2) (fld w 14 7) (fld w 7 7) (fld w 0 7))
  | 0x0D => some (.vxor (fld w 23 3) (fld w 21 2) (fld w 14 7) (fld w 7 7) (fld w 0 7))
  | 0x0E => some (.vshl (fld w 23 3) (fld w 21 2) (fld w 14 7) (fld w 7 7) (fld w 0 7))
  | 0x0F => some (.vshr (fld w 23 3) (fld w 21 2) (fld w 14 7) (fld w 7 7) (fld w 0 7))
  | 0x10 => some (.vsra (fld w 23 3) (fld w 21 2) (fld w 14 7) (fld w 7 7) (fld w 0 7))
  | 0x11 => some (.vcmp (fld w 23 3) (fld w 21 2) (fld w 17 4) (fld w 14 3) (fld w 7 7) (fld w 0 7))
  | 0x12 => some (.vsel (fld w 23 3) (fld w 21 2) (fld w 14 7) (fld w 7 7) (fld w 0 7))
  | 0x13 => some (.vmov (fld w 23 3) (fld w 21 2) (fld w 14 7) (fld w 7 7))
  | 0x14 => some (.vbcs (fld w 23 3) (fld w 21 2) (fld w 14 7) (fld w 0 7))
  | 0x15 => some (.vlane (fld w 23 3) (fld w 21 2) (fld w 14 7))
  | 0x21 => some (.vaddS (fld w 23 3) (fld w 21 2) (fld w 14 7) (fld w 7 7) (fld w 0 7))
  | 0x22 => some (.vsubS (fld w 23 3) (fld w 21 2) (fld w 14 7) (fld w 7 7) (fld w 0 7))
  | 0x23 => some (.vmulS (fld w 23 3) (fld w 21 2) (fld w 14 7) (fld w 7 7) (fld w 0 7))
  | 0x24 => some (.vfmaS (fld w 23 3) (fld w 21 2) (fld w 14 7) (fld w 7 7) (fld w 0 7))
  | 0x25 => some (.vfmsS (fld w 23 3) (fld w 21 2) (fld w 14 7) (fld w 7 7) (fld w 0 7))
  | 0x26 => some (.vminS (fld w 23 3) (fld w 21 2) (fld w 14 7) (fld w 7 7) (fld w 0 7))
  | 0x27 => some (.vmaxS (fld w 23 3) (fld w 21 2) (fld w 14 7) (fld w 7 7) (fld w 0 7))
  | 0x2A => some (.vclampS (fld w 23 3) (fld w 21 2) (fld w 14 7) (fld w 7 7) (fld w 0 7))
  | 0x2B => some (.vandS (fld w 23 3) (fld w 21 2) (fld w 14 7) (fld w 7 7) (fld w 0 7))
  | 0x2C => some (.vorS (fld w 23 3) (fld w 21 2) (fld w 14 7) (fld w 7 7) (fld w 0 7))
  | 0x2D => some (.vxorS (fld w 23 3) (fld w 21 2) (fld w 14 7) (fld w 7 7) (fld w 0 7))
  | 0x2E => some (.vshlS (fld w 23 3) (fld w 21 2) (fld w 14 7) (fld w 7 7) (fld w 0 7))
  | 0x2F => some (.vshrS (fld w 23 3) (fld w 21 2) (fld w 14 7) (fld w 7 7) (fld w 0 7))
  | 0x30 => some (.vsraS (fld w 23 3) (fld w 21 2) (fld w 14 7) (fld w 7 7) (fld w 0 7))
  | 0x31 => some (.vcmpS (fld w 23 3) (fld w 21 2) (fld w 17 4) (fld w 14 3) (fld w 7 7) (fld w 0 7))
  | 0x32 => some (.vselS (fld w 23 3) (fld w 21 2) (fld w 14 7) (fld w 7 7) (fld w 0 7))
  | 0x00 => some .nopVector0
  | _ => none

/-- The S5 map (R74): the instruction an opcode names, with the fields of the word; none where unallocated. -/
def opcodeVector1 (w : BitVec 32) : Option Instr :=
  match w.toNat / 2 ^ 26 with
  | 0x01 => some (.vexp (fld w 23 3) (fld w 21 2) (fld w 14 7) (fld w 7 7))
  | 0x02 => some (.vlog (fld w 23 3) (fld w 21 2) (fld w 14 7) (fld w 7 7))
  | 0x03 => some (.vtanh (fld w 23 3) (fld w 21 2) (fld w 14 7) (fld w 7 7))
  | 0x04 => some (.vsig (fld w 23 3) (fld w 21 2) (fld w 14 7) (fld w 7 7))
  | 0x05 => some (.vgelu (fld w 23 3) (fld w 21 2) (fld w 14 7) (fld w 7 7))
  | 0x06 => some (.vsilu (fld w 23 3) (fld w 21 2) (fld w 14 7) (fld w 7 7))
  | 0x07 => some (.vrsqrt (fld w 23 3) (fld w 21 2) (fld w 14 7) (fld w 7 7))
  | 0x08 => some (.vsqrt (fld w 23 3) (fld w 21 2) (fld w 14 7) (fld w 7 7))
  | 0x09 => some (.vrcp (fld w 23 3) (fld w 21 2) (fld w 14 7) (fld w 7 7))
  | 0x0A => some (.vrcpe (fld w 23 3) (fld w 21 2) (fld w 14 7) (fld w 7 7))
  | 0x0B => some (.vrcpn (fld w 23 3) (fld w 21 2) (fld w 14 7) (fld w 7 7) (fld w 0 7))
  | 0x0C => some (.vrsqe (fld w 23 3) (fld w 21 2) (fld w 14 7) (fld w 7 7))
  | 0x0D => some (.vrsqn (fld w 23 3) (fld w 21 2) (fld w 14 7) (fld w 7 7) (fld w 0 7))
  | 0x0E => some (.vcvt (fld w 23 3) (fld w 21 2) (fld w 14 7) (fld w 7 7) (fld w 6 1) (fld w 0 6))
  | 0x0F => some (.vperm (fld w 23 3) (fld w 21 2) (fld w 14 7) (fld w 7 7) (fld w 0 7))
  | 0x10 => some (.vslide (fld w 23 3) (fld w 21 2) (fld w 14 7) (fld w 7 7) (fld w 0 7))
  | 0x11 => some (.vsort (fld w 23 3) (fld w 21 2) (fld w 14 7) (fld w 7 7))
  | 0x12 => some (.vred (fld w 23 3) (fld w 21 2) (fld w 14 7) (fld w 7 7))
  | 0x13 => some (.mpush (fld w 21 2) (fld w 7 3))
  | 0x14 => some (.minv (fld w 21 2))
  | 0x15 => some (.mpop (fld w 21 2))
  | 0x16 => some (.mset (fld w 21 2) (fld w 17 1) (fld w 14 3) (fld w 7 7))
  | 0x17 => some (.mget (fld w 21 2) (fld w 14 7) (fld w 10 1) (fld w 7 3))
  | 0x30 => some (.vslideS (fld w 23 3) (fld w 21 2) (fld w 14 7) (fld w 7 7) (fld w 0 7))
  | 0x00 => some .nopVector1
  | _ => none

/-- The S6 map (R75): the instruction an opcode names, with the fields of the word; none where unallocated. -/
def opcodeArray (w : BitVec 32) : Option Instr :=
  match w.toNat / 2 ^ 26 with
  | 0x01 => some (.mcfg (fld w 22 4) (fld w 15 7) (fld w 8 7))
  | 0x02 => some (.cpl (fld w 22 4) (fld w 15 7) (fld w 0 4))
  | 0x03 => some (.mld (fld w 22 4) (fld w 15 7) (fld w 7 1))
  | 0x04 => some (.mmk (fld w 22 4) (fld w 15 7) (fld w 8 7) (fld w 7 1))
  | 0x05 => some (.mmc (fld w 22 4) (fld w 15 7) (fld w 8 7) (fld w 7 1))
  | 0x06 => some (.msp (fld w 22 4) (fld w 15 7) (fld w 8 7) (fld w 7 1) (fld w 0 2))
  | 0x07 => some (.mdp (fld w 22 4) (fld w 15 7))
  | 0x08 => some (.mdr (fld w 22 4) (fld w 15 7) (fld w 8 7) (fld w 1 7))
  | 0x09 => some (.mstr (fld w 22 4) (fld w 15 7) (fld w 8 7) (fld w 1 7))
  | 0x0A => some (.mzero (fld w 22 4))
  | 0x0B => some (.mtab (fld w 22 4) (fld w 15 7) (fld w 8 7))
  | 0x0C => some (.mhist (fld w 22 4) (fld w 15 7) (fld w 8 7) (fld w 7 1) (fld w 6 1) (fld w 5 1))
  | 0x0D => some (.mbind (fld w 22 4) (fld w 15 7) (fld w 6 2) (fld w 0 6))
  | 0x0E => some (.mst (fld w 22 4) (fld w 15 7))
  | 0x0F => some (.mfence (fld w 22 4))
  | 0x00 => some .nopArray
  | _ => none

/-- The S7 map (R76): the instruction an opcode names, with the fields of the word; none where unallocated. -/
def opcodeEngine (w : BitVec 32) : Option Instr :=
  match w.toNat / 2 ^ 26 with
  | 0x01 => some (.cpy (fld w 22 4) (fld w 15 7) (fld w 8 7) (fld w 0 8))
  | 0x02 => some (.cpyt (fld w 22 4) (fld w 15 7) (fld w 8 7) (fld w 0 8))
  | 0x03 => some (.cpyx (fld w 22 4) (fld w 15 7) (fld w 8 7) (fld w 0 8))
  | 0x04 => some (.cpyc (fld w 22 4) (fld w 15 7) (fld w 8 7) (fld w 0 8))
  | 0x05 => some (.barm (fld w 22 4) (fld w 15 7) (fld w 8 7) (fld w 0 8))
  | 0x06 => some (.barr (fld w 22 4) (fld w 15 7) (fld w 0 8))
  | 0x07 => if fld w 0 8 = 255 then some (.bq (fld w 22 4) (fld w 15 7)) else none
  | 0x08 => some (.qinit (fld w 22 4) (fld w 15 7) (fld w 8 7) (fld w 0 8))
  | 0x09 => some (.qadd (fld w 22 4) (fld w 15 7) (fld w 8 7) (fld w 0 8))
  | 0x0A => some (.qmerge (fld w 22 4) (fld w 15 7) (fld w 8 7) (fld w 0 8))
  | 0x0B => some (.qmergeat (fld w 22 4) (fld w 15 7) (fld w 8 7) (fld w 0 8))
  | 0x0C => some (.qquery (fld w 22 4) (fld w 15 7) (fld w 8 7) (fld w 0 8))
  | 0x0D => some (.mmerge (fld w 22 4) (fld w 15 7) (fld w 8 7) (fld w 0 8))
  | 0x10 => some (.hinit (fld w 22 4) (fld w 15 7) (fld w 0 8))
  | 0x11 => some (.hadd (fld w 22 4) (fld w 15 7) (fld w 8 7) (fld w 0 8))
  | 0x12 => some (.hmerge (fld w 22 4) (fld w 15 7) (fld w 8 7) (fld w 0 8))
  | 0x13 => some (.htop (fld w 22 4) (fld w 15 7) (fld w 8 7) (fld w 0 8))
  | 0x14 => some (.dinit (fld w 22 4) (fld w 15 7) (fld w 8 7) (fld w 0 8))
  | 0x15 => some (.dadd (fld w 22 4) (fld w 15 7) (fld w 8 7) (fld w 0 8))
  | 0x16 => some (.dmerge (fld w 22 4) (fld w 15 7) (fld w 8 7) (fld w 0 8))
  | 0x17 => some (.dest (fld w 22 4) (fld w 15 7) (fld w 0 8))
  | 0x18 => some (.stopen (fld w 22 4) (fld w 15 7) (fld w 8 7) (fld w 0 8))
  | 0x19 => some (.stld (fld w 22 4) (fld w 15 7) (fld w 8 7) (fld w 0 8))
  | 0x1A => some (.stst (fld w 22 4) (fld w 15 7) (fld w 8 7) (fld w 0 8))
  | 0x1B => some (.stmark (fld w 22 4) (fld w 15 7) (fld w 0 8))
  | 0x1C => some (.stback (fld w 22 4) (fld w 15 7) (fld w 8 7) (fld w 0 8))
  | 0x1D => some (.stfork (fld w 22 4) (fld w 15 7) (fld w 8 7) (fld w 0 8))
  | 0x1E => some (.stpin (fld w 22 4) (fld w 15 7) (fld w 8 7) (fld w 0 8))
  | 0x1F => some (.stclose (fld w 22 4) (fld w 15 7) (fld w 0 8))
  | 0x20 => if fld w 0 8 = 255 then some (.stq (fld w 22 4) (fld w 15 7) (fld w 8 7)) else none
  | 0x21 => some (.mig (fld w 22 4) (fld w 15 7) (fld w 8 7) (fld w 0 8))
  | 0x22 => if fld w 0 8 = 255 then some (.pkset (fld w 22 4) (fld w 15 7) (fld w 8 7)) else none
  | 0x23 => if fld w 0 8 = 255 then some (.own (fld w 22 4) (fld w 15 7)) else none
  | 0x24 => some (.ocinv (fld w 22 4) (fld w 15 7) (fld w 8 7) (fld w 0 8))
  | 0x25 => some (.lrenew (fld w 22 4) (fld w 0 8))
  | 0x26 => some (.hnote (fld w 22 4) (fld w 15 7) (fld w 8 7) (fld w 0 8))
  | 0x27 => some (.hintr (fld w 22 4) (fld w 15 7) (fld w 0 8))
  | 0x28 => some (.gath (fld w 22 4) (fld w 15 7) (fld w 0 8))
  | 0x29 => some (.scat (fld w 22 4) (fld w 15 7) (fld w 0 8))
  | 0x2A => some (.scata (fld w 22 4) (fld w 15 7) (fld w 0 8))
  | 0x2B => some (.fqread (fld w 22 4) (fld w 15 7) (fld w 8 7) (fld w 0 8))
  | 0x2C => if fld w 0 8 = 255 then some (.frep (fld w 22 4) (fld w 15 7)) else none
  | 0x2D => if fld w 0 8 = 255 then some (.fdrop (fld w 22 4) (fld w 15 7) (fld w 8 7)) else none
  | 0x30 => some (.wlnew (fld w 22 4) (fld w 15 7) (fld w 8 7) (fld w 0 8))
  | 0x31 => some (.wlpush (fld w 22 4) (fld w 15 7) (fld w 0 8))
  | 0x32 => some (.wlpop (fld w 22 4) (fld w 15 7) (fld w 0 8))
  | 0x33 => some (.wlins (fld w 22 4) (fld w 15 7) (fld w 8 7) (fld w 0 8))
  | 0x34 => if fld w 0 8 = 255 then some (.wlstat (fld w 22 4) (fld w 15 7)) else none
  | 0x36 => some (.cqsend (fld w 22 4) (fld w 15 7) (fld w 8 7) (fld w 0 8))
  | 0x37 => if fld w 0 8 = 255 then some (.cst (fld w 22 4) (fld w 15 7) (fld w 8 7)) else none
  | 0x38 => some (.copen (fld w 22 4) (fld w 15 7) (fld w 8 7) (fld w 0 8))
  | 0x39 => some (.cput (fld w 22 4) (fld w 15 7) (fld w 0 8))
  | 0x3A => some (.cget (fld w 22 4) (fld w 15 7) (fld w 0 8))
  | 0x3B => some (.cred (fld w 22 4) (fld w 15 7) (fld w 0 8))
  | 0x3C => some (.cxf (fld w 22 4) (fld w 15 7) (fld w 0 8))
  | 0x3D => some (.cbar (fld w 22 4) (fld w 15 7) (fld w 0 8))
  | 0x3E => some (.csmp (fld w 22 4) (fld w 15 7) (fld w 0 8))
  | 0x3F => some (.cstr (fld w 22 4) (fld w 15 7) (fld w 8 7) (fld w 0 8))
  | 0x00 => some .nopEngine
  | _ => none

/-- The instruction a word names in an opcode space, before its fields are checked. -/
def opcodeOf (sp : Space) (w : BitVec 32) : Option Instr :=
  match sp with
  | .control => opcodeControl w
  | .scalar => opcodeScalar w
  | .memory => opcodeMemory w
  | .vector0 => opcodeVector0 w
  | .vector1 => opcodeVector1 w
  | .array => opcodeArray w
  | .engine => opcodeEngine w

/-- The (lowest bit, width) of every field of its word that the layout marks 0 or that the instruction does not use (R46). -/
def Instr.zeroFields : Instr → List (Nat × Nat)
  | .jmp _ => []
  | .jmpc _ _ => []
  | .jmpi _ => [(7, 6)]
  | .jmpt _ _ => []
  | .jmpm _ => []
  | .call _ => []
  | .calli _ => [(7, 6)]
  | .loop _ _ _ _ => []
  | .loopi _ _ _ _ => []
  | .lbrk _ => [(3, 10)]
  | .wait _ => [(3, 10)]
  | .trap _ => [(8, 5)]
  | .brk _ => [(8, 5)]
  | .spawn _ _ => [(7, 3)]
  | .tld _ _ => [(10, 3)]
  | .tst _ _ => [(10, 3)]
  | .sysr _ _ => []
  | .sysw _ _ => []
  | .gsub _ => [(7, 6)]
  | .add _ _ _ _ => []
  | .sub _ _ _ _ => []
  | .mul _ _ _ _ => []
  | .mulh _ _ _ _ => []
  | .mulhn _ _ _ _ => []
  | .div _ _ _ _ => []
  | .divn _ _ _ _ => []
  | .and _ _ _ _ => []
  | .or _ _ _ _ => []
  | .xor _ _ _ _ => []
  | .andn _ _ _ _ => []
  | .shl _ _ _ _ => []
  | .shr _ _ _ _ => []
  | .sra _ _ _ _ => []
  | .min _ _ _ _ => []
  | .max _ _ _ _ => []
  | .minn _ _ _ _ => []
  | .maxn _ _ _ _ => []
  | .cmp _ _ _ _ _ => []
  | .sel _ _ _ _ => []
  | .li _ _ _ => []
  | .lih _ _ _ => []
  | .clz _ _ _ => [(0, 7)]
  | .ctz _ _ _ => [(0, 7)]
  | .popc _ _ _ => [(0, 7)]
  | .bext _ _ _ _ => []
  | .bins _ _ _ _ => []
  | .addsh1 _ _ _ _ => []
  | .addsh2 _ _ _ _ => []
  | .addsh3 _ _ _ _ => []
  | .addsh5 _ _ _ _ => []
  | .pand _ _ _ _ => [(3, 4), (10, 4), (17, 4)]
  | .por _ _ _ _ => [(3, 4), (10, 4), (17, 4)]
  | .pnot _ _ _ => [(0, 7), (10, 4), (17, 4)]
  | .faddF32 _ _ _ _ => []
  | .fsubF32 _ _ _ _ => []
  | .fmulF32 _ _ _ _ => []
  | .ffmaF32 _ _ _ _ => []
  | .fcmpF32 _ _ _ _ _ => []
  | .fcvt _ _ _ _ _ => []
  | .faddF64 _ _ _ _ => []
  | .fsubF64 _ _ _ _ => []
  | .fmulF64 _ _ _ _ => []
  | .ffmaF64 _ _ _ _ => []
  | .fcmpF64 _ _ _ _ _ => []
  | .ldB _ _ _ _ => []
  | .ldH _ _ _ _ => []
  | .ldW _ _ _ _ => []
  | .ldD _ _ _ _ => []
  | .ldQ _ _ _ _ => []
  | .ldO _ _ _ _ => []
  | .ldnB _ _ _ _ => []
  | .ldnH _ _ _ _ => []
  | .ldnW _ _ _ _ => []
  | .ldWAcq _ _ _ _ => []
  | .ldDAcq _ _ _ _ => []
  | .stB _ _ _ _ => []
  | .stH _ _ _ _ => []
  | .stW _ _ _ _ => []
  | .stD _ _ _ _ => []
  | .stQ _ _ _ _ => []
  | .stO _ _ _ _ => []
  | .stWRel _ _ _ _ => []
  | .stDRel _ _ _ _ => []
  | .ldroW _ _ _ _ => []
  | .ldroD _ _ _ _ => []
  | .ldroQ _ _ _ _ => []
  | .ldroO _ _ _ _ => []
  | .stncD _ _ _ _ => []
  | .stncQ _ _ _ _ => []
  | .stncO _ _ _ _ => []
  | .lds _ _ _ _ _ => []
  | .sts _ _ _ _ _ => []
  | .vld _ _ _ _ _ _ => []
  | .vst _ _ _ _ _ _ => []
  | .vlds _ _ _ _ => []
  | .vsts _ _ _ _ => []
  | .amoW _ _ _ _ _ _ => []
  | .amoD _ _ _ _ _ _ => []
  | .casW _ _ _ _ _ => [(4, 4)]
  | .casD _ _ _ _ _ => [(4, 4)]
  | .xadd _ _ _ _ => [(1, 7)]
  | .xget _ _ _ _ => [(1, 7)]
  | .fence _ _ _ => [(3, 2), (8, 14)]
  | .prf _ _ _ => [(15, 7)]
  | .probe _ _ => [(0, 15)]
  | .vadd _ _ _ _ _ => []
  | .vsub _ _ _ _ _ => []
  | .vmul _ _ _ _ _ => []
  | .vfma _ _ _ _ _ => []
  | .vfms _ _ _ _ _ => []
  | .vmin _ _ _ _ _ => []
  | .vmax _ _ _ _ _ => []
  | .vabs _ _ _ _ => [(0, 7)]
  | .vneg _ _ _ _ => [(0, 7)]
  | .vclamp _ _ _ _ _ => []
  | .vand _ _ _ _ _ => []
  | .vor _ _ _ _ _ => []
  | .vxor _ _ _ _ _ => []
  | .vshl _ _ _ _ _ => []
  | .vshr _ _ _ _ _ => []
  | .vsra _ _ _ _ _ => []
  | .vcmp _ _ _ _ _ _ => []
  | .vsel _ _ _ _ _ => []
  | .vmov _ _ _ _ => [(0, 7)]
  | .vbcs _ _ _ _ => [(7, 7)]
  | .vlane _ _ _ => [(0, 14)]
  | .vaddS _ _ _ _ _ => []
  | .vsubS _ _ _ _ _ => []
  | .vmulS _ _ _ _ _ => []
  | .vfmaS _ _ _ _ _ => []
  | .vfmsS _ _ _ _ _ => []
  | .vminS _ _ _ _ _ => []
  | .vmaxS _ _ _ _ _ => []
  | .vclampS _ _ _ _ _ => []
  | .vandS _ _ _ _ _ => []
  | .vorS _ _ _ _ _ => []
  | .vxorS _ _ _ _ _ => []
  | .vshlS _ _ _ _ _ => []
  | .vshrS _ _ _ _ _ => []
  | .vsraS _ _ _ _ _ => []
  | .vcmpS _ _ _ _ _ _ => []
  | .vselS _ _ _ _ _ => []
  | .vexp _ _ _ _ => [(0, 7)]
  | .vlog _ _ _ _ => [(0, 7)]
  | .vtanh _ _ _ _ => [(0, 7)]
  | .vsig _ _ _ _ => [(0, 7)]
  | .vgelu _ _ _ _ => [(0, 7)]
  | .vsilu _ _ _ _ => [(0, 7)]
  | .vrsqrt _ _ _ _ => [(0, 7)]
  | .vsqrt _ _ _ _ => [(0, 7)]
  | .vrcp _ _ _ _ => [(0, 7)]
  | .vrcpe _ _ _ _ => [(0, 7)]
  | .vrcpn _ _ _ _ _ => []
  | .vrsqe _ _ _ _ => [(0, 7)]
  | .vrsqn _ _ _ _ _ => []
  | .vcvt _ _ _ _ _ _ => []
  | .vperm _ _ _ _ _ => []
  | .vslide _ _ _ _ _ => []
  | .vsort _ _ _ _ => [(0, 7)]
  | .vred _ _ _ _ => [(0, 7)]
  | .mpush _ _ => [(0, 7), (10, 11), (23, 3)]
  | .minv _ => [(0, 21), (23, 3)]
  | .mpop _ => [(0, 21), (23, 3)]
  | .mset _ _ _ _ => [(0, 7), (18, 3), (23, 3)]
  | .mget _ _ _ _ => [(0, 7), (11, 3), (23, 3)]
  | .vslideS _ _ _ _ _ => []
  | .mcfg _ _ _ => [(0, 8)]
  | .cpl _ _ _ => [(4, 11)]
  | .mld _ _ _ => [(0, 7), (8, 7)]
  | .mmk _ _ _ _ => [(0, 7)]
  | .mmc _ _ _ _ => [(0, 7)]
  | .msp _ _ _ _ _ => [(2, 5)]
  | .mdp _ _ => [(0, 15)]
  | .mdr _ _ _ _ => [(0, 1)]
  | .mstr _ _ _ _ => [(0, 1)]
  | .mzero _ => [(0, 22)]
  | .mtab _ _ _ => [(0, 8)]
  | .mhist _ _ _ _ _ _ => [(0, 5)]
  | .mbind _ _ _ _ => [(8, 7)]
  | .mst _ _ => [(0, 15)]
  | .mfence _ => [(0, 22)]
  | .cpy _ _ _ _ => []
  | .cpyt _ _ _ _ => []
  | .cpyx _ _ _ _ => []
  | .cpyc _ _ _ _ => []
  | .barm _ _ _ _ => []
  | .barr _ _ _ => [(8, 7)]
  | .bq _ _ => [(8, 7)]
  | .qinit _ _ _ _ => []
  | .qadd _ _ _ _ => []
  | .qmerge _ _ _ _ => []
  | .qmergeat _ _ _ _ => []
  | .qquery _ _ _ _ => []
  | .mmerge _ _ _ _ => []
  | .hinit _ _ _ => [(8, 7)]
  | .hadd _ _ _ _ => []
  | .hmerge _ _ _ _ => []
  | .htop _ _ _ _ => []
  | .dinit _ _ _ _ => []
  | .dadd _ _ _ _ => []
  | .dmerge _ _ _ _ => []
  | .dest _ _ _ => [(8, 7)]
  | .stopen _ _ _ _ => []
  | .stld _ _ _ _ => []
  | .stst _ _ _ _ => []
  | .stmark _ _ _ => [(8, 7)]
  | .stback _ _ _ _ => []
  | .stfork _ _ _ _ => []
  | .stpin _ _ _ _ => []
  | .stclose _ _ _ => [(8, 7)]
  | .stq _ _ _ => []
  | .mig _ _ _ _ => []
  | .pkset _ _ _ => []
  | .own _ _ => [(8, 7)]
  | .ocinv _ _ _ _ => []
  | .lrenew _ _ => [(8, 14)]
  | .hnote _ _ _ _ => []
  | .hintr _ _ _ => [(8, 7)]
  | .gath _ _ _ => [(8, 7)]
  | .scat _ _ _ => [(8, 7)]
  | .scata _ _ _ => [(8, 7)]
  | .fqread _ _ _ _ => []
  | .frep _ _ => [(8, 7)]
  | .fdrop _ _ _ => []
  | .wlnew _ _ _ _ => []
  | .wlpush _ _ _ => [(8, 7)]
  | .wlpop _ _ _ => [(8, 7)]
  | .wlins _ _ _ _ => []
  | .wlstat _ _ => [(8, 7)]
  | .cqsend _ _ _ _ => []
  | .cst _ _ _ => []
  | .copen _ _ _ _ => []
  | .cput _ _ _ => [(8, 7)]
  | .cget _ _ _ => [(8, 7)]
  | .cred _ _ _ => [(8, 7)]
  | .cxf _ _ _ => [(8, 7)]
  | .cbar _ _ _ => [(8, 7)]
  | .csmp _ _ _ => [(8, 7)]
  | .cstr _ _ _ _ => []
  | .nop => [(0, 13)]
  | .ret => [(0, 13)]
  | .suspend => [(0, 13)]
  | .yield => [(0, 13)]
  | .endTask => [(0, 13)]
  | .eret => [(0, 13)]
  | .halt => [(0, 13)]
  | .nopScalar => [(0, 25)]
  | .nopMemory => [(0, 26)]
  | .nopVector0 => [(0, 26)]
  | .nopVector1 => [(0, 26)]
  | .nopArray => [(0, 26)]
  | .nopEngine => [(0, 26)]
  | .bundleIssue _ => []
  | .bundleFetch _ => []
  | .fairnessBound _ => []
  | .loadAnswer _ => []
  | .writeAcknowledgement _ => []
  | .storeRejection _ => []
  | .probeAnswer _ => []
  | .dependencyEntryAgeProbe _ _ => []
  | .causalWriteApply _ => []
  | .readRequestServe _ => []
  | .probeRequestServe _ => []
  | .atomicUpdateServe _ => []
  | .writeResendTimeout _ => []
  | .targetUnreachable _ => []
  | .gazetteerEntryExpiry _ _ => []
  | .homeOwnerQuery _ => []
  | .homeOwnerAnswer _ => []
  | .redirect _ => []
  | .notHere _ => []
  | .signpostRelay _ => []
  | .writeResolution _ => []
  | .lineageFrontierReport _ _ _ => []
  | .signpostRetirement _ _ => []
  | .lineageDrop _ _ => []
  | .signpostRemove _ _ => []
  | .migrationRequest _ => []
  | .migrationCopyRound _ => []
  | .migrationFreeze _ => []
  | .freezeTimeout _ => []
  | .migrationCutover _ => []
  | .migrationComplete _ => []
  | .leaseRequest _ _ _ => []
  | .leaseRelease _ _ _ => []
  | .haUopWriteLeaf _ _ => []
  | .haUopCreate _ _ => []
  | .haUopRemove _ _ => []
  | .homeRecordCreate _ => []
  | .hostGraphSubmit _ _ _ => []
  | .hostGraphDisable _ _ _ => []
  | .taskPlacement _ _ => []
  | .passedOverReservation _ _ => []
  | .taskLaunch _ _ => []
  | .residencyRefused _ _ => []
  | .recordWriteBack _ _ => []
  | .overflowQueueRefill _ => []
  | .conditionalNodeRun _ _ => []
  | .copyNodeRun _ _ => []
  | .collectiveNodeRun _ _ => []
  | .notifyNodeRun _ _ => []
  | .joinNodeEnd _ _ => []
  | .quantumExpiry _ _ => []
  | .hostPreemptionRequest _ _ _ => []
  | .preemptionTakeEffect _ => []
  | .saveComplete _ => []
  | .spawnAnswer _ => []
  | .waitComplete _ => []
  | .waitTimeout _ => []
  | .copyCommandStart _ _ => []
  | .copyUnitCredit _ _ _ => []
  | .copyFault _ _ _ => []
  | .copyCommandLeave _ _ _ => []
  | .surveyCommandRun _ => []
  | .qmergeatOwnerApply _ => []
  | .qmergeatAck _ => []
  | .tapRowInsert _ => []
  | .arrayInstructionStart _ => []
  | .arrayPassInterrupt _ => []
  | .arrayInstructionComplete _ => []
  | .arrayRelease _ => []
  | .streamRowCredit _ _ => []
  | .stateCommandApply _ => []
  | .stWatchArm _ _ _ => []
  | .stWatchDisarm _ _ _ => []
  | .indexElementIssue _ _ => []
  | .indexElementArrival _ _ _ => []
  | .elementPark _ _ _ => []
  | .bitmapTestAndSet _ _ _ => []
  | .contributionSend _ _ => []
  | .slotContributionArrival _ => []
  | .contributionRefusedResend _ => []
  | .slotTimeout _ => []
  | .lateWindowEnd _ => []
  | .resultDelivery _ => []
  | .collectiveComplete _ _ => []
  | .queueMessageArrival _ => []
  | .queueMessageResend _ => []
  | .cgGroupCreate _ _ _ => []
  | .cgGroupDelete _ _ _ => []
  | .portLinkDown _ _ => []
  | .portLinkUp _ _ => []
  | .bar2Access _ _ _ _ _ _ => []
  | .bar4Access _ _ _ _ _ _ => []
  | .registerWrite _ _ _ _ => []
  | .registerRead _ _ _ => []
  | .hostRunRequest _ _ _ => []
  | .eventSetWrite _ _ _ => []
  | .eventClrWrite _ _ _ => []
  | .pageInRefuse _ _ _ => []
  | .hrCfg1Write _ _ _ => []
  | .hrHeadWrite _ _ _ => []
  | .ringEntryWrite _ _ => []
  | .ringCoalesceTimeout _ _ => []
  | .spadHashApply _ => []
  | .eccCorrected _ _ _ => []
  | .uncorrectableError _ _ _ => []
  | .idleEntry _ => []
  | .idleWake _ => []
  | .droopStretch _ => []
  | .droopRelease _ => []
  | .coldReset _ => []
  | .stageMeasurement _ _ _ => []
  | .attestationRequest _ _ _ => []
  | .mcPowerOn _ => []
  | .mcPowerOff _ => []
  | .mcColdReset _ => []
  | .mcReadErrors _ => []
  | .mcReadSensors _ => []
  | .mcAttestation _ _ => []
  | .mcFirmwareUpdate _ _ => []
  | .mcSetPackageNumber _ _ => []
  | .referenceTick => []
  | .indexCommandApply _ _ => []
  | .testAndSetAnswer _ _ _ => []
  | .transferUnitCredit _ _ => []
  | .collectiveCommandStart _ => []
  | .leaseRenewalComplete _ _ => []
  | .gazetteerEntryReplacement _ _ => []
  | .flitReceiveError _ _ => []

/-- Every reserved field of the word is zero (R46). -/
def zeroIn (w : BitVec 32) (fs : List (Nat × Nat)) : Bool := fs.all (fun f => w.toNat / 2 ^ f.1 % 2 ^ f.2 == 0)

/-- The header of an S0 word (R60). -/
def headerOf (w : BitVec 32) : Header := ⟨fld w 18 8, fld w 16 2, fld w 13 3⟩

/-- The header of a word in slot `sl` that holds `i`: only S0 carries one, and loop and loopi use its mode bits themselves. -/
def headerIn (sl : Slot) (i : Instr) (w : BitVec 32) : Header :=
  if sl = .s0 then (if i.usesMode then ⟨fld w 18 8, 0, 0⟩ else headerOf w) else Header.none

/-- Decoding one slot word, total: 0x01 is found before 0x02 (R46, R47). -/
def decodeWord (sl : Slot) (w : BitVec 32) : Except DecodeError Instr :=
  match opcodeOf sl.space w with
  | none => .error .undefinedEncoding
  | some i =>
    let h := headerIn sl i w
    if !i.legal sl || !h.legal then .error .undefinedEncoding
    else if !zeroIn w i.zeroFields || !i.reservedClear || !h.reservedClear then .error .reservedField
    else .ok i

/-- Fields written from the high one to the low one: (width, value) pairs. -/
def packFields (fs : List (Nat × Nat)) : Nat := fs.foldl (fun acc p => acc * 2 ^ p.1 + p.2) 0

/-- The word of an instruction, its fields at their places (R60 to R68) with no header; 0 for a step that has no word. -/
def Instr.encodeBody : Instr → BitVec 32
  | .jmp j => BitVec.ofNat 32 (packFields [(6, 0x01), (13, 0), (13, j.toNat)])
  | .jmpc q j => BitVec.ofNat 32 (packFields [(6, 0x02), (13, 0), (3, q.toNat), (10, j.toNat)])
  | .jmpi s => BitVec.ofNat 32 (packFields [(6, 0x03), (19, 0), (7, s.toNat)])
  | .jmpt t i => BitVec.ofNat 32 (packFields [(6, 0x04), (13, 0), (6, t.toNat), (7, i.toNat)])
  | .jmpm j => BitVec.ofNat 32 (packFields [(6, 0x05), (13, 0), (13, j.toNat)])
  | .call j => BitVec.ofNat 32 (packFields [(6, 0x06), (13, 0), (13, j.toNat)])
  | .calli s => BitVec.ofNat 32 (packFields [(6, 0x07), (19, 0), (7, s.toNat)])
  | .loop s n c b => BitVec.ofNat 32 (packFields [(6, 0x09), (8, 0), (2, s.toNat), (3, n.toNat), (5, c.toNat), (8, b.toNat)])
  | .loopi s n c b => BitVec.ofNat 32 (packFields [(6, 0x0A), (8, 0), (2, s.toNat), (3, n.toNat), (5, c.toNat), (8, b.toNat)])
  | .lbrk n => BitVec.ofNat 32 (packFields [(6, 0x0B), (23, 0), (3, n.toNat)])
  | .wait w => BitVec.ofNat 32 (packFields [(6, 0x0C), (23, 0), (3, w.toNat)])
  | .trap k => BitVec.ofNat 32 (packFields [(6, 0x0D), (18, 0), (8, k.toNat)])
  | .brk k => BitVec.ofNat 32 (packFields [(6, 0x0E), (18, 0), (8, k.toNat)])
  | .spawn b s => BitVec.ofNat 32 (packFields [(6, 0x10), (13, 0), (3, b.toNat), (3, 0), (7, s.toNat)])
  | .tld w d => BitVec.ofNat 32 (packFields [(6, 0x14), (16, 0), (3, w.toNat), (7, d.toNat)])
  | .tst w s => BitVec.ofNat 32 (packFields [(6, 0x15), (16, 0), (3, w.toNat), (7, s.toNat)])
  | .sysr r d => BitVec.ofNat 32 (packFields [(6, 0x39), (13, 0), (6, r.toNat), (7, d.toNat)])
  | .sysw r s => BitVec.ofNat 32 (packFields [(6, 0x3A), (13, 0), (6, r.toNat), (7, s.toNat)])
  | .gsub s => BitVec.ofNat 32 (packFields [(6, 0x3C), (19, 0), (7, s.toNat)])
  | .add g d a b => BitVec.ofNat 32 (packFields [(7, 0x01), (4, g.toNat), (7, d.toNat), (7, a.toNat), (7, b.toNat)])
  | .sub g d a b => BitVec.ofNat 32 (packFields [(7, 0x02), (4, g.toNat), (7, d.toNat), (7, a.toNat), (7, b.toNat)])
  | .mul g d a b => BitVec.ofNat 32 (packFields [(7, 0x03), (4, g.toNat), (7, d.toNat), (7, a.toNat), (7, b.toNat)])
  | .mulh g d a b => BitVec.ofNat 32 (packFields [(7, 0x04), (4, g.toNat), (7, d.toNat), (7, a.toNat), (7, b.toNat)])
  | .mulhn g d a b => BitVec.ofNat 32 (packFields [(7, 0x05), (4, g.toNat), (7, d.toNat), (7, a.toNat), (7, b.toNat)])
  | .div g d a b => BitVec.ofNat 32 (packFields [(7, 0x06), (4, g.toNat), (7, d.toNat), (7, a.toNat), (7, b.toNat)])
  | .divn g d a b => BitVec.ofNat 32 (packFields [(7, 0x07), (4, g.toNat), (7, d.toNat), (7, a.toNat), (7, b.toNat)])
  | .and g d a b => BitVec.ofNat 32 (packFields [(7, 0x08), (4, g.toNat), (7, d.toNat), (7, a.toNat), (7, b.toNat)])
  | .or g d a b => BitVec.ofNat 32 (packFields [(7, 0x09), (4, g.toNat), (7, d.toNat), (7, a.toNat), (7, b.toNat)])
  | .xor g d a b => BitVec.ofNat 32 (packFields [(7, 0x0A), (4, g.toNat), (7, d.toNat), (7, a.toNat), (7, b.toNat)])
  | .andn g d a b => BitVec.ofNat 32 (packFields [(7, 0x0B), (4, g.toNat), (7, d.toNat), (7, a.toNat), (7, b.toNat)])
  | .shl g d a b => BitVec.ofNat 32 (packFields [(7, 0x0C), (4, g.toNat), (7, d.toNat), (7, a.toNat), (7, b.toNat)])
  | .shr g d a b => BitVec.ofNat 32 (packFields [(7, 0x0D), (4, g.toNat), (7, d.toNat), (7, a.toNat), (7, b.toNat)])
  | .sra g d a b => BitVec.ofNat 32 (packFields [(7, 0x0E), (4, g.toNat), (7, d.toNat), (7, a.toNat), (7, b.toNat)])
  | .min g d a b => BitVec.ofNat 32 (packFields [(7, 0x10), (4, g.toNat), (7, d.toNat), (7, a.toNat), (7, b.toNat)])
  | .max g d a b => BitVec.ofNat 32 (packFields [(7, 0x11), (4, g.toNat), (7, d.toNat), (7, a.toNat), (7, b.toNat)])
  | .minn g d a b => BitVec.ofNat 32 (packFields [(7, 0x12), (4, g.toNat), (7, d.toNat), (7, a.toNat), (7, b.toNat)])
  | .maxn g d a b => BitVec.ofNat 32 (packFields [(7, 0x13), (4, g.toNat), (7, d.toNat), (7, a.toNat), (7, b.toNat)])
  | .cmp g c k a b => BitVec.ofNat 32 (packFields [(7, 0x14), (4, g.toNat), (4, c.toNat), (3, k.toNat), (7, a.toNat), (7, b.toNat)])
  | .sel s d a b => BitVec.ofNat 32 (packFields [(7, 0x15), (4, s.toNat), (7, d.toNat), (7, a.toNat), (7, b.toNat)])
  | .li g d i => BitVec.ofNat 32 (packFields [(7, 0x16), (4, g.toNat), (7, d.toNat), (14, i.toNat)])
  | .lih g d i => BitVec.ofNat 32 (packFields [(7, 0x17), (4, g.toNat), (7, d.toNat), (14, i.toNat)])
  | .clz g d a => BitVec.ofNat 32 (packFields [(7, 0x18), (4, g.toNat), (7, d.toNat), (7, a.toNat), (7, 0)])
  | .ctz g d a => BitVec.ofNat 32 (packFields [(7, 0x19), (4, g.toNat), (7, d.toNat), (7, a.toNat), (7, 0)])
  | .popc g d a => BitVec.ofNat 32 (packFields [(7, 0x1A), (4, g.toNat), (7, d.toNat), (7, a.toNat), (7, 0)])
  | .bext g d a b => BitVec.ofNat 32 (packFields [(7, 0x1B), (4, g.toNat), (7, d.toNat), (7, a.toNat), (7, b.toNat)])
  | .bins g d a b => BitVec.ofNat 32 (packFields [(7, 0x1C), (4, g.toNat), (7, d.toNat), (7, a.toNat), (7, b.toNat)])
  | .addsh1 g d a b => BitVec.ofNat 32 (packFields [(7, 0x20), (4, g.toNat), (7, d.toNat), (7, a.toNat), (7, b.toNat)])
  | .addsh2 g d a b => BitVec.ofNat 32 (packFields [(7, 0x21), (4, g.toNat), (7, d.toNat), (7, a.toNat), (7, b.toNat)])
  | .addsh3 g d a b => BitVec.ofNat 32 (packFields [(7, 0x22), (4, g.toNat), (7, d.toNat), (7, a.toNat), (7, b.toNat)])
  | .addsh5 g d a b => BitVec.ofNat 32 (packFields [(7, 0x23), (4, g.toNat), (7, d.toNat), (7, a.toNat), (7, b.toNat)])
  | .pand g d a b => BitVec.ofNat 32 (packFields [(7, 0x24), (4, g.toNat), (4, 0), (3, d.toNat), (4, 0), (3, a.toNat), (4, 0), (3, b.toNat)])
  | .por g d a b => BitVec.ofNat 32 (packFields [(7, 0x25), (4, g.toNat), (4, 0), (3, d.toNat), (4, 0), (3, a.toNat), (4, 0), (3, b.toNat)])
  | .pnot g d a => BitVec.ofNat 32 (packFields [(7, 0x26), (4, g.toNat), (4, 0), (3, d.toNat), (4, 0), (3, a.toNat), (7, 0)])
  | .faddF32 g d a b => BitVec.ofNat 32 (packFields [(7, 0x30), (4, g.toNat), (7, d.toNat), (7, a.toNat), (7, b.toNat)])
  | .fsubF32 g d a b => BitVec.ofNat 32 (packFields [(7, 0x31), (4, g.toNat), (7, d.toNat), (7, a.toNat), (7, b.toNat)])
  | .fmulF32 g d a b => BitVec.ofNat 32 (packFields [(7, 0x32), (4, g.toNat), (7, d.toNat), (7, a.toNat), (7, b.toNat)])
  | .ffmaF32 g d a b => BitVec.ofNat 32 (packFields [(7, 0x33), (4, g.toNat), (7, d.toNat), (7, a.toNat), (7, b.toNat)])
  | .fcmpF32 g c k a b => BitVec.ofNat 32 (packFields [(7, 0x34), (4, g.toNat), (4, c.toNat), (3, k.toNat), (7, a.toNat), (7, b.toNat)])
  | .fcvt g d a r c => BitVec.ofNat 32 (packFields [(7, 0x35), (4, g.toNat), (7, d.toNat), (7, a.toNat), (3, r.toNat), (4, c.toNat)])
  | .faddF64 g d a b => BitVec.ofNat 32 (packFields [(7, 0x38), (4, g.toNat), (7, d.toNat), (7, a.toNat), (7, b.toNat)])
  | .fsubF64 g d a b => BitVec.ofNat 32 (packFields [(7, 0x39), (4, g.toNat), (7, d.toNat), (7, a.toNat), (7, b.toNat)])
  | .fmulF64 g d a b => BitVec.ofNat 32 (packFields [(7, 0x3A), (4, g.toNat), (7, d.toNat), (7, a.toNat), (7, b.toNat)])
  | .ffmaF64 g d a b => BitVec.ofNat 32 (packFields [(7, 0x3B), (4, g.toNat), (7, d.toNat), (7, a.toNat), (7, b.toNat)])
  | .fcmpF64 g c k a b => BitVec.ofNat 32 (packFields [(7, 0x3C), (4, g.toNat), (4, c.toNat), (3, k.toNat), (7, a.toNat), (7, b.toNat)])
  | .ldB g d b o => BitVec.ofNat 32 (packFields [(6, 0x01), (4, g.toNat), (7, d.toNat), (7, b.toNat), (8, o.toNat)])
  | .ldH g d b o => BitVec.ofNat 32 (packFields [(6, 0x02), (4, g.toNat), (7, d.toNat), (7, b.toNat), (8, o.toNat)])
  | .ldW g d b o => BitVec.ofNat 32 (packFields [(6, 0x03), (4, g.toNat), (7, d.toNat), (7, b.toNat), (8, o.toNat)])
  | .ldD g d b o => BitVec.ofNat 32 (packFields [(6, 0x04), (4, g.toNat), (7, d.toNat), (7, b.toNat), (8, o.toNat)])
  | .ldQ g d b o => BitVec.ofNat 32 (packFields [(6, 0x05), (4, g.toNat), (7, d.toNat), (7, b.toNat), (8, o.toNat)])
  | .ldO g d b o => BitVec.ofNat 32 (packFields [(6, 0x06), (4, g.toNat), (7, d.toNat), (7, b.toNat), (8, o.toNat)])
  | .ldnB g d b o => BitVec.ofNat 32 (packFields [(6, 0x08), (4, g.toNat), (7, d.toNat), (7, b.toNat), (8, o.toNat)])
  | .ldnH g d b o => BitVec.ofNat 32 (packFields [(6, 0x09), (4, g.toNat), (7, d.toNat), (7, b.toNat), (8, o.toNat)])
  | .ldnW g d b o => BitVec.ofNat 32 (packFields [(6, 0x0A), (4, g.toNat), (7, d.toNat), (7, b.toNat), (8, o.toNat)])
  | .ldWAcq g d b o => BitVec.ofNat 32 (packFields [(6, 0x0B), (4, g.toNat), (7, d.toNat), (7, b.toNat), (8, o.toNat)])
  | .ldDAcq g d b o => BitVec.ofNat 32 (packFields [(6, 0x0C), (4, g.toNat), (7, d.toNat), (7, b.toNat), (8, o.toNat)])
  | .stB g d b o => BitVec.ofNat 32 (packFields [(6, 0x10), (4, g.toNat), (7, d.toNat), (7, b.toNat), (8, o.toNat)])
  | .stH g d b o => BitVec.ofNat 32 (packFields [(6, 0x11), (4, g.toNat), (7, d.toNat), (7, b.toNat), (8, o.toNat)])
  | .stW g d b o => BitVec.ofNat 32 (packFields [(6, 0x12), (4, g.toNat), (7, d.toNat), (7, b.toNat), (8, o.toNat)])
  | .stD g d b o => BitVec.ofNat 32 (packFields [(6, 0x13), (4, g.toNat), (7, d.toNat), (7, b.toNat), (8, o.toNat)])
  | .stQ g d b o => BitVec.ofNat 32 (packFields [(6, 0x14), (4, g.toNat), (7, d.toNat), (7, b.toNat), (8, o.toNat)])
  | .stO g d b o => BitVec.ofNat 32 (packFields [(6, 0x15), (4, g.toNat), (7, d.toNat), (7, b.toNat), (8, o.toNat)])
  | .stWRel g d b o => BitVec.ofNat 32 (packFields [(6, 0x16), (4, g.toNat), (7, d.toNat), (7, b.toNat), (8, o.toNat)])
  | .stDRel g d b o => BitVec.ofNat 32 (packFields [(6, 0x17), (4, g.toNat), (7, d.toNat), (7, b.toNat), (8, o.toNat)])
  | .ldroW g d b o => BitVec.ofNat 32 (packFields [(6, 0x18), (4, g.toNat), (7, d.toNat), (7, b.toNat), (8, o.toNat)])
  | .ldroD g d b o => BitVec.ofNat 32 (packFields [(6, 0x19), (4, g.toNat), (7, d.toNat), (7, b.toNat), (8, o.toNat)])
  | .ldroQ g d b o => BitVec.ofNat 32 (packFields [(6, 0x1A), (4, g.toNat), (7, d.toNat), (7, b.toNat), (8, o.toNat)])
  | .ldroO g d b o => BitVec.ofNat 32 (packFields [(6, 0x1B), (4, g.toNat), (7, d.toNat), (7, b.toNat), (8, o.toNat)])
  | .stncD g d b o => BitVec.ofNat 32 (packFields [(6, 0x1C), (4, g.toNat), (7, d.toNat), (7, b.toNat), (8, o.toNat)])
  | .stncQ g d b o => BitVec.ofNat 32 (packFields [(6, 0x1D), (4, g.toNat), (7, d.toNat), (7, b.toNat), (8, o.toNat)])
  | .stncO g d b o => BitVec.ofNat 32 (packFields [(6, 0x1E), (4, g.toNat), (7, d.toNat), (7, b.toNat), (8, o.toNat)])
  | .lds g d b z o => BitVec.ofNat 32 (packFields [(6, 0x20), (4, g.toNat), (7, d.toNat), (7, b.toNat), (2, z.toNat), (6, o.toNat)])
  | .sts g d b z o => BitVec.ofNat 32 (packFields [(6, 0x21), (4, g.toNat), (7, d.toNat), (7, b.toNat), (2, z.toNat), (6, o.toNat)])
  | .vld g v b r f o => BitVec.ofNat 32 (packFields [(6, 0x22), (4, g.toNat), (7, v.toNat), (7, b.toNat), (3, r.toNat), (1, f.toNat), (4, o.toNat)])
  | .vst g v b r f o => BitVec.ofNat 32 (packFields [(6, 0x23), (4, g.toNat), (7, v.toNat), (7, b.toNat), (3, r.toNat), (1, f.toNat), (4, o.toNat)])
  | .vlds g v b o => BitVec.ofNat 32 (packFields [(6, 0x24), (4, g.toNat), (7, v.toNat), (7, b.toNat), (8, o.toNat)])
  | .vsts g v b o => BitVec.ofNat 32 (packFields [(6, 0x25), (4, g.toNat), (7, v.toNat), (7, b.toNat), (8, o.toNat)])
  | .amoW g d b c o s => BitVec.ofNat 32 (packFields [(6, 0x28), (4, g.toNat), (7, d.toNat), (7, b.toNat), (4, c.toNat), (2, o.toNat), (2, s.toNat)])
  | .amoD g d b c o s => BitVec.ofNat 32 (packFields [(6, 0x29), (4, g.toNat), (7, d.toNat), (7, b.toNat), (4, c.toNat), (2, o.toNat), (2, s.toNat)])
  | .casW g d b o s => BitVec.ofNat 32 (packFields [(6, 0x2A), (4, g.toNat), (7, d.toNat), (7, b.toNat), (4, 0), (2, o.toNat), (2, s.toNat)])
  | .casD g d b o s => BitVec.ofNat 32 (packFields [(6, 0x2B), (4, g.toNat), (7, d.toNat), (7, b.toNat), (4, 0), (2, o.toNat), (2, s.toNat)])
  | .xadd g d b w => BitVec.ofNat 32 (packFields [(6, 0x2C), (4, g.toNat), (7, d.toNat), (7, b.toNat), (7, 0), (1, w.toNat)])
  | .xget g d b r => BitVec.ofNat 32 (packFields [(6, 0x2D), (4, g.toNat), (7, d.toNat), (7, b.toNat), (7, 0), (1, r.toNat)])
  | .fence g k s => BitVec.ofNat 32 (packFields [(6, 0x30), (4, g.toNat), (14, 0), (3, k.toNat), (2, 0), (3, s.toNat)])
  | .prf g b o => BitVec.ofNat 32 (packFields [(6, 0x31), (4, g.toNat), (7, 0), (7, b.toNat), (8, o.toNat)])
  | .probe g d => BitVec.ofNat 32 (packFields [(6, 0x32), (4, g.toNat), (7, d.toNat), (15, 0)])
  | .vadd k g d a b => BitVec.ofNat 32 (packFields [(6, 0x01), (3, k.toNat), (2, g.toNat), (7, d.toNat), (7, a.toNat), (7, b.toNat)])
  | .vsub k g d a b => BitVec.ofNat 32 (packFields [(6, 0x02), (3, k.toNat), (2, g.toNat), (7, d.toNat), (7, a.toNat), (7, b.toNat)])
  | .vmul k g d a b => BitVec.ofNat 32 (packFields [(6, 0x03), (3, k.toNat), (2, g.toNat), (7, d.toNat), (7, a.toNat), (7, b.toNat)])
  | .vfma k g d a b => BitVec.ofNat 32 (packFields [(6, 0x04), (3, k.toNat), (2, g.toNat), (7, d.toNat), (7, a.toNat), (7, b.toNat)])
  | .vfms k g d a b => BitVec.ofNat 32 (packFields [(6, 0x05), (3, k.toNat), (2, g.toNat), (7, d.toNat), (7, a.toNat), (7, b.toNat)])
  | .vmin k g d a b => BitVec.ofNat 32 (packFields [(6, 0x06), (3, k.toNat), (2, g.toNat), (7, d.toNat), (7, a.toNat), (7, b.toNat)])
  | .vmax k g d a b => BitVec.ofNat 32 (packFields [(6, 0x07), (3, k.toNat), (2, g.toNat), (7, d.toNat), (7, a.toNat), (7, b.toNat)])
  | .vabs k g d a => BitVec.ofNat 32 (packFields [(6, 0x08), (3, k.toNat), (2, g.toNat), (7, d.toNat), (7, a.toNat), (7, 0)])
  | .vneg k g d a => BitVec.ofNat 32 (packFields [(6, 0x09), (3, k.toNat), (2, g.toNat), (7, d.toNat), (7, a.toNat), (7, 0)])
  | .vclamp k g d a b => BitVec.ofNat 32 (packFields [(6, 0x0A), (3, k.toNat), (2, g.toNat), (7, d.toNat), (7, a.toNat), (7, b.toNat)])
  | .vand k g d a b => BitVec.ofNat 32 (packFields [(6, 0x0B), (3, k.toNat), (2, g.toNat), (7, d.toNat), (7, a.toNat), (7, b.toNat)])
  | .vor k g d a b => BitVec.ofNat 32 (packFields [(6, 0x0C), (3, k.toNat), (2, g.toNat), (7, d.toNat), (7, a.toNat), (7, b.toNat)])
  | .vxor k g d a b => BitVec.ofNat 32 (packFields [(6, 0x0D), (3, k.toNat), (2, g.toNat), (7, d.toNat), (7, a.toNat), (7, b.toNat)])
  | .vshl k g d a b => BitVec.ofNat 32 (packFields [(6, 0x0E), (3, k.toNat), (2, g.toNat), (7, d.toNat), (7, a.toNat), (7, b.toNat)])
  | .vshr k g d a b => BitVec.ofNat 32 (packFields [(6, 0x0F), (3, k.toNat), (2, g.toNat), (7, d.toNat), (7, a.toNat), (7, b.toNat)])
  | .vsra k g d a b => BitVec.ofNat 32 (packFields [(6, 0x10), (3, k.toNat), (2, g.toNat), (7, d.toNat), (7, a.toNat), (7, b.toNat)])
  | .vcmp k g c q a b => BitVec.ofNat 32 (packFields [(6, 0x11), (3, k.toNat), (2, g.toNat), (4, c.toNat), (3, q.toNat), (7, a.toNat), (7, b.toNat)])
  | .vsel k g d a b => BitVec.ofNat 32 (packFields [(6, 0x12), (3, k.toNat), (2, g.toNat), (7, d.toNat), (7, a.toNat), (7, b.toNat)])
  | .vmov k g d a => BitVec.ofNat 32 (packFields [(6, 0x13), (3, k.toNat), (2, g.toNat), (7, d.toNat), (7, a.toNat), (7, 0)])
  | .vbcs k g d b => BitVec.ofNat 32 (packFields [(6, 0x14), (3, k.toNat), (2, g.toNat), (7, d.toNat), (7, 0), (7, b.toNat)])
  | .vlane k g d => BitVec.ofNat 32 (packFields [(6, 0x15), (3, k.toNat), (2, g.toNat), (7, d.toNat), (14, 0)])
  | .vaddS k g d a b => BitVec.ofNat 32 (packFields [(6, 0x21), (3, k.toNat), (2, g.toNat), (7, d.toNat), (7, a.toNat), (7, b.toNat)])
  | .vsubS k g d a b => BitVec.ofNat 32 (packFields [(6, 0x22), (3, k.toNat), (2, g.toNat), (7, d.toNat), (7, a.toNat), (7, b.toNat)])
  | .vmulS k g d a b => BitVec.ofNat 32 (packFields [(6, 0x23), (3, k.toNat), (2, g.toNat), (7, d.toNat), (7, a.toNat), (7, b.toNat)])
  | .vfmaS k g d a b => BitVec.ofNat 32 (packFields [(6, 0x24), (3, k.toNat), (2, g.toNat), (7, d.toNat), (7, a.toNat), (7, b.toNat)])
  | .vfmsS k g d a b => BitVec.ofNat 32 (packFields [(6, 0x25), (3, k.toNat), (2, g.toNat), (7, d.toNat), (7, a.toNat), (7, b.toNat)])
  | .vminS k g d a b => BitVec.ofNat 32 (packFields [(6, 0x26), (3, k.toNat), (2, g.toNat), (7, d.toNat), (7, a.toNat), (7, b.toNat)])
  | .vmaxS k g d a b => BitVec.ofNat 32 (packFields [(6, 0x27), (3, k.toNat), (2, g.toNat), (7, d.toNat), (7, a.toNat), (7, b.toNat)])
  | .vclampS k g d a b => BitVec.ofNat 32 (packFields [(6, 0x2A), (3, k.toNat), (2, g.toNat), (7, d.toNat), (7, a.toNat), (7, b.toNat)])
  | .vandS k g d a b => BitVec.ofNat 32 (packFields [(6, 0x2B), (3, k.toNat), (2, g.toNat), (7, d.toNat), (7, a.toNat), (7, b.toNat)])
  | .vorS k g d a b => BitVec.ofNat 32 (packFields [(6, 0x2C), (3, k.toNat), (2, g.toNat), (7, d.toNat), (7, a.toNat), (7, b.toNat)])
  | .vxorS k g d a b => BitVec.ofNat 32 (packFields [(6, 0x2D), (3, k.toNat), (2, g.toNat), (7, d.toNat), (7, a.toNat), (7, b.toNat)])
  | .vshlS k g d a b => BitVec.ofNat 32 (packFields [(6, 0x2E), (3, k.toNat), (2, g.toNat), (7, d.toNat), (7, a.toNat), (7, b.toNat)])
  | .vshrS k g d a b => BitVec.ofNat 32 (packFields [(6, 0x2F), (3, k.toNat), (2, g.toNat), (7, d.toNat), (7, a.toNat), (7, b.toNat)])
  | .vsraS k g d a b => BitVec.ofNat 32 (packFields [(6, 0x30), (3, k.toNat), (2, g.toNat), (7, d.toNat), (7, a.toNat), (7, b.toNat)])
  | .vcmpS k g c q a b => BitVec.ofNat 32 (packFields [(6, 0x31), (3, k.toNat), (2, g.toNat), (4, c.toNat), (3, q.toNat), (7, a.toNat), (7, b.toNat)])
  | .vselS k g d a b => BitVec.ofNat 32 (packFields [(6, 0x32), (3, k.toNat), (2, g.toNat), (7, d.toNat), (7, a.toNat), (7, b.toNat)])
  | .vexp k g d a => BitVec.ofNat 32 (packFields [(6, 0x01), (3, k.toNat), (2, g.toNat), (7, d.toNat), (7, a.toNat), (7, 0)])
  | .vlog k g d a => BitVec.ofNat 32 (packFields [(6, 0x02), (3, k.toNat), (2, g.toNat), (7, d.toNat), (7, a.toNat), (7, 0)])
  | .vtanh k g d a => BitVec.ofNat 32 (packFields [(6, 0x03), (3, k.toNat), (2, g.toNat), (7, d.toNat), (7, a.toNat), (7, 0)])
  | .vsig k g d a => BitVec.ofNat 32 (packFields [(6, 0x04), (3, k.toNat), (2, g.toNat), (7, d.toNat), (7, a.toNat), (7, 0)])
  | .vgelu k g d a => BitVec.ofNat 32 (packFields [(6, 0x05), (3, k.toNat), (2, g.toNat), (7, d.toNat), (7, a.toNat), (7, 0)])
  | .vsilu k g d a => BitVec.ofNat 32 (packFields [(6, 0x06), (3, k.toNat), (2, g.toNat), (7, d.toNat), (7, a.toNat), (7, 0)])
  | .vrsqrt k g d a => BitVec.ofNat 32 (packFields [(6, 0x07), (3, k.toNat), (2, g.toNat), (7, d.toNat), (7, a.toNat), (7, 0)])
  | .vsqrt k g d a => BitVec.ofNat 32 (packFields [(6, 0x08), (3, k.toNat), (2, g.toNat), (7, d.toNat), (7, a.toNat), (7, 0)])
  | .vrcp k g d a => BitVec.ofNat 32 (packFields [(6, 0x09), (3, k.toNat), (2, g.toNat), (7, d.toNat), (7, a.toNat), (7, 0)])
  | .vrcpe k g d a => BitVec.ofNat 32 (packFields [(6, 0x0A), (3, k.toNat), (2, g.toNat), (7, d.toNat), (7, a.toNat), (7, 0)])
  | .vrcpn k g d a b => BitVec.ofNat 32 (packFields [(6, 0x0B), (3, k.toNat), (2, g.toNat), (7, d.toNat), (7, a.toNat), (7, b.toNat)])
  | .vrsqe k g d a => BitVec.ofNat 32 (packFields [(6, 0x0C), (3, k.toNat), (2, g.toNat), (7, d.toNat), (7, a.toNat), (7, 0)])
  | .vrsqn k g d a b => BitVec.ofNat 32 (packFields [(6, 0x0D), (3, k.toNat), (2, g.toNat), (7, d.toNat), (7, a.toNat), (7, b.toNat)])
  | .vcvt k g d a r u => BitVec.ofNat 32 (packFields [(6, 0x0E), (3, k.toNat), (2, g.toNat), (7, d.toNat), (7, a.toNat), (1, r.toNat), (6, u.toNat)])
  | .vperm k g d a b => BitVec.ofNat 32 (packFields [(6, 0x0F), (3, k.toNat), (2, g.toNat), (7, d.toNat), (7, a.toNat), (7, b.toNat)])
  | .vslide k g d a b => BitVec.ofNat 32 (packFields [(6, 0x10), (3, k.toNat), (2, g.toNat), (7, d.toNat), (7, a.toNat), (7, b.toNat)])
  | .vsort k g d a => BitVec.ofNat 32 (packFields [(6, 0x11), (3, k.toNat), (2, g.toNat), (7, d.toNat), (7, a.toNat), (7, 0)])
  | .vred k g d a => BitVec.ofNat 32 (packFields [(6, 0x12), (3, k.toNat), (2, g.toNat), (7, d.toNat), (7, a.toNat), (7, 0)])
  | .mpush g q => BitVec.ofNat 32 (packFields [(6, 0x13), (3, 0), (2, g.toNat), (11, 0), (3, q.toNat), (7, 0)])
  | .minv g => BitVec.ofNat 32 (packFields [(6, 0x14), (3, 0), (2, g.toNat), (21, 0)])
  | .mpop g => BitVec.ofNat 32 (packFields [(6, 0x15), (3, 0), (2, g.toNat), (21, 0)])
  | .mset g t q a => BitVec.ofNat 32 (packFields [(6, 0x16), (3, 0), (2, g.toNat), (3, 0), (1, t.toNat), (3, q.toNat), (7, a.toNat), (7, 0)])
  | .mget g d t q => BitVec.ofNat 32 (packFields [(6, 0x17), (3, 0), (2, g.toNat), (7, d.toNat), (3, 0), (1, t.toNat), (3, q.toNat), (7, 0)])
  | .vslideS k g d a b => BitVec.ofNat 32 (packFields [(6, 0x30), (3, k.toNat), (2, g.toNat), (7, d.toNat), (7, a.toNat), (7, b.toNat)])
  | .mcfg g a b => BitVec.ofNat 32 (packFields [(6, 0x01), (4, g.toNat), (7, a.toNat), (7, b.toNat), (8, 0)])
  | .cpl g a l => BitVec.ofNat 32 (packFields [(6, 0x02), (4, g.toNat), (7, a.toNat), (11, 0), (4, l.toNat)])
  | .mld g a c => BitVec.ofNat 32 (packFields [(6, 0x03), (4, g.toNat), (7, a.toNat), (7, 0), (1, c.toNat), (7, 0)])
  | .mmk g a b z => BitVec.ofNat 32 (packFields [(6, 0x04), (4, g.toNat), (7, a.toNat), (7, b.toNat), (1, z.toNat), (7, 0)])
  | .mmc g a b z => BitVec.ofNat 32 (packFields [(6, 0x05), (4, g.toNat), (7, a.toNat), (7, b.toNat), (1, z.toNat), (7, 0)])
  | .msp g a b z n => BitVec.ofNat 32 (packFields [(6, 0x06), (4, g.toNat), (7, a.toNat), (7, b.toNat), (1, z.toNat), (5, 0), (2, n.toNat)])
  | .mdp g a => BitVec.ofNat 32 (packFields [(6, 0x07), (4, g.toNat), (7, a.toNat), (15, 0)])
  | .mdr g a b s => BitVec.ofNat 32 (packFields [(6, 0x08), (4, g.toNat), (7, a.toNat), (7, b.toNat), (7, s.toNat), (1, 0)])
  | .mstr g a b s => BitVec.ofNat 32 (packFields [(6, 0x09), (4, g.toNat), (7, a.toNat), (7, b.toNat), (7, s.toNat), (1, 0)])
  | .mzero g => BitVec.ofNat 32 (packFields [(6, 0x0A), (4, g.toNat), (22, 0)])
  | .mtab g a b => BitVec.ofNat 32 (packFields [(6, 0x0B), (4, g.toNat), (7, a.toNat), (7, b.toNat), (8, 0)])
  | .mhist g a b r c l => BitVec.ofNat 32 (packFields [(6, 0x0C), (4, g.toNat), (7, a.toNat), (7, b.toNat), (1, r.toNat), (1, c.toNat), (1, l.toNat), (5, 0)])
  | .mbind g a t y => BitVec.ofNat 32 (packFields [(6, 0x0D), (4, g.toNat), (7, a.toNat), (7, 0), (2, t.toNat), (6, y.toNat)])
  | .mst g a => BitVec.ofNat 32 (packFields [(6, 0x0E), (4, g.toNat), (7, a.toNat), (15, 0)])
  | .mfence g => BitVec.ofNat 32 (packFields [(6, 0x0F), (4, g.toNat), (22, 0)])
  | .cpy g a b h => BitVec.ofNat 32 (packFields [(6, 0x01), (4, g.toNat), (7, a.toNat), (7, b.toNat), (8, h.toNat)])
  | .cpyt g a b h => BitVec.ofNat 32 (packFields [(6, 0x02), (4, g.toNat), (7, a.toNat), (7, b.toNat), (8, h.toNat)])
  | .cpyx g a b h => BitVec.ofNat 32 (packFields [(6, 0x03), (4, g.toNat), (7, a.toNat), (7, b.toNat), (8, h.toNat)])
  | .cpyc g a b h => BitVec.ofNat 32 (packFields [(6, 0x04), (4, g.toNat), (7, a.toNat), (7, b.toNat), (8, h.toNat)])
  | .barm g a b h => BitVec.ofNat 32 (packFields [(6, 0x05), (4, g.toNat), (7, a.toNat), (7, b.toNat), (8, h.toNat)])
  | .barr g a h => BitVec.ofNat 32 (packFields [(6, 0x06), (4, g.toNat), (7, a.toNat), (7, 0), (8, h.toNat)])
  | .bq g a => BitVec.ofNat 32 (packFields [(6, 0x07), (4, g.toNat), (7, a.toNat), (7, 0), (8, 255)])
  | .qinit g a b h => BitVec.ofNat 32 (packFields [(6, 0x08), (4, g.toNat), (7, a.toNat), (7, b.toNat), (8, h.toNat)])
  | .qadd g a b h => BitVec.ofNat 32 (packFields [(6, 0x09), (4, g.toNat), (7, a.toNat), (7, b.toNat), (8, h.toNat)])
  | .qmerge g a b h => BitVec.ofNat 32 (packFields [(6, 0x0A), (4, g.toNat), (7, a.toNat), (7, b.toNat), (8, h.toNat)])
  | .qmergeat g a b h => BitVec.ofNat 32 (packFields [(6, 0x0B), (4, g.toNat), (7, a.toNat), (7, b.toNat), (8, h.toNat)])
  | .qquery g a b h => BitVec.ofNat 32 (packFields [(6, 0x0C), (4, g.toNat), (7, a.toNat), (7, b.toNat), (8, h.toNat)])
  | .mmerge g a b h => BitVec.ofNat 32 (packFields [(6, 0x0D), (4, g.toNat), (7, a.toNat), (7, b.toNat), (8, h.toNat)])
  | .hinit g a h => BitVec.ofNat 32 (packFields [(6, 0x10), (4, g.toNat), (7, a.toNat), (7, 0), (8, h.toNat)])
  | .hadd g a b h => BitVec.ofNat 32 (packFields [(6, 0x11), (4, g.toNat), (7, a.toNat), (7, b.toNat), (8, h.toNat)])
  | .hmerge g a b h => BitVec.ofNat 32 (packFields [(6, 0x12), (4, g.toNat), (7, a.toNat), (7, b.toNat), (8, h.toNat)])
  | .htop g a b h => BitVec.ofNat 32 (packFields [(6, 0x13), (4, g.toNat), (7, a.toNat), (7, b.toNat), (8, h.toNat)])
  | .dinit g a b h => BitVec.ofNat 32 (packFields [(6, 0x14), (4, g.toNat), (7, a.toNat), (7, b.toNat), (8, h.toNat)])
  | .dadd g a b h => BitVec.ofNat 32 (packFields [(6, 0x15), (4, g.toNat), (7, a.toNat), (7, b.toNat), (8, h.toNat)])
  | .dmerge g a b h => BitVec.ofNat 32 (packFields [(6, 0x16), (4, g.toNat), (7, a.toNat), (7, b.toNat), (8, h.toNat)])
  | .dest g a h => BitVec.ofNat 32 (packFields [(6, 0x17), (4, g.toNat), (7, a.toNat), (7, 0), (8, h.toNat)])
  | .stopen g a b h => BitVec.ofNat 32 (packFields [(6, 0x18), (4, g.toNat), (7, a.toNat), (7, b.toNat), (8, h.toNat)])
  | .stld g a b h => BitVec.ofNat 32 (packFields [(6, 0x19), (4, g.toNat), (7, a.toNat), (7, b.toNat), (8, h.toNat)])
  | .stst g a b h => BitVec.ofNat 32 (packFields [(6, 0x1A), (4, g.toNat), (7, a.toNat), (7, b.toNat), (8, h.toNat)])
  | .stmark g a h => BitVec.ofNat 32 (packFields [(6, 0x1B), (4, g.toNat), (7, a.toNat), (7, 0), (8, h.toNat)])
  | .stback g a b h => BitVec.ofNat 32 (packFields [(6, 0x1C), (4, g.toNat), (7, a.toNat), (7, b.toNat), (8, h.toNat)])
  | .stfork g a b h => BitVec.ofNat 32 (packFields [(6, 0x1D), (4, g.toNat), (7, a.toNat), (7, b.toNat), (8, h.toNat)])
  | .stpin g a b h => BitVec.ofNat 32 (packFields [(6, 0x1E), (4, g.toNat), (7, a.toNat), (7, b.toNat), (8, h.toNat)])
  | .stclose g a h => BitVec.ofNat 32 (packFields [(6, 0x1F), (4, g.toNat), (7, a.toNat), (7, 0), (8, h.toNat)])
  | .stq g a b => BitVec.ofNat 32 (packFields [(6, 0x20), (4, g.toNat), (7, a.toNat), (7, b.toNat), (8, 255)])
  | .mig g a b h => BitVec.ofNat 32 (packFields [(6, 0x21), (4, g.toNat), (7, a.toNat), (7, b.toNat), (8, h.toNat)])
  | .pkset g a b => BitVec.ofNat 32 (packFields [(6, 0x22), (4, g.toNat), (7, a.toNat), (7, b.toNat), (8, 255)])
  | .own g a => BitVec.ofNat 32 (packFields [(6, 0x23), (4, g.toNat), (7, a.toNat), (7, 0), (8, 255)])
  | .ocinv g a b h => BitVec.ofNat 32 (packFields [(6, 0x24), (4, g.toNat), (7, a.toNat), (7, b.toNat), (8, h.toNat)])
  | .lrenew g h => BitVec.ofNat 32 (packFields [(6, 0x25), (4, g.toNat), (14, 0), (8, h.toNat)])
  | .hnote g a b h => BitVec.ofNat 32 (packFields [(6, 0x26), (4, g.toNat), (7, a.toNat), (7, b.toNat), (8, h.toNat)])
  | .hintr g a h => BitVec.ofNat 32 (packFields [(6, 0x27), (4, g.toNat), (7, a.toNat), (7, 0), (8, h.toNat)])
  | .gath g a h => BitVec.ofNat 32 (packFields [(6, 0x28), (4, g.toNat), (7, a.toNat), (7, 0), (8, h.toNat)])
  | .scat g a h => BitVec.ofNat 32 (packFields [(6, 0x29), (4, g.toNat), (7, a.toNat), (7, 0), (8, h.toNat)])
  | .scata g a h => BitVec.ofNat 32 (packFields [(6, 0x2A), (4, g.toNat), (7, a.toNat), (7, 0), (8, h.toNat)])
  | .fqread g a b h => BitVec.ofNat 32 (packFields [(6, 0x2B), (4, g.toNat), (7, a.toNat), (7, b.toNat), (8, h.toNat)])
  | .frep g a => BitVec.ofNat 32 (packFields [(6, 0x2C), (4, g.toNat), (7, a.toNat), (7, 0), (8, 255)])
  | .fdrop g a b => BitVec.ofNat 32 (packFields [(6, 0x2D), (4, g.toNat), (7, a.toNat), (7, b.toNat), (8, 255)])
  | .wlnew g a b h => BitVec.ofNat 32 (packFields [(6, 0x30), (4, g.toNat), (7, a.toNat), (7, b.toNat), (8, h.toNat)])
  | .wlpush g a h => BitVec.ofNat 32 (packFields [(6, 0x31), (4, g.toNat), (7, a.toNat), (7, 0), (8, h.toNat)])
  | .wlpop g a h => BitVec.ofNat 32 (packFields [(6, 0x32), (4, g.toNat), (7, a.toNat), (7, 0), (8, h.toNat)])
  | .wlins g a b h => BitVec.ofNat 32 (packFields [(6, 0x33), (4, g.toNat), (7, a.toNat), (7, b.toNat), (8, h.toNat)])
  | .wlstat g a => BitVec.ofNat 32 (packFields [(6, 0x34), (4, g.toNat), (7, a.toNat), (7, 0), (8, 255)])
  | .cqsend g a b h => BitVec.ofNat 32 (packFields [(6, 0x36), (4, g.toNat), (7, a.toNat), (7, b.toNat), (8, h.toNat)])
  | .cst g a b => BitVec.ofNat 32 (packFields [(6, 0x37), (4, g.toNat), (7, a.toNat), (7, b.toNat), (8, 255)])
  | .copen g a b h => BitVec.ofNat 32 (packFields [(6, 0x38), (4, g.toNat), (7, a.toNat), (7, b.toNat), (8, h.toNat)])
  | .cput g a h => BitVec.ofNat 32 (packFields [(6, 0x39), (4, g.toNat), (7, a.toNat), (7, 0), (8, h.toNat)])
  | .cget g a h => BitVec.ofNat 32 (packFields [(6, 0x3A), (4, g.toNat), (7, a.toNat), (7, 0), (8, h.toNat)])
  | .cred g a h => BitVec.ofNat 32 (packFields [(6, 0x3B), (4, g.toNat), (7, a.toNat), (7, 0), (8, h.toNat)])
  | .cxf g a h => BitVec.ofNat 32 (packFields [(6, 0x3C), (4, g.toNat), (7, a.toNat), (7, 0), (8, h.toNat)])
  | .cbar g a h => BitVec.ofNat 32 (packFields [(6, 0x3D), (4, g.toNat), (7, a.toNat), (7, 0), (8, h.toNat)])
  | .csmp g a h => BitVec.ofNat 32 (packFields [(6, 0x3E), (4, g.toNat), (7, a.toNat), (7, 0), (8, h.toNat)])
  | .cstr g a b h => BitVec.ofNat 32 (packFields [(6, 0x3F), (4, g.toNat), (7, a.toNat), (7, b.toNat), (8, h.toNat)])
  | .nop => BitVec.ofNat 32 (packFields [(6, 0x00), (26, 0)])
  | .ret => BitVec.ofNat 32 (packFields [(6, 0x08), (26, 0)])
  | .suspend => BitVec.ofNat 32 (packFields [(6, 0x11), (26, 0)])
  | .yield => BitVec.ofNat 32 (packFields [(6, 0x12), (26, 0)])
  | .endTask => BitVec.ofNat 32 (packFields [(6, 0x13), (26, 0)])
  | .eret => BitVec.ofNat 32 (packFields [(6, 0x38), (26, 0)])
  | .halt => BitVec.ofNat 32 (packFields [(6, 0x3B), (26, 0)])
  | .nopScalar => BitVec.ofNat 32 (packFields [(7, 0x00), (25, 0)])
  | .nopMemory => BitVec.ofNat 32 (packFields [(6, 0x00), (26, 0)])
  | .nopVector0 => BitVec.ofNat 32 (packFields [(6, 0x00), (26, 0)])
  | .nopVector1 => BitVec.ofNat 32 (packFields [(6, 0x00), (26, 0)])
  | .nopArray => BitVec.ofNat 32 (packFields [(6, 0x00), (26, 0)])
  | .nopEngine => BitVec.ofNat 32 (packFields [(6, 0x00), (26, 0)])
  | .bundleIssue _ => 0
  | .bundleFetch _ => 0
  | .fairnessBound _ => 0
  | .loadAnswer _ => 0
  | .writeAcknowledgement _ => 0
  | .storeRejection _ => 0
  | .probeAnswer _ => 0
  | .dependencyEntryAgeProbe _ _ => 0
  | .causalWriteApply _ => 0
  | .readRequestServe _ => 0
  | .probeRequestServe _ => 0
  | .atomicUpdateServe _ => 0
  | .writeResendTimeout _ => 0
  | .targetUnreachable _ => 0
  | .gazetteerEntryExpiry _ _ => 0
  | .homeOwnerQuery _ => 0
  | .homeOwnerAnswer _ => 0
  | .redirect _ => 0
  | .notHere _ => 0
  | .signpostRelay _ => 0
  | .writeResolution _ => 0
  | .lineageFrontierReport _ _ _ => 0
  | .signpostRetirement _ _ => 0
  | .lineageDrop _ _ => 0
  | .signpostRemove _ _ => 0
  | .migrationRequest _ => 0
  | .migrationCopyRound _ => 0
  | .migrationFreeze _ => 0
  | .freezeTimeout _ => 0
  | .migrationCutover _ => 0
  | .migrationComplete _ => 0
  | .leaseRequest _ _ _ => 0
  | .leaseRelease _ _ _ => 0
  | .haUopWriteLeaf _ _ => 0
  | .haUopCreate _ _ => 0
  | .haUopRemove _ _ => 0
  | .homeRecordCreate _ => 0
  | .hostGraphSubmit _ _ _ => 0
  | .hostGraphDisable _ _ _ => 0
  | .taskPlacement _ _ => 0
  | .passedOverReservation _ _ => 0
  | .taskLaunch _ _ => 0
  | .residencyRefused _ _ => 0
  | .recordWriteBack _ _ => 0
  | .overflowQueueRefill _ => 0
  | .conditionalNodeRun _ _ => 0
  | .copyNodeRun _ _ => 0
  | .collectiveNodeRun _ _ => 0
  | .notifyNodeRun _ _ => 0
  | .joinNodeEnd _ _ => 0
  | .quantumExpiry _ _ => 0
  | .hostPreemptionRequest _ _ _ => 0
  | .preemptionTakeEffect _ => 0
  | .saveComplete _ => 0
  | .spawnAnswer _ => 0
  | .waitComplete _ => 0
  | .waitTimeout _ => 0
  | .copyCommandStart _ _ => 0
  | .copyUnitCredit _ _ _ => 0
  | .copyFault _ _ _ => 0
  | .copyCommandLeave _ _ _ => 0
  | .surveyCommandRun _ => 0
  | .qmergeatOwnerApply _ => 0
  | .qmergeatAck _ => 0
  | .tapRowInsert _ => 0
  | .arrayInstructionStart _ => 0
  | .arrayPassInterrupt _ => 0
  | .arrayInstructionComplete _ => 0
  | .arrayRelease _ => 0
  | .streamRowCredit _ _ => 0
  | .stateCommandApply _ => 0
  | .stWatchArm _ _ _ => 0
  | .stWatchDisarm _ _ _ => 0
  | .indexElementIssue _ _ => 0
  | .indexElementArrival _ _ _ => 0
  | .elementPark _ _ _ => 0
  | .bitmapTestAndSet _ _ _ => 0
  | .contributionSend _ _ => 0
  | .slotContributionArrival _ => 0
  | .contributionRefusedResend _ => 0
  | .slotTimeout _ => 0
  | .lateWindowEnd _ => 0
  | .resultDelivery _ => 0
  | .collectiveComplete _ _ => 0
  | .queueMessageArrival _ => 0
  | .queueMessageResend _ => 0
  | .cgGroupCreate _ _ _ => 0
  | .cgGroupDelete _ _ _ => 0
  | .portLinkDown _ _ => 0
  | .portLinkUp _ _ => 0
  | .bar2Access _ _ _ _ _ _ => 0
  | .bar4Access _ _ _ _ _ _ => 0
  | .registerWrite _ _ _ _ => 0
  | .registerRead _ _ _ => 0
  | .hostRunRequest _ _ _ => 0
  | .eventSetWrite _ _ _ => 0
  | .eventClrWrite _ _ _ => 0
  | .pageInRefuse _ _ _ => 0
  | .hrCfg1Write _ _ _ => 0
  | .hrHeadWrite _ _ _ => 0
  | .ringEntryWrite _ _ => 0
  | .ringCoalesceTimeout _ _ => 0
  | .spadHashApply _ => 0
  | .eccCorrected _ _ _ => 0
  | .uncorrectableError _ _ _ => 0
  | .idleEntry _ => 0
  | .idleWake _ => 0
  | .droopStretch _ => 0
  | .droopRelease _ => 0
  | .coldReset _ => 0
  | .stageMeasurement _ _ _ => 0
  | .attestationRequest _ _ _ => 0
  | .mcPowerOn _ => 0
  | .mcPowerOff _ => 0
  | .mcColdReset _ => 0
  | .mcReadErrors _ => 0
  | .mcReadSensors _ => 0
  | .mcAttestation _ _ => 0
  | .mcFirmwareUpdate _ _ => 0
  | .mcSetPackageNumber _ _ => 0
  | .referenceTick => 0
  | .indexCommandApply _ _ => 0
  | .testAndSetAnswer _ _ _ => 0
  | .transferUnitCredit _ _ => 0
  | .collectiveCommandStart _ => 0
  | .leaseRenewalComplete _ _ => 0
  | .gazetteerEntryReplacement _ _ => 0
  | .flitReceiveError _ _ => 0

/-- The bits a header adds to an S0 word (R60). -/
def Header.bits (h : Header) : Nat := h.pop.toNat * 2 ^ 18 + h.mode.toNat * 2 ^ 16 + h.level.toNat * 2 ^ 13

/-- The word of a well-formed instruction; the header goes into an S0 word only. -/
def Instr.encode (i : Instr) (h : Header := Header.none) : BitVec 32 :=
  if i.space? = some .control then BitVec.ofNat 32 (i.encodeBody.toNat + h.bits) else i.encodeBody

/-- The little-endian word at byte `4k` of a list of bytes (R3, R18); a missing byte reads 0. -/
def wordAt (bs : List (BitVec 8)) (k : Nat) : BitVec 32 :=
  let b (j : Nat) : Nat := (bs.getD (4 * k + j) 0).toNat
  BitVec.ofNat 32 (b 0 + 2 ^ 8 * b 1 + 2 ^ 16 * b 2 + 2 ^ 24 * b 3)

/-- The four bytes of a word, lowest first (R3). -/
def wordBytes (w : BitVec 32) : List (BitVec 8) :=
  [BitVec.ofNat 8 w.toNat, BitVec.ofNat 8 (w.toNat / 2 ^ 8), BitVec.ofNat 8 (w.toNat / 2 ^ 16), BitVec.ofNat 8 (w.toNat / 2 ^ 24)]

/-- The eight slots of a bundle in slot order (R18). -/
def allSlots : List Slot := [.s0, .s1, .s2, .s3, .s4, .s5, .s6, .s7]

/-- The slot word of every slot of a 32-byte bundle (R18). -/
def bundleWords (bs : List (BitVec 8)) : List (Slot × BitVec 32) :=
  allSlots.map (fun sl => (sl, wordAt bs sl.num))

/-- The 32 bytes of a bundle whose slot `sl` holds `w` and whose other slots hold nop. -/
def bundleBytes (sl : Slot) (w : BitVec 32) : List (BitVec 8) :=
  (allSlots.map (fun t => if t = sl then wordBytes w else wordBytes 0)).flatten

/-- One slot for each opcode space, in slot order. -/
def tableSlots : List Slot := [.s0, .s1, .s3, .s4, .s5, .s6, .s7]

/-- The slot a word of the opcode table is put into when no slot is named: the first whose decoding accepts it, S0 when none does; S1
comes first for a word of operands 0 whose opcode takes bit 25, which only S1 and S2 have. DESIGN CHOICE (log 11): the table does not
number the slot. -/
def tableSlot (w : BitVec 32) : Slot :=
  let sls := if w.toNat % 2 ^ 26 = 2 ^ 25 then .s1 :: tableSlots else tableSlots
  (sls.find? (fun sl => match decodeWord sl w with | .ok _ => true | .error _ => false)).getD .s0

/-- The instruction the decoder reads from a table word: the word is laid out as a bundle, slot words in byte order, and decoded from it. -/
def decodeTableWord (nbits w : Nat) : Option Instr :=
  if nbits = 0 then none
  else
    let word := BitVec.ofNat 32 (w % 2 ^ nbits)
    let sl := tableSlot word
    match decodeWord sl (wordAt (bundleBytes sl word) sl.num) with
    | .ok i => some i
    | .error _ => none

end Sys2Proof
end

