-- ==== Sys2Proof/Machine/Survey.lean ====
section
/-! DEFINITION. Survey (R303 to R331): moment summaries (R305, R306), quantile sketches (R307 to R312), heavy-hitter lists (R313 to R316),
distinct-count registers (R317 to R320), the commands, the tap (R325) and merges at an owner (R326). A command reads and writes in one
step (log 6). -/

namespace Sys2Proof.Machine

/-- Bytes o to o + n - 1 of an image as a number. -/
def imgN (bs : List Byte) (o n : Nat) : Nat := ofBytes ((bs.drop o).take n)

/-- Summary order on f32 codes (R304): -0 below +0. -/
def f32Key (c : Nat) : Int := if c / 2 ^ 31 % 2 = 1 then -((c % 2 ^ 31 : Nat) : Int) - 1 else ((c % 2 ^ 31 : Nat) : Int)
def sortF32 (xs : List Nat) : List Nat := sortBy (fun a b => decide (f32Key a ≤ f32Key b)) xs
/-- The lower and the higher of two codes of a summary (R304, R306). A summary that holds a NaN code has no place in summary order: the model compares
its bits and writes them as they are (R88; log 100). -/
def minF32 (a b : Nat) : Nat := if f32Key b < f32Key a then b else a
def maxF32 (a b : Nat) : Nat := if f32Key a < f32Key b then b else a

def sat64 (n : Nat) : Nat := Nat.min n (2 ^ 64 - 1)
def sat32 (n : Nat) : Nat := Nat.min n (2 ^ 32 - 1)

def zeroBytes (n : Nat) : List Byte := List.replicate n 0

-- Moment summaries ------------------------------------------------------------------------------------------------------------

/-- mmerge (R306) on the 32 bytes of two moment summaries. -/
def mmergeBytes (d s : List Byte) : List Byte :=
  bytesOf 4 (sat32 (imgN d 0 4 + imgN s 0 4)) ++ bytesOf 4 (sat32 (imgN d 4 4 + imgN s 4 4)) ++
    bytesOf 4 (minF32 (imgN d 8 4) (imgN s 8 4)) ++ bytesOf 4 (maxF32 (imgN d 12 4) (imgN s 12 4)) ++
    bytesOf 8 (addF64 (imgN d 16 8) (imgN s 16 8)) ++ bytesOf 8 (addF64 (imgN d 24 8) (imgN s 24 8))

-- Quantile sketches -----------------------------------------------------------------------------------------------------------

/-- A quantile sketch (R307); `free` is the number of the next entropy bit. -/
structure Sketch where
  n : Nat
  nan : Nat
  min : Nat
  max : Nat
  key : Nat
  ctr : Nat
  k : Nat
  fmt : Nat
  sat : Bool
  ent : Bool
  levels : List (List Nat)
  free : Nat
deriving DecidableEq, Repr

/-- The fills of an image. -/
def sketchFill (bs : List Byte) (l : Nat) : Nat := imgN bs (4032 + l) 1

/-- An image is well formed (R308). -/
def sketchOk (bs : List Byte) : Bool :=
  let k := imgN bs 41 1
  let top := ((upFrom 0 16).filter (fun l => sketchFill bs l != 0)).foldl (fun _ l => l + 1) 0
  k % 2 == 0 && decide (2 ≤ k) && decide (k ≤ 62) && laneCodeOk (imgN bs 42 1) && decide (imgN bs 43 1 < 4) && imgN bs 44 20 == 0 && imgN bs 4048 48 == 0 &&
    (upFrom 0 15).all (fun l => decide (sketchFill bs l < k)) && decide (sketchFill bs 15 ≤ k) && imgN bs 40 1 == top

/-- The sketch of a well-formed image. -/
def sketchOf (bs : List Byte) (free : Nat) : Sketch :=
  { n := imgN bs 0 8, nan := imgN bs 8 8, min := imgN bs 16 4, max := imgN bs 20 4, key := imgN bs 24 8, ctr := imgN bs 32 8, k := imgN bs 41 1,
    fmt := imgN bs 42 1, sat := bitN (imgN bs 43 1) 1, ent := bitN (imgN bs 43 1) 0,
    levels := (upFrom 0 16).map (fun l => (upFrom 0 (sketchFill bs l)).map (fun i => imgN bs (64 + 248 * l + 4 * i) 4)), free := free }

/-- One more than the highest level with items (R307). -/
def Sketch.nlev (q : Sketch) : Nat := ((q.levels.zip (upFrom 0 16)).filter (fun p => !p.1.isEmpty)).foldl (fun _ p => p.2 + 1) 0

def Sketch.image (q : Sketch) : List Byte :=
  bytesOf 8 q.n ++ bytesOf 8 q.nan ++ bytesOf 4 q.min ++ bytesOf 4 q.max ++ bytesOf 8 q.key ++ bytesOf 8 q.ctr ++
    bytesOf 4 (q.nlev + 256 * q.k + 65536 * q.fmt + 2 ^ 24 * (2 * b2n q.sat + b2n q.ent)) ++ zeroBytes 20 ++
    (q.levels.map (fun xs => (xs.map (bytesOf 4)).flatten ++ zeroBytes (248 - 4 * xs.length))).flatten ++
    q.levels.map (fun xs => BitVec.ofNat 8 xs.length) ++ zeroBytes 48

/-- A coin (R309). -/
def Sketch.coin (q : Sketch) : Nat × Sketch :=
  if q.ent then (b2n (Config.entropyBit q.free), { q with ctr := (q.ctr + 1) % 2 ^ 64, free := q.free + 1 })
  else (chash q.key q.ctr / 2 ^ 31, { q with ctr := (q.ctr + 1) % 2 ^ 64 })

/-- Every second element. -/
def everySecond : List Nat → List Nat
  | [] => []
  | [x] => [x]
  | x :: _ :: xs => x :: everySecond xs

/-- The kept half of a sorted list (R309). -/
def keptHalf (u : List Nat) (c : Nat) : List Nat := everySecond ((u.take (u.length / 2 * 2)).drop c)

/-- push (R310); `fuel` levels lie from l on. -/
def pushItem : Nat → Nat → Nat → Sketch → Sketch
  | 0, _, _, q => q
  | fuel + 1, l, y, q =>
    let xs := q.levels.getD l [] ++ [y]
    if xs.length != q.k then { q with levels := setAt l xs q.levels }
    else
      let (c, q) := q.coin
      let kept := keptHalf (sortF32 xs) c
      if l < 15 then kept.foldl (fun q z => pushItem fuel (l + 1) z q) { q with levels := setAt l [] q.levels }
      else { q with levels := setAt 15 kept q.levels, sat := true }

/-- insert (R310). -/
def Sketch.insert (q : Sketch) (y : Nat) : Sketch :=
  pushItem 16 0 y { q with n := sat64 (q.n + 1), min := minF32 q.min y, max := maxF32 q.max y }

/-- A value offered by qadd (R331). -/
def Sketch.offer (q : Sketch) (abs : Bool) (x : XReal) : Sketch :=
  if x.isNan then { q with nan := sat64 (q.nan + 1) } else q.insert (encF32 (if abs then x.absv else x))

/-- The leftover of a sorted list (R309). -/
def leftover (u : List Nat) : List Nat := u.drop (u.length / 2 * 2)

/-- The loop at level 15 of a merge (R311). -/
def compactTop : Nat → List Nat → Sketch → Sketch
  | 0, u, q => { q with levels := setAt 15 u q.levels }
  | fuel + 1, u, q =>
    if u.length < q.k then { q with levels := setAt 15 u q.levels }
    else
      let (c, q) := q.coin
      compactTop fuel (sortF32 (keptHalf u c ++ leftover u)) { q with sat := true }

/-- The levels of a merge from `l` on (R311). -/
def mergeLevels (s : Sketch) : List Nat → List Nat → Sketch → Sketch
  | [], _, q => q
  | l :: ls, carry, q =>
    let u := sortF32 (q.levels.getD l [] ++ s.levels.getD l [] ++ carry)
    if l = 15 then compactTop 16 u q
    else if q.k ≤ u.length then
      let (c, q) := q.coin
      mergeLevels s ls (keptHalf u c) { q with levels := setAt l (leftover u) q.levels }
    else mergeLevels s ls [] { q with levels := setAt l u q.levels }

/-- qmerge (R311). -/
def Sketch.merge (d s : Sketch) : Sketch :=
  mergeLevels s (upFrom 0 16) [] { d with n := sat64 (d.n + s.n), nan := sat64 (d.nan + s.nan), min := minF32 d.min s.min, max := maxF32 d.max s.max, sat := d.sat || s.sat }

/-- The items with their weights, sorted (R312). -/
def Sketch.items (q : Sketch) : List (Nat × Nat) :=
  sortBy (fun a b => decide (f32Key a.1 ≤ f32Key b.1)) ((q.levels.zip (upFrom 0 16)).map (fun p => p.1.map (fun x => (x, 2 ^ p.2)))).flatten

/-- The first item at which the running weight reaches t (R312). -/
def reaches : Nat → Nat → List (Nat × Nat) → Nat
  | _, _, [] => f32Fmt.nanCode
  | w, t, (x, k) :: rest => if t ≤ w + k then x else reaches (w + k) t rest

/-- ceil of a non-negative dyadic. -/
def ceilN (m : Nat) (e : Int) : Nat := if 0 ≤ e then m * 2 ^ e.toNat else (m + 2 ^ (-e).toNat - 1) / 2 ^ (-e).toNat

/-- qquery (R312) with φ or v as an f32 code. -/
def Sketch.query (q : Sketch) (rank : Bool) (x : Nat) : Nat :=
  let its := q.items
  let w := (its.map (·.2)).foldl (· + ·) 0
  if rank then ((its.filter (fun p => decide (f32Key p.1 ≤ f32Key x))).map (·.2)).foldl (· + ·) 0
  else if w = 0 then f32Fmt.nanCode
  else match decF32 x with
    | .fin _ m e =>
      if m = 0 then q.min
      else if (decF32 x).eqv (.fin false 1 0) then q.max
      else reaches 0 (Nat.max 1 (ceilN (m * w) e)) its
    | _ => f32Fmt.nanCode

/-- The empty sketch of qinit (R330). -/
def emptySketch (k fmt : Nat) (ent : Bool) (key : Nat) : Sketch :=
  { n := 0, nan := 0, min := 0x7F800000, max := 0xFF800000, key := key, ctr := 0, k := k, fmt := fmt, sat := false, ent := ent,
    levels := List.replicate 16 [], free := 0 }

-- Heavy-hitter lists ----------------------------------------------------------------------------------------------------------

/-- An entry: its key, its count and its error (R313). -/
structure Hit where
  key : Nat
  count : Nat
  err : Nat
deriving DecidableEq, Repr

def hitsOf (bs : List Byte) : List Hit :=
  (upFrom 0 (imgN bs 8 4)).map (fun e => ⟨imgN bs (64 + 16 * e) 8, imgN bs (72 + 16 * e) 4, imgN bs (76 + 16 * e) 4⟩)

/-- No two entries in use hold the same key. -/
def distinctKeys : List Hit → Bool
  | [] => true
  | h :: hs => hs.all (fun x => x.key != h.key) && distinctKeys hs

/-- A list is well formed (R313). -/
def hitsOk (bs : List Byte) : Bool := decide (imgN bs 8 4 ≤ 124) && imgN bs 12 52 == 0 && distinctKeys (hitsOf bs)

def Hit.bytes (h : Hit) : List Byte := bytesOf 8 h.key ++ bytesOf 4 h.count ++ bytesOf 4 h.err

def hitsImage (n : Nat) (hs : List Hit) : List Byte :=
  bytesOf 8 n ++ bytesOf 4 hs.length ++ zeroBytes 52 ++ (hs.map Hit.bytes).flatten ++ zeroBytes (1984 - 16 * hs.length)

/-- The position of the entry of least count, the lowest-numbered on ties. -/
def leastHit (hs : List Hit) : Nat :=
  ((hs.zip (upFrom 0 hs.length)).foldl (fun (acc : Option (Nat × Nat)) p => match acc with
    | none => some (p.1.count, p.2)
    | some (c, i) => if p.1.count < c then some (p.1.count, p.2) else some (c, i)) none).elim 0 (·.2)

/-- hadd of one key (R314). -/
def addHit (hs : List Hit) (x : Nat) : List Hit :=
  if hs.any (fun h => h.key == x) then hs.map (fun h => if h.key = x then { h with count := sat32 (h.count + 1) } else h)
  else if hs.length < 124 then hs ++ [⟨x, 1, 0⟩]
  else
    let m := leastHit hs
    match hs[m]? with
    | none => hs
    | some h => setAt m ⟨x, sat32 (h.count + 1), h.count⟩ hs

/-- The order of R315 and R316: count descending, then key ascending. -/
def rankHits (hs : List Hit) : List Hit := sortBy (fun a b => decide (b.count < a.count) || (a.count == b.count && decide (a.key ≤ b.key))) hs

/-- hmerge (R315). -/
def mergeHits (d s : List Hit) : List Hit :=
  let z := fun (hs : List Hit) => if hs.length = 124 then (hs.map (·.count)).foldl Nat.min (2 ^ 32) else 0
  let keys := d.map (·.key) ++ ((s.map (·.key)).filter (fun k => d.all (fun h => h.key != k)))
  let part := fun (hs : List Hit) (k : Nat) => match hs.find? (fun h => h.key == k) with
    | some h => (h.count, h.err)
    | none => (z hs, z hs)
  (rankHits (keys.map (fun k => ⟨k, sat32 ((part d k).1 + (part s k).1), sat32 ((part d k).2 + (part s k).2)⟩))).take 124

-- Distinct-count registers ----------------------------------------------------------------------------------------------------

/-- The registers of an object (R317). -/
def dcRegs (bs : List Byte) : List Nat := let f := imgN bs 64 3072; (upFrom 0 4096).map (fun j => f / 2 ^ (6 * j) % 64)

/-- An object is well formed (R317). -/
def dcOk (bs : List Byte) : Bool := imgN bs 16 48 == 0 && imgN bs 3136 960 == 0 && (dcRegs bs).all (fun m => decide (m ≤ 53))

/-- Six-bit registers as bytes, four registers in three bytes. -/
def regBytes : List Nat → List Byte
  | a :: b :: c :: d :: rest => bytesOf 3 (a + 64 * b + 4096 * c + 262144 * d) ++ regBytes rest
  | _ => []

def dcImage (n key : Nat) (regs : List Nat) : List Byte := bytesOf 8 n ++ bytesOf 8 key ++ zeroBytes 48 ++ regBytes regs ++ zeroBytes 960

/-- dadd of one item (R318). -/
def addItem (key : Nat) (regs : List Nat) (x : Nat) : List Nat :=
  let h := chash key x * 2 ^ 32 + chash (key ^^^ 0x5555555555555555) x
  let r := h % 2 ^ 52
  let rank := 53 - (if r = 0 then 0 else Nat.log2 r + 1)
  setAt (h / 2 ^ 52) (Nat.max (regs.getD (h / 2 ^ 52) 0) rank) regs

/-- A positive rational rounded to the nearest integer, ties to even. -/
def roundQ (n d : Nat) : Nat :=
  let q := n / d
  let r := n % d
  if 2 * r < d then q else if d < 2 * r then q + 1 else if q % 2 = 0 then q else q + 1

/-- ln of a positive integer. -/
def lnNat (v : Nat) : XReal := if v = 1 then .zero else lnReal v 0

/-- dest (R320). -/
def estimate (regs : List Nat) : Nat :=
  let sum := (regs.map (fun m => 2 ^ (53 - m))).foldl (· + ·) 0
  let num := 7213 * 4096000 * 4096 * 4096 * 2 ^ 53
  let den := 10000 * 4097079 * sum
  let v := (regs.filter (· == 0)).length
  if 2 * num ≤ 5 * 4096 * den && v != 0 then
    if v = 4096 then 0
    else match ((lnNat 4096).sub 0 (lnNat v)).scale 12 with
      | .fin n m e => (XReal.roundInt n m e 0 0).1.toNat
      | _ => 0
  else roundQ num den

-- Issue (R328 to R330) --------------------------------------------------------------------------------------------------------

/-- trap.info of cause 0x12 (R328). -/
def info12 (sub h : Nat) (ia : Bool) (whr : Nat) : W64 := w64 (sub * 2 ^ 61 + h * 2 ^ 53 + b2n ia * 2 ^ 52 + whr % 2 ^ 52)

/-- An area of scratchpad named by a command: written or not, its offset, length and alignment. -/
structure Area where
  wr : Bool
  off : Nat
  len : Nat
  align : Nat

/-- The checks at issue, in the order of R328; then `k` with the IA of the global summary. `glob` is its VA, its size and true for rw. -/
def State.surveyCheck (s : State) (t : Task) (h : Nat) (areas : List Area) (glob : Option (Nat × Nat × Bool)) (bad : Bool) (k : Nat → State) : State :=
  match areas.find? (fun a => a.off % a.align != 0) with
  | some a => s.raise 4 (vaInfo a.wr a.off)
  | none =>
    if glob.any (fun g => g.1 % g.2.1 != 0) then s.raise 4 (vaInfo (glob.any (·.2.2)) (glob.elim 0 (·.1)))
    else match areas.find? (fun a => !t.usable a.off a.len) with
      | some a => s.raise 0x17 (spadInfoAt 7 a.off)
      | none =>
        let fin := fun ia => if bad then s.raise 0x12 (info12 0 h false s.bun.word.toNat) else k ia
        match glob with
        | none => fin 0
        | some (va, n, rw) => match translate s.pre.wnd va n with
          | none => s.raise 5 (vaInfo rw va)
          | some (ia, _) => match (if rw then rwMiss t.card ia n else footprintMiss t.card false ia n) with
            | some x => s.raise 6 (fpInfo rw x)
            | none => fin ia

/-- A command enters the queue, or its bundle stalls while the queue of 8 is full (R322); its byte total is armed (R323). -/
def State.surveySlot (s : State) (g : BitVec 4) (a b : BitVec 7) (h : BitVec 8) (op : Nat)
    (spec : Task → W64 → W64 → Nat × List Area × Option (Nat × Nat × Bool) × Bool) : State :=
  s.engineSlot g (fun t => s.with2 a b (fun av bv =>
    let (total, areas, glob, bad) := spec t av bv
    s.surveyCheck t h.toNat areas glob bad (fun ia =>
      s.issueQueued t h total (s.refusal6 h) (decide (8 ≤ ((s.core s.myCore).survey.filter (fun q => q.2.sent.isNone)).length)) (fun tag s =>
        let m : SurveyCmd := { tag := tag, op := op, av := av, bv := bv, ia := ia, total := total, sent := none, answer := none }
        s.modCore s.myCore (fun k => { k with survey := put tag.tok m k.survey })))))

/-- The summary offset (R330). -/
def sumOff (a : W64) : Nat := bits a 21 0

/-- What a command needs at issue (R328, R330): its byte total, its scratchpad areas, its global summary, and whether its operands are malformed. -/
abbrev SurveySpec := Nat × List Area × Option (Nat × Nat × Bool) × Bool

def qinitSpec (x : W64) : SurveySpec :=
  let k := bits x 31 24
  (4096, [⟨true, sumOff x, 4096, 64⟩], none,
    !onlyFields x [(40, 40), (37, 32), (31, 24), (21, 0)] || k % 2 != 0 || decide (k < 2) || decide (62 < k) || !laneCodeOk (bits x 37 32))

def execQinit (g : BitVec 4) (a b : BitVec 7) (h : BitVec 8) (s : State) : Host.Outcome State Fault Refusal :=
  .next (s.surveySlot g a b h 0x08 (fun _ x _ => qinitSpec x))

/-- The rows and the mask of an insertion, and its arming form (R325, R330); `extra` lists the bits of b that this op reads too. -/
def insertSpec (h : BitVec 8) (size : Nat) (armed : Bool) (extra : List (Nat × Nat)) (x y : W64) : SurveySpec :=
  if armed && bit y 29 then
    (0, if sumOff x = 0 then [] else [⟨true, sumOff x, 4096, 64⟩], none,
      h != 255 || !onlyFields x [(21, 0)] || !onlyFields y ((29, 29) :: extra.filter (fun f => f.1 == 30)))
  else
    let rows := bits y 11 0 + 1
    (size, [⟨true, sumOff x, size, 64⟩, ⟨false, bits x 53 32, 512 * rows, 32⟩] ++ (if bit y 31 then [⟨false, bits y 53 32, 64 * rows, 64⟩] else []), none,
      !onlyFields x [(53, 32), (21, 0)] || !onlyFields y ([(31, 31), (11, 0)] ++ extra ++ (if bit y 31 then [(53, 32)] else [])))

def execQadd (g : BitVec 4) (a b : BitVec 7) (h : BitVec 8) (s : State) : Host.Outcome State Fault Refusal :=
  .next (s.surveySlot g a b h 0x09 (fun _ x y => insertSpec h 4096 true [(30, 30)] x y))

/-- The operands of a merge (R330): `size` and the alignments of the kind. -/
def mergeSpec (size al ga : Nat) (x y : W64) : SurveySpec :=
  let dst : Area := ⟨true, sumOff x, size, al⟩
  if bit y 63 then (size, [dst], some (bits y 56 0, ga, false), !onlyFields x [(21, 0)] || bits y 62 57 != 0)
  else (size, [dst, ⟨false, sumOff y, size, al⟩], none, !onlyFields x [(21, 0)] || !onlyFields y [(21, 0)])

def execQmerge (g : BitVec 4) (a b : BitVec 7) (h : BitVec 8) (s : State) : Host.Outcome State Fault Refusal :=
  .next (s.surveySlot g a b h 0x0A (fun _ x y => mergeSpec 4096 64 4096 x y))
def qmergeatSpec (x y : W64) : SurveySpec :=
  (4096, [⟨false, sumOff x, 4096, 64⟩], some (bits y 56 0, 4096, true), !onlyFields x [(21, 0)] || !onlyFields y [(56, 0)])

def execQmergeat (g : BitVec 4) (a b : BitVec 7) (h : BitVec 8) (s : State) : Host.Outcome State Fault Refusal :=
  .next (s.surveySlot g a b h 0x0B (fun _ x y => qmergeatSpec x y))

/-- The result area of qquery and dest (R330). -/
def resultArea (h : BitVec 8) (x : W64) : List Area := if h = 255 then [] else [⟨true, bits x 53 32, 8, 8⟩]
def resultBad (h : BitVec 8) (x : W64) : Bool := !onlyFields x [(53, 32), (21, 0)] || (h == 255 && bits x 53 32 != 0)

/-- φ lies in [0, 1], or v is no NaN (R312). -/
def queryOk (y : W64) : Bool :=
  let v := decF32 (bits y 31 0)
  onlyFields y [(32, 0)] && !v.isNan && (bit y 32 || (XReal.zero.le v && v.le (.fin false 1 0)))

def qquerySpec (h : BitVec 8) (x y : W64) : SurveySpec := (8, ⟨false, sumOff x, 4096, 64⟩ :: resultArea h x, none, resultBad h x || !queryOk y)

def execQquery (g : BitVec 4) (a b : BitVec 7) (h : BitVec 8) (s : State) : Host.Outcome State Fault Refusal :=
  .next (s.surveySlot g a b h 0x0C (fun _ x y => qquerySpec h x y))
def execMmerge (g : BitVec 4) (a b : BitVec 7) (h : BitVec 8) (s : State) : Host.Outcome State Fault Refusal :=
  .next (s.surveySlot g a b h 0x0D (fun _ x y => mergeSpec 32 32 32 x y))

/-- A command without parameter b: the constant 0 stands in its place (R50). -/
def noB : BitVec 7 := 112

/-- hinit and dinit: the whole area is written. -/
def initSpec (size : Nat) (x : W64) : SurveySpec := (size, [⟨true, sumOff x, size, 64⟩], none, !onlyFields x [(21, 0)])

def execHinit (g : BitVec 4) (a : BitVec 7) (h : BitVec 8) (s : State) : Host.Outcome State Fault Refusal :=
  .next (s.surveySlot g a noB h 0x10 (fun _ x _ => initSpec 2048 x))
def execHadd (g : BitVec 4) (a b : BitVec 7) (h : BitVec 8) (s : State) : Host.Outcome State Fault Refusal :=
  .next (s.surveySlot g a b h 0x11 (fun _ x y => insertSpec h 2048 false [] x y))
def execHmerge (g : BitVec 4) (a b : BitVec 7) (h : BitVec 8) (s : State) : Host.Outcome State Fault Refusal :=
  .next (s.surveySlot g a b h 0x12 (fun _ x y => mergeSpec 2048 64 2048 x y))
def htopSpec (x y : W64) : SurveySpec :=
  let j := bits y 6 0
  (16 * j, [⟨false, sumOff x, 2048, 64⟩, ⟨true, bits x 53 32, 16 * j, 32⟩], none,
    !onlyFields x [(53, 32), (21, 0)] || !onlyFields y [(6, 0)] || j == 0 || decide (124 < j))

def execHtop (g : BitVec 4) (a b : BitVec 7) (h : BitVec 8) (s : State) : Host.Outcome State Fault Refusal :=
  .next (s.surveySlot g a b h 0x13 (fun _ x y => htopSpec x y))
def execDinit (g : BitVec 4) (a b : BitVec 7) (h : BitVec 8) (s : State) : Host.Outcome State Fault Refusal :=
  .next (s.surveySlot g a b h 0x14 (fun _ x _ => initSpec 4096 x))
def execDadd (g : BitVec 4) (a b : BitVec 7) (h : BitVec 8) (s : State) : Host.Outcome State Fault Refusal :=
  .next (s.surveySlot g a b h 0x15 (fun _ x y => insertSpec h 4096 true [(28, 28)] x y))
def execDmerge (g : BitVec 4) (a b : BitVec 7) (h : BitVec 8) (s : State) : Host.Outcome State Fault Refusal :=
  .next (s.surveySlot g a b h 0x16 (fun _ x y => mergeSpec 4096 64 4096 x y))
def destSpec (h : BitVec 8) (x : W64) : SurveySpec := (8, ⟨false, sumOff x, 4096, 64⟩ :: resultArea h x, none, resultBad h x)

def execDest (g : BitVec 4) (a : BitVec 7) (h : BitVec 8) (s : State) : Host.Outcome State Fault Refusal :=
  .next (s.surveySlot g a noB h 0x17 (fun _ x _ => destSpec h x))

-- Running (R322 to R327) ------------------------------------------------------------------------------------------------------

/-- What a command gives when it runs: the state with its value for l5, a wait, a fault with its sub-cause and where, or a sketch on its way
to the owner. -/
inductive Ran where
  | ok (val : Nat) (s : State)
  | wait (need : Need)
  | fault (sub : Nat) (ia : Bool) (whr : Nat)
  | send (bs : List Byte)

/-- Continue with n bytes of scratchpad; an uncorrectable error is sub-cause 4 of the summary at `at_` (R328). -/
def State.surveyRead (s : State) (t : Task) (a n at_ : Nat) (k : List Byte → Ran) : Ran :=
  match s.cmdSpad t a n with
  | .ok bs => k bs
  | .wait n => .wait n
  | .fail _ _ _ => .fault 4 false at_

/-- Continue with the source of a merge: in scratchpad, or a causal read of global memory as one unit (R322, R328). -/
def State.surveySource (s : State) (t : Task) (m : SurveyCmd) (n : Nat) (k : Bool → Nat → List Byte → Ran) : Ran :=
  if bit m.bv 63 then
    match s.cmdRead m.tag m.ia n with
    | .ok bs => k true m.ia bs
    | .wait n => .wait n
    | .fail sub _ _ => .fault (if sub = 3 then 4 else 2) true m.ia
  else s.surveyRead t (sumOff m.bv) n (sumOff m.bv) (k false (sumOff m.bv))

/-- The lanes of the inserted rows that their masks enable, in row order and lane order (R331). -/
def State.insertLanes (s : State) (t : Task) (m : SurveyCmd) (e : Nat) (k : List Nat → Ran) : Ran :=
  let rows := bits m.bv 11 0 + 1
  let at_ := sumOff m.av
  s.surveyRead t (bits m.av 53 32) (512 * rows) at_ (fun bs =>
    let lanes := fun (msk : List Byte) => ((upFrom 0 rows).map (fun r => (upFrom 0 (512 / e)).filterMap (fun i =>
      if msk.isEmpty || bitN (msk.getD (64 * r + i / 8) 0).toNat (i % 8) then some (imgN bs (512 * r + e * i) e) else none))).flatten
    if bit m.bv 31 then s.surveyRead t (bits m.bv 53 32) (64 * rows) at_ (fun ms => k (lanes ms)) else k (lanes []))

/-- A summary in scratchpad, well formed, or sub-cause 1 (R308). -/
def State.surveyObject (s : State) (t : Task) (off n : Nat) (ok : List Byte → Bool) (k : List Byte → Ran) : Ran :=
  s.surveyRead t off n off (fun bs => if ok bs then k bs else .fault 1 false off)

/-- A command's effect (R306, R310 to R320, R330, R331). -/
def State.surveyRun (s : State) (t : Task) (m : SurveyCmd) : Ran :=
  let c := t.onCore
  let off := sumOff m.av
  let out := fun (bs : List Byte) (free : Nat) => Ran.ok m.total { s.spadWrite c t off bs with free := free }
  let result := fun (v : Nat) => if m.tag.h = 255 then Ran.ok (Nat.min v (2 ^ 60 - 1)) s else Ran.ok m.total (s.spadWrite c t (bits m.av 53 32) (bytesOf 8 v))
  let merge := fun (n : Nat) (ok : List Byte → Bool) (f : List Byte → List Byte → Ran) =>
    s.surveyObject t off n ok (fun d => s.surveySource t m n (fun g at_ b => if ok b then f d b else .fault 1 g at_))
  let arm := fun (dc : Bool) (ok : List Byte → Bool) =>
    if off = 0 then Ran.ok 0 (s.modCore c (fun k => { k with tap := none }))
    else s.surveyObject t off 4096 ok (fun _ => Ran.ok 0 (s.modCore c (fun k => { k with tap := some ⟨m.tag, dc, off, bit m.bv 30⟩ })))
  match m.op with
  | 0x08 => out (emptySketch (bits m.av 31 24) (bits m.av 37 32) (bit m.av 40) m.bv.toNat).image s.free
  | 0x09 =>
    if bit m.bv 29 then arm false sketchOk
    else s.surveyObject t off 4096 sketchOk (fun d =>
      let q := sketchOf d s.free
      let f := (fmtOf q.fmt).getD .raw
      s.insertLanes t m f.size (fun xs => let q := xs.foldl (fun q x => q.offer (bit m.bv 30) (f.decode x)) q; out q.image q.free))
  | 0x0A => merge 4096 sketchOk (fun d b => let q := (sketchOf d s.free).merge (sketchOf b 0); out q.image q.free)
  | 0x0B => s.surveyObject t off 4096 sketchOk .send
  | 0x0C => s.surveyObject t off 4096 sketchOk (fun d => result ((sketchOf d 0).query (bit m.bv 32) (bits m.bv 31 0)))
  | 0x0D => merge 32 (fun _ => true) (fun d b => out (mmergeBytes d b) s.free)
  | 0x10 => out (zeroBytes 2048) s.free
  | 0x11 => s.surveyObject t off 2048 hitsOk (fun d => s.insertLanes t m 8 (fun xs => out (hitsImage (sat64 (imgN d 0 8 + xs.length)) (xs.foldl addHit (hitsOf d))) s.free))
  | 0x12 => merge 2048 hitsOk (fun d b => out (hitsImage (sat64 (imgN d 0 8 + imgN b 0 8)) (mergeHits (hitsOf d) (hitsOf b))) s.free)
  | 0x13 => s.surveyObject t off 2048 hitsOk (fun d =>
      let j := bits m.bv 6 0
      let hs := (rankHits (hitsOf d)).take j
      Ran.ok m.total (s.spadWrite c t (bits m.av 53 32) ((hs.map Hit.bytes).flatten ++ zeroBytes (16 * (j - hs.length)))))
  | 0x14 => out (dcImage 0 m.bv.toNat (List.replicate 4096 0)) s.free
  | 0x15 =>
    if bit m.bv 29 then arm true dcOk
    else s.surveyObject t off 4096 dcOk (fun d => s.insertLanes t m (if bit m.bv 28 then 8 else 4) (fun xs =>
      out (dcImage (sat64 (imgN d 0 8 + xs.length)) (imgN d 8 8) (xs.foldl (addItem (imgN d 8 8)) (dcRegs d))) s.free))
  | 0x16 => merge 4096 dcOk (fun d b =>
      out (dcImage (sat64 (imgN d 0 8 + imgN b 0 8)) (imgN d 8 8) (((dcRegs d).zip (dcRegs b)).map (fun p => Nat.max p.1 p.2))) s.free)
  | _ => s.surveyObject t off 4096 dcOk (fun d => result (estimate (dcRegs d)))

/-- What a command writes in scratchpad (R34, R330): its summary, or the result area of a query and of htop. -/
def SurveyCmd.writes (m : SurveyCmd) : Writes :=
  ⟨[], match m.op with
    | 0x0B => []
    | 0x0C => if m.tag.h = 255 then [] else [(bits m.av 53 32, 8)]
    | 0x17 => if m.tag.h = 255 then [] else [(bits m.av 53 32, 8)]
    | 0x13 => [(bits m.av 53 32, m.total)]
    | _ => [(sumOff m.av, m.total)], if m.op = 0x0B then [(m.ia, 4096)] else []⟩

/-- A faulted command: its status, and cause 0x12 becomes pending (R324, R328). -/
def State.surveyFault (s : State) (c k : Nat) (m : SurveyCmd) (sub : Nat) (ia : Bool) (whr : Nat) : State :=
  let s := s.modCore c (fun q => { q with survey := del k q.survey })
  let s := s.deferFault m.tag 0x12 (info12 sub m.tag.h ia whr) m.writes
  s.reportL5 m.tag (2 ^ 63 + sub * 2 ^ 60)

/-- A completed command: its whole total is credited, its status written (R323, R324). -/
def State.surveyDone (s : State) (c k : Nat) (m : SurveyCmd) (val : Nat) : State :=
  let s := s.modCore c (fun q => { q with survey := del k q.survey })
  (s.credit m.tag m.total).reportL5 m.tag val

/-- Survey runs the first command of its queue (R322), after the tapped rows accepted before it (R325). -/
def execSurveyCommandRun (c : Nat) (s : State) : Host.Outcome State Fault Refusal :=
  onUnit (coreOk c) (match (s.core c).survey.find? (fun q => q.2.sent.isNone) with
    | none => s
    | some (k, m) =>
      if s.cmdHeld m.tag || (s.core c).tapRows.any (fun r => decide (r.1 < k)) then s
      else match s.task? (dieOfCore c) m.tag.u with
        | none => s
        | some t => match s.surveyRun t m with
          | .ok v s => s.surveyDone c k m v
          | .wait n => s.meet n
          | .fault sub ia whr => s.surveyFault c k m sub ia whr
          | .send bs => s.modCore c (fun q => { q with survey := put k { m with sent := some bs } q.survey }))

/-- The core and the command of a qmergeat under way. -/
def State.sentSurvey (s : State) (id : Nat) : Option (Nat × SurveyCmd) :=
  s.cores.findSome? (fun q => (find? id q.2.survey).bind (fun m => if m.sent.isSome then some (q.1, m) else none))

/-- The owner's acknowledgement completes the command (R326). -/
def execQmergeatAck (id : Nat) (s : State) : Host.Outcome State Fault Refusal :=
  .next (match s.sentSurvey id with
    | none => s
    | some (c, m) => match m.answer with
      | none => s
      | some none => s.surveyDone c id m m.total
      | some (some sub) => s.surveyFault c id m sub true m.ia)

/-- The fault of a tapped row that is not inserted (R325). -/
def State.tapFault (s : State) (p : Tap) (sub : Nat) : State :=
  s.deferTo (dieOfCtx p.tag.g) p.tag.u 0x12 ⟨info12 sub 255 false p.off, p.tag.va, none, [], [(p.off, 4096)], []⟩

/-- The oldest accepted row is inserted into the armed summary, between commands, if the array is the arming task's (R325). -/
def execTapRowInsert (c : Nat) (s : State) : Host.Outcome State Fault Refusal :=
  onUnit (coreOk c) (match (s.core c).tapRows with
    | [] => s
    | (_, vs) :: rest =>
      let s := s.modCore c (fun k => { k with tapRows := rest })
      match (s.core c).tap with
      | none => s
      | some p => match s.task? (dieOfCore c) p.tag.u with
        | none => s
        | some t =>
          if (s.core c).array.holder != some p.tag.u then s
          else if s.spadBad c t p.off 4096 then s.tapFault p 4
          else
            let d := s.spadRead c t p.off 4096
            if p.dc then
              if !dcOk d then s.tapFault p 1
              else s.spadWrite c t p.off (dcImage (sat64 (imgN d 0 8 + vs.length)) (imgN d 8 8) (vs.foldl (addItem (imgN d 8 8)) (dcRegs d)))
            else if !sketchOk d then s.tapFault p 1
            else
              let q := vs.foldl (fun q x => q.offer p.abs (decF32 x)) (sketchOf d s.free)
              { s.spadWrite c t p.off q.image with free := q.free })

end Sys2Proof.Machine
end

