-- ==== Sys2Proof/Machine/Store.lean ====
section
/-! DEFINITION. The state store (R332 to R352): slots, pages shared copy-on-write (R333), commits (R336, R337), the waypoint ring (R338 to
R341), watches (R344, R345), and the application of commands (R347). -/

namespace Sys2Proof.Machine

def State.modStore (s : State) (d : Nat) (f : StStore → StStore) : State := s.modDie d (fun k => { k with store := f k.store })

/-- The fields of st.ctl (R334). -/
def StStore.en (x : StStore) : Bool := bit x.ctl 63
def StStore.nslot (x : StStore) : Nat := Nat.min (bits x.ctl 16 0) 65536

/-- The ring capacity of a code (R350). -/
def capOf (c : Nat) : Nat := 4 * 2 ^ c

-- Pages (R333) ----------------------------------------------------------------------------------------------------------------

/-- The pages of every slot and waypoint. -/
def StStore.refs (x : StStore) : List Nat :=
  (x.slots.map (fun q => q.2.state.map (·.2) ++ (q.2.ring.map (fun w => w.pages.map (·.2))).flatten)).flatten

/-- Pages that nothing refers to are free again. -/
def StStore.collect (x : StStore) : StStore :=
  let r := x.refs
  { x with pages := x.pages.filter (fun q => r.contains q.1), bad := x.bad.filter (fun w => r.contains (w / 128)) }

/-- st.free (R334). -/
def StStore.free (x : StStore) : Nat := bits x.size 31 0 - x.pages.length

/-- The lowest page of the arena not in use. -/
def StStore.freePage (x : StStore) : Nat := ((upFrom 0 (x.pages.length + 1)).find? (fun n => (find? n x.pages).isNone)).getD 0

/-- Bytes of a state. -/
def StStore.read (x : StStore) (st : Map Nat) (off n : Nat) : List Byte :=
  (upFrom off n).map (fun a => match find? (a / 4096) st with
    | none => 0
    | some p => cellGet (getD p [] x.pages) (a % 4096))

/-- The page numbers of a state that n bytes touch. -/
def pagesTouched (off n : Nat) : List Nat := if n = 0 then [] else upFrom (off / 4096) ((off + n - 1) / 4096 - off / 4096 + 1)

/-- A page of a state that only this state refers to. -/
def StStore.unshared? (x : StStore) (st : Map Nat) (i : Nat) : Bool :=
  match find? i st with
  | none => false
  | some p => decide ((x.refs.filter (· == p)).length ≤ 1)

/-- The pages that a write needs (R333, R343). -/
def StStore.needs (x : StStore) (st : Map Nat) (off n : Nat) : Nat := ((pagesTouched off n).filter (fun i => !x.unshared? st i)).length

/-- The words of a page that are written whole by bytes from offset lo to hi - 1 of it are good; a page that was copied takes the bad words of the
page `old` that it copies (R36, R333). -/
def wordsAfter (bad : List Nat) (p : Nat) (old : Option (List Nat)) (lo hi : Nat) : List Nat :=
  let kept := bad.filter (fun w => w / 128 != p || (old.isNone && !(decide (lo ≤ 32 * (w % 128)) && decide (32 * (w % 128) + 32 ≤ hi))))
  ((old.getD []).filter (fun w => !(decide (lo ≤ 32 * w) && decide (32 * w + 32 ≤ hi)))).foldl (fun m w => insertNat (128 * p + w) m) kept

/-- Bytes written to a state: pages first written or shared become pages of its own. `lost` gives the bad words of a page. -/
def StStore.write (x : StStore) (lost : Nat → List Nat) (st : Map Nat) (off : Nat) (bs : List Byte) : StStore × Map Nat :=
  (pagesTouched off bs.length).foldl (fun (r : StStore × Map Nat) i =>
    let lo := Nat.max off (4096 * i)
    let hi := Nat.min (off + bs.length) (4096 * i + 4096)
    let old := match find? i r.2 with | some p => getD p [] r.1.pages | none => []
    let own := x.unshared? st i
    let (p, st) := if own then (getD i 0 r.2, r.2) else (r.1.freePage, put i r.1.freePage r.2)
    let copied := if own then none else some (match find? i r.2 with | some q => lost q | none => [])
    let cells := cellsPut old (lo - 4096 * i) ((bs.drop (lo - off)).take (hi - lo))
    ({ r.1 with pages := put p cells r.1.pages, bad := wordsAfter r.1.bad p copied (lo - 4096 * i) (hi - 4096 * i) }, st)) (x, st)

/-- The PA of an arena page. -/
def State.arenaPA (s : State) (d p : Nat) : Nat := bits (s.die d).store.base 39 12 * 4096 + 4096 * p

/-- The 32-byte words of an arena page with an uncorrectable error, in the state cache or in the HBM (R349, R448). -/
def State.arenaBad (s : State) (d p : Nat) : List Nat :=
  let w0 := s.arenaPA d p / 32
  ((s.die d).store.bad.filter (fun w => w / 128 == p)).map (· % 128) ++
    ((s.die d).bad.filter (fun w => decide (w0 ≤ w.1) && decide (w.1 < w0 + 128))).map (fun w => w.1 - w0)

/-- Some of n bytes of a state, at an offset of it, lies in a word with an uncorrectable error. -/
def State.stateBad (s : State) (d : Nat) (st : Map Nat) (off n : Nat) : Bool :=
  (pagesTouched off n).any (fun i => match find? i st with
    | some p => (s.arenaBad d p).any (fun w => decide (off < 4096 * i + 32 * w + 32) && decide (4096 * i + 32 * w < off + n))
    | none => false)

/-- The words that a write of n bytes at an offset covers in part, and so reads, have an uncorrectable error. -/
def State.edgeBad (s : State) (d : Nat) (st : Map Nat) (off n : Nat) : Bool :=
  (off % 32 != 0 && s.stateBad d st off 1) || ((off + n) % 32 != 0 && s.stateBad d st (off + n - 1) 1)

/-- What a write of n bytes at an offset of a state has written whole of its arena pages is good in the HBM, and so is a page that has become the state's
own: what it copies of bad words is marked in the state cache (R36, R333). -/
def State.healArena (s : State) (d : Nat) (old new : Map Nat) (off n : Nat) : State :=
  (pagesTouched off n).foldl (fun s i => match find? i new with
    | none => s
    | some p =>
      let lo := Nat.max off (4096 * i) - 4096 * i
      if find? i old = some p then s.heal d (s.arenaPA d p + lo) (Nat.min (off + n - 4096 * i) 4096 - lo) else s.heal d (s.arenaPA d p) 4096) s

-- Issue (R337, R349, R350) ----------------------------------------------------------------------------------------------------

/-- trap.info of cause 0x13 (R349). -/
def info13 (sub h slot val : Nat) : W64 := w64 (sub * 2 ^ 61 + h * 2 ^ 53 + slot % 65536 * 2 ^ 32 + val % 2 ^ 32)

/-- A command that advances a slot's position (R336). -/
def StCmd.commits (m : StCmd) : Bool := m.op == 0x1A && bit m.bv 63

/-- The context's commit is unapplied, or its watch trip still awaits its pre-emption (R337). -/
def State.commitOut (s : State) : Bool :=
  s.me.storeOut != 0 || (s.die s.myDie).store.queue.any (fun q => q.2.commits && some q.2.tag.u == s.me.task)

/-- A state-store command at issue: its total, its scratchpad extent (offset, length, alignment, written), and whether a field is
malformed. -/
def State.storeSlot (s : State) (g : BitVec 4) (a b : BitVec 7) (h : BitVec 8) (op : Nat) (spec : W64 → W64 → Nat × Option Area × Bool) : State :=
  s.engineSlot g (fun t => s.with2 a b (fun av bv =>
    let (total, area, bad) := spec av bv
    let go :=
      if bad then s.raise 0x13 (info13 0 h.toNat (bits av 15 0) s.bun.word.toNat)
      else s.issueQueued t h total (s.refusal6 h) s.commitOut (fun tag s =>
        s.modStore s.myDie (fun x => { x with queue := put tag.tok ⟨tag, op, av, bv, total⟩ x.queue }))
    match area with
    | none => go
    | some r =>
      if r.off % r.align != 0 then s.raise 4 (vaInfo r.wr r.off)
      else if !t.usable r.off r.len then s.raise 0x17 (spadInfoAt 7 r.off)
      else go))

/-- What a state-store command needs at issue (R337, R349, R350): its byte total, its scratchpad area, and whether its operands are malformed. -/
abbrev StoreSpec := Nat × Option Area × Bool

def stopenSpec (x y : W64) : StoreSpec := (8, none, !onlyFields x [(31, 24), (18, 0)] || !onlyFields y [(31, 0)])

def execStopen (g : BitVec 4) (a b : BitVec 7) (h : BitVec 8) (s : State) : Host.Outcome State Fault Refusal :=
  .next (s.storeSlot g a b h 0x18 (fun x y => stopenSpec x y))

/-- The offset and the length in the state, and the scratchpad offset, of stld and stst (R350). -/
def stOff (x : W64) : Nat := bits x 31 16 * 32
def stLen (y : W64) : Nat := (bits y 37 22 + 1) * 32

def stldSpec (x y : W64) : StoreSpec := (stLen y, some ⟨true, bits y 21 0, stLen y, 32⟩, !onlyFields x [(31, 0)] || !onlyFields y [(37, 0)])

def execStld (g : BitVec 4) (a b : BitVec 7) (h : BitVec 8) (s : State) : Host.Outcome State Fault Refusal :=
  .next (s.storeSlot g a b h 0x19 (fun x y => stldSpec x y))

def ststSpec (x y : W64) : StoreSpec :=
  (stLen y, some ⟨false, bits y 21 0, stLen y, 32⟩,
    if bit y 63 then !onlyFields y [(63, 63), (55, 40), (37, 0)] else !onlyFields x [(31, 0)] || !onlyFields y [(37, 0)])

def execStst (g : BitVec 4) (a b : BitVec 7) (h : BitVec 8) (s : State) : Host.Outcome State Fault Refusal :=
  .next (s.storeSlot g a b h 0x1A (fun x y => ststSpec x y))

def stmarkSpec (x : W64) : StoreSpec := (8, none, !onlyFields x [(16, 0)])

def execStmark (g : BitVec 4) (a : BitVec 7) (h : BitVec 8) (s : State) : Host.Outcome State Fault Refusal :=
  .next (s.storeSlot g a noB h 0x1B (fun x _ => stmarkSpec x))

/-- The result offset of stback and stfork (R350). -/
def backArea (h : BitVec 8) (y : W64) : Option Area := if h = 255 then none else some ⟨true, bits y 53 32, 8, 8⟩
def backBad (h : BitVec 8) (y : W64) : Bool := !onlyFields y (if h = 255 then [(31, 0)] else [(53, 32), (31, 0)])

def stbackSpec (h : BitVec 8) (x y : W64) : StoreSpec := (8, backArea h y, !onlyFields x [(15, 0)] || backBad h y)

def execStback (g : BitVec 4) (a b : BitVec 7) (h : BitVec 8) (s : State) : Host.Outcome State Fault Refusal :=
  .next (s.storeSlot g a b h 0x1C (fun x y => stbackSpec h x y))

def stforkSpec (h : BitVec 8) (x y : W64) : StoreSpec := (8, backArea h y, !onlyFields x [(34, 0)] || backBad h y)

def execStfork (g : BitVec 4) (a b : BitVec 7) (h : BitVec 8) (s : State) : Host.Outcome State Fault Refusal :=
  .next (s.storeSlot g a b h 0x1D (fun x y => stforkSpec h x y))

def stpinSpec (x y : W64) : StoreSpec := (8, none, !onlyFields x [(16, 0)] || !onlyFields y [(31, 0)])

def execStpin (g : BitVec 4) (a b : BitVec 7) (h : BitVec 8) (s : State) : Host.Outcome State Fault Refusal :=
  .next (s.storeSlot g a b h 0x1E (fun x y => stpinSpec x y))

def stcloseSpec (x : W64) : StoreSpec := (8, none, !onlyFields x [(15, 0)])

def execStclose (g : BitVec 4) (a : BitVec 7) (h : BitVec 8) (s : State) : Host.Outcome State Fault Refusal :=
  .next (s.storeSlot g a noB h 0x1F (fun x _ => stcloseSpec x))

def stqSpec (x y : W64) : StoreSpec := (0, none, !onlyFields x [(15, 0)] || decide (32 < y.toNat))

def execStq (g : BitVec 4) (a b : BitVec 7) (s : State) : Host.Outcome State Fault Refusal :=
  .next (s.storeSlot g a b 255 0x20 (fun x y => stqSpec x y))

-- Application (R336 to R345, R347, R351, R352) --------------------------------------------------------------------------------

/-- What a command does: the store and the bytes it writes to scratchpad, with its value for l5, or a sub-cause. -/
inductive StRan where
  | ok (val : Nat) (x : StStore) (spad : Option (Nat × List Byte))
  | fault (sub : Nat)

/-- A waypoint put into a ring ordered by position. -/
def putWay (w : Way) : List Way → List Way
  | [] => [w]
  | x :: xs => if x.pos < w.pos then x :: putWay w xs else if x.pos = w.pos then w :: xs else w :: x :: xs

/-- A ring without its oldest unpinned waypoint (R338). -/
def dropOldest : List Way → Option (List Way)
  | [] => none
  | x :: xs => if x.pin then (dropOldest xs).map (x :: ·) else some xs

/-- stmark (R338). -/
def StSlot.mark (q : StSlot) (pin : Bool) : Option StSlot :=
  match q.ring.find? (fun w => w.pos == q.pos) with
  | some w => some { q with ring := putWay ⟨q.pos, pin || w.pin, q.state⟩ q.ring }
  | none =>
    if q.ring.length < capOf q.cap then some { q with ring := putWay ⟨q.pos, pin, q.state⟩ q.ring }
    else (dropOldest q.ring).map (fun r => { q with ring := putWay ⟨q.pos, pin, q.state⟩ r })

/-- The waypoint of greatest position that is at most p (R339). -/
def StSlot.wayAt (q : StSlot) (p : Nat) : Option Way := (q.ring.filter (fun w => decide (w.pos ≤ p))).getLast?

/-- The watch of a slot (R344). -/
def StStore.watchOf (x : StStore) (slot : Nat) : Watch := getD slot ⟨false, false, 0⟩ x.watch

/-- The watch of a slot set; one that is all zero is not listed. -/
def StStore.putWatch (x : StStore) (slot : Nat) (v : Watch) : StStore :=
  { x with watch := if v = ⟨false, false, 0⟩ then del slot x.watch else put slot v x.watch }

/-- The snapshot of stq (R352). -/
def StStore.snapshot (x : StStore) (slot sel : Nat) (ia : Nat) : Nat :=
  match find? slot x.slots with
  | none => 0
  | some q =>
    if !x.en || decide (x.nslot ≤ slot) then 0
    else if sel = 0 then
      2 ^ 63 + b2n (q.owner == ia) * 2 ^ 62 + b2n (x.watchOf slot).arm * 2 ^ 61 + b2n q.share * 2 ^ 60 + q.ring.length * 2 ^ 48 + q.cap * 2 ^ 40 +
        (q.size - 1) * 2 ^ 32 + q.pos
    else match q.ring[sel - 1]? with
      | none => 0
      | some w => 2 ^ 63 + b2n w.pin * 2 ^ 62 + w.pos

/-- The effect of a command on the store (R336 to R343). -/
def State.storeRun (s : State) (d : Nat) (t : Task) (m : StCmd) : StRan :=
  let x := (s.die d).store
  let slot := bits m.av 15 0
  let sys := t.sys
  let setSlot := fun (n : Nat) (q : StSlot) => { x with slots := put n q x.slots }.collect
  let owned := fun (q : StSlot) (k : StRan) => if sys || q.owner == t.ia then k else .fault 2
  let result := fun (p : Nat) (y : StStore) => StRan.ok p y (if m.tag.h = 255 then none else some (bits m.bv 53 32, bytesOf 8 p))
  if m.op = 0x20 then .ok (x.snapshot slot m.bv.toNat t.ia) x none
  else if !x.en || x.nslot ≤ slot then .fault 1
  else match m.op, find? slot x.slots with
    | 0x18, some _ => .fault 1
    | 0x18, none => .ok 8 (setSlot slot ⟨t.ia, bits m.bv 31 0, bits m.av 31 24 + 1, bit m.av 18, bits m.av 17 16, [], []⟩) none
    | _, none => .fault 1
    | 0x19, some q => owned q (
        if q.size * 4096 < stOff m.av + stLen m.bv then .fault 6
        else if s.stateBad d q.state (stOff m.av) (stLen m.bv) then .fault 7
        else .ok m.total x (some (bits m.bv 21 0, x.read q.state (stOff m.av) (stLen m.bv))))
    | 0x1A, some q => owned q (
        let (off, n) := (stOff m.av, stLen m.bv)
        let qn := bits m.av 63 32
        let cnt := bits m.bv 55 40
        if q.size * 4096 < off + n then .fault 6
        else if m.commits && (cnt == 0 || qn != q.pos + cnt) then .fault 3
        else if x.free < x.needs q.state off n then .fault 5
        else if s.spadBad t.onCore t (bits m.bv 21 0) n || s.edgeBad d q.state off n then .fault 7
        else
          let (y, st) := x.write (s.arenaBad d) q.state off (s.spadRead t.onCore t (bits m.bv 21 0) n)
          .ok m.total { y with slots := put slot { q with state := st, pos := if m.commits then qn else q.pos } y.slots }.collect none)
    | 0x1B, some q => owned q (match q.mark (bit m.av 16) with
        | none => .fault 4
        | some q => .ok 8 (setSlot slot q) none)
    | 0x1C, some q => owned q (match q.wayAt (bits m.bv 31 0) with
        | none => .fault 3
        | some w => result w.pos (setSlot slot { q with state := w.pages, pos := w.pos, ring := q.ring.filter (fun v => decide (v.pos ≤ w.pos)) }))
    | 0x1D, some q =>
      let new := bits m.av 31 16
      if x.nslot ≤ new || (find? new x.slots).isSome then .fault 1
      else if !(sys || q.share || q.owner == t.ia) then .fault 2
      else match q.wayAt (bits m.bv 31 0) with
        | none => .fault 3
        | some w => result w.pos (setSlot new ⟨t.ia, w.pos, q.size, bit m.av 34, bits m.av 33 32, w.pages, [{ w with pin := false }]⟩)
    | 0x1E, some q => owned q (
        if q.ring.any (fun w => w.pos == bits m.bv 31 0) then
          .ok 8 (setSlot slot { q with ring := q.ring.map (fun w => if w.pos = bits m.bv 31 0 then { w with pin := bit m.av 16 } else w) }) none
        else .fault 3)
    | _, some q => owned q (.ok 8 { x with slots := del slot x.slots }.collect none)

/-- A pre-emption is requested of the task in a context; once asked to drain, it drains (R129). -/
def Ctx.request (c : Ctx) (drain : Bool) : Ctx := { c with preempt := some (drain || c.preempt == some true) }

/-- A commit from position `old` trips the slot's watch (R345): the watch is disarmed (its drain bit and position stay), st.whit written, the host notified, and a
pre-emption of the committing task requested when it runs, has a save area and owns the slot (R129). -/
def State.tripWatch (s : State) (d slot old new : Nat) (m : StCmd) (owner : Nat) : State :=
  let x := (s.die d).store.watchOf slot
  if !(x.arm && decide (old < x.w) && decide (x.w ≤ new)) then s
  else
    let hit := w64 (2 ^ 63 + slot * 2 ^ 32 + new)
    let s := s.modStore d (fun k => { k.putWatch slot { x with arm := false } with whit := hit })
    let s := s.toRing d (bits (s.die d).hiRmap 25 16) 5 [hit]
    match s.task? d m.tag.u with
    | none => s
    | some t => match t.ctx with
      | some g =>
        if (s.ctx g).life == .active && t.stop.isNone && t.save != 0 && owner == t.ia then
          s.modCtx g (fun c => { (c.request x.drain) with storeOut := 1 })
        else s
      | none => s

/-- The command taken next: cores in turn by number, each in its issue order (R16). -/
def StStore.next (x : StStore) : Option (Nat × StCmd) :=
  let dist := fun (g : Nat) => (g / 4 % 64 + 64 - (x.last + 1) % 64) % 64
  x.queue.foldl (fun (best : Option (Nat × StCmd)) q => match best with
    | none => some q
    | some b => if dist q.2.tag.g < dist b.2.tag.g then some q else some b) none

/-- What a command writes in scratchpad (R34, R350): the bytes of stld, the result of stback and stfork. -/
def StCmd.writes (m : StCmd) : Writes :=
  ⟨[], match m.op with
    | 0x19 => [(bits m.bv 21 0, m.total)]
    | 0x1C => if m.tag.h = 255 then [] else [(bits m.bv 53 32, 8)]
    | 0x1D => if m.tag.h = 255 then [] else [(bits m.bv 53 32, 8)]
    | _ => [], []⟩

/-- The store applies one command as an indivisible update and completes it (R347, R351). -/
def execStateCommandApply (d : Nat) (s : State) : Host.Outcome State Fault Refusal :=
  onUnit (dieOk d) (match (s.die d).store.next with
    | none => s
    | some (k, m) =>
      let slot := bits m.av 15 0
      let pos := match find? slot (s.die d).store.slots with | some q => q.pos | none => 0
      let owner := match find? slot (s.die d).store.slots with | some q => q.owner | none => 0
      match s.task? d m.tag.u with
      | none => s.modStore d (fun x => { x with queue := del k x.queue })
      | some t => match s.storeRun d t m with
        | .fault sub =>
          let s := s.modStore d (fun x => { x with queue := del k x.queue, last := m.tag.g / 4 % 64 })
          let s := s.deferFault m.tag 0x13 (info13 sub m.tag.h slot pos) m.writes
          s.reportL5 m.tag (2 ^ 63 + sub * 2 ^ 60)
        | .ok val y spad =>
          let state := fun (x : StStore) => match find? slot x.slots with | some q => q.state | none => []
          let s := if m.op = 0x1A then s.healArena d (state (s.die d).store) (state y) (stOff m.av) (stLen m.bv) else s
          let s := s.modStore d (fun _ => { y with queue := del k y.queue, last := m.tag.g / 4 % 64 })
          let s := match spad with | none => s | some (off, bs) => s.spadWrite t.onCore t off bs
          let s := if m.commits then s.tripWatch d slot pos (bits m.av 63 32) m owner else s
          (s.credit m.tag m.total).reportL5 m.tag val)

/-- The registers of the store as the host writes them (R334, R344). -/
def StStore.setCtl (x : StStore) (v : W64) : StStore :=
  { x with ctl := if x.en then w64 (bits v 63 63 * 2 ^ 63 + bits x.ctl 16 0) else w64 (bits v 63 63 * 2 ^ 63 + bits v 16 0) }
def StStore.setBase (x : StStore) (v : W64) : StStore := if x.en then x else { x with base := w64 (bits v 39 12 * 4096) }
def StStore.setSize (x : StStore) (v : W64) : StStore := if x.en then x else { x with size := w64 (bits v 31 0) }
def StStore.setWatch (x : StStore) (v : W64) : StStore :=
  x.putWatch (bits x.wsel 15 0) ⟨bit v 63, bit v 62, bits v 31 0⟩
def StStore.wpos (x : StStore) : W64 :=
  let v := x.watchOf (bits x.wsel 15 0)
  w64 (b2n v.arm * 2 ^ 63 + b2n v.drain * 2 ^ 62 + v.w)

end Sys2Proof.Machine
end

