-- ==== Sys2Proof/Machine/Records.lean ====
section
/-! DEFINITION. What Compass reads in IA: words of global memory, record lists (R115), footprint cards (R120), window sets (R119), and the
checks of a record (R114). -/

namespace Sys2Proof.Machine

/-- Words of 8 bytes read by a unit without windows: a denied read fails (log 7). -/
def State.unitWords (s : State) (d ia n : Nat) : Io (List W64) :=
  match s.unitRead d ia (8 * n) with
  | .ok bs _ _ _ => .ok (wordsOf n bs)
  | .wait n => .wait n
  | .denied _ => .fail 0 ia none

/-- Bytes written by such a unit. -/
def State.unitPut (s : State) (d ia : Nat) (bs : List Byte) : Io State :=
  match s.unitWrite d ia bs with
  | .ok s => .ok s
  | .wait n => .wait n
  | .rejected _ _ _ u => .fail 0 ia u

/-- A write that is denied is dropped, its number taken (R187; log 7). -/
def Io.orSkip (r : Io State) (s : State) : Io State :=
  match r with
  | .fail _ _ u => .ok (s.use u)
  | r => r

/-- A read that fails counts as `x`. -/
def Io.orElse {α : Type} (r : Io α) (x : α) : Io α :=
  match r with
  | .fail _ _ _ => .ok x
  | r => r

/-- A record list (R115): the IAs it names, or none when it breaks R115 or cannot be read. -/
def State.recordList (s : State) (d ia : Nat) : Io (Option (List Nat)) :=
  if ia % 8 != 0 then .ok none
  else ((s.unitWords d ia 1).bind (fun w =>
    let n := (wordN w 0).toNat
    if 4095 < n then .ok none
    else (s.unitWords d (ia + 8) n).bind (fun ws =>
      if ws.all (fun x => bits x 63 52 == 0 && x.toNat % 64 == 0) then .ok (some (ws.map (fun x => x.toNat))) else .ok none))).orElse none

/-- The pairs of consecutive words. -/
def pairs : List W64 → List (W64 × W64)
  | a :: b :: r => (a, b) :: pairs r
  | _ => []

/-- A re-arm list (R115): records with the counts to restore. -/
def State.rearmList (s : State) (d ia : Nat) : Io (Option (List (Nat × Nat))) :=
  if ia % 8 != 0 then .ok none
  else ((s.unitWords d ia 1).bind (fun w =>
    let n := (wordN w 0).toNat
    if 4095 < n then .ok none
    else (s.unitWords d (ia + 8) (2 * n)).bind (fun ws =>
      if (pairs ws).all (fun x => bits x.1 63 52 == 0 && x.1.toNat % 64 == 0 && bits x.2 63 16 == 0)
      then .ok (some ((pairs ws).map (fun x => (x.1.toNat, x.2.toNat)))) else .ok none))).orElse none

/-- A footprint card's regions, or none when it is malformed (R120). -/
def cardOf (ws : List W64) : Option (List Region) :=
  let used := (pairs ws).filter (fun x => bits x.1 63 62 != 0)
  if (pairs ws).any (fun x => bits x.1 61 52 != 0 || bits x.2 63 41 != 0) || used.isEmpty ||
      used.any (fun x => bits x.2 40 0 == 0 || decide (2 ^ 40 < bits x.2 40 0)) then none
  else some (used.map (fun x => ⟨bits x.1 63 62, bits x.1 51 0, bits x.2 40 0⟩))

/-- A footprint card in memory; one that cannot be read counts as malformed (log 7). -/
def State.readCard (s : State) (d ia : Nat) : Io (Option (List Region)) := ((s.unitWords d ia 16).bind (fun ws => .ok (cardOf ws))).orElse none

/-- The window set of a graph (R119). -/
def State.readWindows (s : State) (d ia : Nat) : Io (Map W64) :=
  ((s.unitWords d ia 16).bind (fun ws => .ok ((upFrom 0 16).map (fun j => (j, wordN ws j))))).orElse []

/-- A card stands for a core task whose entry or resume VA is given (R120). -/
def cardFits (card : List Region) (wnd : Map W64) (va : Nat) : Bool :=
  match translate wnd va 1 with
  | none => false
  | some (ia, _) => (footprintMiss card false ia 1).isNone

/-- The card of a core task at a VA: the regions, or none when R120 rejects it. -/
def State.taskCard (s : State) (d fpc wset va : Nat) : Io (Option (List Region)) :=
  (s.readCard d fpc).bind (fun c => match c with
    | none => .ok none
    | some rs => (s.readWindows d wset).bind (fun w => .ok (if cardFits rs w va then some rs else none)))

/-- The pages that a card covers, each once: 64 KiB pages, or a 32 MiB page by its first (R359). -/
def State.cardPages (s : State) (d : Nat) (rs : List Region) : List Nat :=
  rs.foldl (fun ps r => (upFrom (r.base / 65536) ((r.base + r.len - 1) / 65536 - r.base / 65536 + 1)).foldl (fun ps p =>
    insertNat (match s.homeRec? d (p * 65536) with | some (q, _) => q | none => p) ps) ps) []

end Sys2Proof.Machine
end

