-- ==== Sys2Proof/Machine/Home.lean ====
section
/-! DEFINITION. The home agent (R353 to R380): the update port (R357), home records (R354), live migration (R366, R367), and the commands
mig, pkset, own and ocinv. Requests and signposts are in Machine/Net.lean, leases in Machine/Lease.lean. -/

namespace Sys2Proof.Machine

-- Page-table entries ----------------------------------------------------------------------------------------------------------

/-- Where the tables of a die hold the leaf of a page: the PA of the entry, whether it stands at level 1, and its bits (R355). -/
def State.leafSlotFrom (s : State) (t ia : Nat) : Nat → List Nat → Option (Nat × Bool × Nat)
  | _, [] => none
  | table, lo :: ls =>
    let pa := table + 8 * (ia / 2 ^ lo % 512)
    let e := ofBytes (s.readPA t pa 8)
    if lo = 16 then some (pa, false, e)
    else if lo = 25 && (!bitN e 63 || bitN e 42) then some (pa, true, e)
    else if !bitN e 63 || pointerMalformed e then none
    else s.leafSlotFrom t ia (bitsN e 39 12 * 4096) ls

def State.leafSlot (s : State) (t ia : Nat) : Option (Nat × Bool × Nat) :=
  let root := bits (s.die t).haRoot 39 12 * 4096
  if hbmBytes < root + 4096 then none else s.leafSlotFrom t ia root [43, 34, 25, 16]

/-- An entry written. -/
def State.putEntry (s : State) (t pa e : Nat) : State := s.writePA t pa (bytesOf 8 e)

/-- A leaf written through the tables of die t, table pages from the list taken for tables that are not there; the tables left. -/
def State.installLeaf (s : State) (t ia e : Nat) : Nat → List Nat → List Nat → Option (State × List Nat)
  | _, [], _ => none
  | table, lo :: ls, ts =>
    let pa := table + 8 * (ia / 2 ^ lo % 512)
    if lo = 16 then some (s.putEntry t pa e, ts)
    else
      let p := ofBytes (s.readPA t pa 8)
      if bitN p 63 then (if pointerMalformed p then none else s.installLeaf t ia e (bitsN p 39 12 * 4096) ls ts)
      else match ts with
        | [] => none
        | n :: ts =>
          let s := { s with mem := cellsClear s.mem (paKey t n) 4096 }
          (s.putEntry t pa (2 ^ 63 + n)).installLeaf t ia e n ls ts

/-- Leaves of pages written, with the tables left. -/
def State.installLeaves (s : State) (t : Nat) : List (Nat × Nat) → List Nat → Option (State × List Nat)
  | [], ts => some (s, ts)
  | (p, e) :: ps, ts =>
    let root := bits (s.die t).haRoot 39 12 * 4096
    if hbmBytes < root + 4096 then none
    else match s.installLeaf t (p * 65536) e root [43, 34, 25, 16] ts with
      | none => none
      | some (s, ts) => s.installLeaves t ps ts

-- The pools (R357) ------------------------------------------------------------------------------------------------------------

/-- The fields of ha.pool. -/
def Die.fcnt (k : Die) : Nat := bits k.haPool 63 48
def Die.tcnt (k : Die) : Nat := bits k.haPool 11 0

def Die.setCounts (k : Die) (f t : Nat) : Die :=
  { k with haPool := w64 (setBitsN (setBitsN k.haPool.toNat 63 48 f) 11 0 t) }

/-- Entry i of the frame ring. -/
def State.ringPA (s : State) (d i : Nat) : Nat := ofBytes (s.readPA d (bits (s.die d).haPool 39 12 * 4096 + 8 * i) 8)

/-- A frame taken from the front: frames returned first, then the ring's. -/
def State.takeFrame (s : State) (d : Nat) : Nat × State :=
  let k := s.die d
  match k.poolFrames with
  | f :: fs => (f, s.setDie d ({ k with poolFrames := fs }.setCounts (k.fcnt - 1) k.tcnt))
  | [] => (s.ringPA d k.poolFront, s.setDie d ({ k with poolFront := k.poolFront + 1 }.setCounts (k.fcnt - 1) k.tcnt))

/-- A table page taken from the back: pages returned first, then the last of the ring. -/
def State.takeTable (s : State) (d : Nat) : Nat × State :=
  let k := s.die d
  match k.poolTables with
  | f :: fs => (f, s.setDie d ({ k with poolTables := fs }.setCounts k.fcnt (k.tcnt - 1)))
  | [] => (s.ringPA d (k.poolFront + (k.fcnt - k.poolFrames.length) + k.tcnt - 1), s.setDie d (k.setCounts k.fcnt (k.tcnt - 1)))

def State.takeFrames (s : State) (d : Nat) : Nat → List Nat × State
  | 0 => ([], s)
  | n + 1 => let (f, s) := s.takeFrame d; let (fs, s) := s.takeFrames d n; (f :: fs, s)
def State.takeTables (s : State) (d : Nat) : Nat → List Nat × State
  | 0 => ([], s)
  | n + 1 => let (f, s) := s.takeTable d; let (fs, s) := s.takeTables d n; (f :: fs, s)

/-- Frames and table pages returned to the pools of a die (R367). -/
def State.giveBack (s : State) (d : Nat) (fs ts : List Nat) : State :=
  s.modDie d (fun k => { k with poolFrames := fs ++ k.poolFrames, poolTables := ts ++ k.poolTables }.setCounts (k.fcnt + fs.length) (k.tcnt + ts.length))

-- The update port (R357) ------------------------------------------------------------------------------------------------------

/-- The page that ha.uia names. -/
def Die.uPage (k : Die) : Nat := bits k.haUia 51 16

/-- The result of an update in ha.uop: not busy, and st. -/
def State.uopDone (s : State) (d st : Nat) : State := s.modDie d (fun k => { k with haUop := w64 (st * 16), haPend := none })

/-- A migration of a page is under way. -/
def State.migrating (s : State) (d p : Nat) : Bool := match s.homeRec? d (p * 65536) with | some (_, r) => r.migrating | none => false

/-- Every lease held for page-in of a page gets the answer `f` (R359). -/
def State.answerHeld (s : State) (page : Nat) (f : Lease → Lease) : State :=
  let upd := fun (ls : List Lease) => ls.map (fun l => if l.page = page && l.stage = 1 then f l else l)
  { s with dies := s.dies.map (fun q => (q.1, { q.2 with compass := { q.2.compass with
      tasks := q.2.compass.tasks.map (fun t => (t.1, { t.2 with leases := upd t.2.leases, newLeases := upd t.2.newLeases })) } })) }

/-- The leases held for page-in of a page. -/
def State.heldLeases (s : State) (page : Nat) : Nat :=
  s.dies.foldl (fun n q => q.2.compass.tasks.foldl (fun n t =>
    n + ((t.2.leases ++ t.2.newLeases).filter (fun l => l.page == page && l.stage == 1)).length) n) 0

/-- The lease count of a page at its owner. -/
def State.addLeases (s : State) (t page n : Nat) : State :=
  s.modDie t (fun k => match find? page k.pages with
    | none => k
    | some pg => { k with pages := put page { pg with leases := pg.leases + n } k.pages })

/-- A new leaf changes p, frame, fmt or geo (R357). -/
def leafChanges (old new : Nat) : Bool :=
  bitN old 63 != bitN new 63 || (bitN new 63 && (bitsN old 39 16 != bitsN new 39 16 || bitsN old 54 49 != bitsN new 54 49 || bitsN old 48 45 != bitsN new 48 45))

/-- op 1, write leaf. -/
def State.haWriteLeaf (s : State) (d : Nat) : State :=
  let k := s.die d
  if bit k.haUop 63 then s
  else match s.ownPage? d (k.uPage * 65536) with
    | none => s.uopDone d 3
    | some (page, pg) => match s.leafSlot d (page * 65536) with
      | none => s.uopDone d 4
      | some (pa, _, old) =>
        let v := k.haUval.toNat
        let mig := s.migrating d page
        if bitN v 63 && (bitN v 42 != pg.big || leafMalformed pg.big v) then s.uopDone d 4
        else if leafChanges old v && pg.leases != 0 then s.uopDone d 1
        else if leafChanges old v && mig then s.uopDone d 2
        else
          let v := if bitN v 63 then setBitsN v 44 44 (b2n mig) else v
          let s := s.putEntry d pa v
          let s := if bitN v 63 then
              (s.addLeases d page (s.heldLeases page)).answerHeld page (fun l => { l with stage := 2, x := bitN v 60 })
            else s
          s.uopDone d 0

/-- The companion that ha.uval gives: none when it is malformed. -/
def Die.uCompanion (k : Die) : Option (Option Nat) :=
  if k.haUval = 0 then some none
  else if bit k.haUval 63 && bits k.haUval 62 52 == 0 && bits k.haUval 15 0 == 0 then some (some (bits k.haUval 51 16)) else none

/-- op 2, create: the leaf is read from the tables and checked; the home is asked by HOME_RECORD_CREATE. -/
def State.haCreate (s : State) (d : Nat) : State :=
  let k := s.die d
  let page := k.uPage
  if bit k.haUop 63 then s
  else match s.leafSlot d (page * 65536), k.uCompanion with
    | none, _ => s.uopDone d 4
    | _, none => s.uopDone d 4
    | some (_, big, e), some comp =>
      let bad := (big && page % 512 != 0) ||
        (bitN e 63 && (bitN e 42 != big || leafMalformed big e || (leafGeo e == 2) && comp.isNone || (leafGeo e != 2 && leafFmt e != 0x11 && comp.isSome)))
      if bad then s.uopDone d 4
      else s.modDie d (fun k => { k with haUop := w64 (2 ^ 63), haPend := some (page, big, comp) })

/-- The home records the creating die as the owner, and answers (R354, R357). -/
def execHomeRecordCreate (d : Nat) (s : State) : Host.Outcome State Fault Refusal :=
  onUnit (dieOk d) (match (s.die d).haPend with
    | none => s
    | some (page, big, comp) =>
      let h := s.homeOf d (page * 65536)
      if !s.serving h then s
      else if (s.homeRec? d (page * 65536)).isSome || (big && (s.die h).homeRecs.any (fun r => r.1 / 512 == page / 512)) then s.uopDone d 3
      else
        let s := s.modDie h (fun k => { k with homeRecs := put page ⟨d, big, comp, false, none⟩ k.homeRecs })
        let s := s.modDie d (fun k => { k with pages := put page ⟨big, 0, []⟩ k.pages, signs := del page k.signs })
        s.uopDone d 0)

/-- op 3, remove: a home that holds no record of the page refuses it (R353, R357). It is under way, with no create pending, while its home serves no
requests. -/
def State.removeNow (s : State) (d : Nat) : State :=
  let k := s.die d
  match s.ownPage? d (k.uPage * 65536) with
    | none => s.uopDone d 3
    | some (page, pg) =>
      if !s.serving (s.homeOf d (page * 65536)) then s.modDie d (fun k => { k with haUop := w64 (2 ^ 63) })
      else if (find? page (s.die (s.homeOf d (page * 65536))).homeRecs).isNone then s.uopDone d 3
      else if pg.leases != 0 then s.uopDone d 1
      else if s.migrating d page then s.uopDone d 2
      else
        let s := s.modDie (s.homeOf d (page * 65536)) (fun k => { k with homeRecs := del page k.homeRecs })
        let s := s.modDie d (fun k => { k with pages := del page k.pages })
        (s.answerHeld page (fun l => { l with stage := 3 })).uopDone d 0

def State.haRemove (s : State) (d : Nat) : State := if bit (s.die d).haUop 63 then s else s.removeNow d

/-- A home agent begins to serve requests: the removals that it held go on (R357). -/
def State.resumeRemovals (s : State) : State :=
  (s.dies.map (·.1)).foldl (fun s d => if bit (s.die d).haUop 63 && (s.die d).haPend.isNone then s.removeNow d else s) s

-- Home-agent commands (R374 to R379) ------------------------------------------------------------------------------------------

/-- The status of a home-agent command (R375). -/
def haStatus (code val : Nat) : Nat := b2n (code != 0) * 2 ^ 63 + code * 2 ^ 56 + val

/-- trap.info of a VA that misses. -/
def State.vaMiss (s : State) (va : Nat) : State := s.raise 5 (vaInfo false va)

/-- Where the home that coordinates a migration finds the record of page p of a set: its own for the region of the set's first page, whose home the
request named; for another region at the home that its own table names (R353). -/
def State.recHome (s : State) (h : Nat) (ps : List Nat) (p : Nat) : Nat := if p / 512 = ps.headD 0 / 512 then h else s.homeOf h (p * 65536)

/-- The home record of page p of a set, for the coordinating home. -/
def State.migRec (s : State) (h : Nat) (ps : List Nat) (p : Nat) : Option HomeRec :=
  (pageFind? HomeRec.big p (s.die (s.recHome h ps p)).homeRecs).map (·.2)

/-- A page of the set is parted from its companion (R366). -/
def State.parted (s : State) (d : Nat) (ps : List Nat) : Bool :=
  ps.any (fun p => match s.migRec d ps p with
    | some r => (match r.comp with | some q => !ps.contains q | none => false)
    | none => false) ||
  s.dies.any (fun k => k.2.homeRecs.any (fun r => (match r.2.comp with | some q => ps.contains q && !ps.contains r.1 | none => false)))

/-- The entry of a page's leaf at its owner. -/
def State.leafBits (s : State) (t p : Nat) : Nat := match s.leafSlot t (p * 65536) with | some (_, _, e) => e | none => 0

/-- The leaf a page takes at its destination: the frame it was given, mig = 0 (R367). -/
def movedLeaf (e : Nat) (frame : Option Nat) : Nat :=
  if bitN e 63 then setBitsN (setBitsN e 44 44 0) 39 16 (frame.getD 0 / 65536) else e

/-- How many table pages the destination needs for the set, if its pools have them. -/
def State.tablesNeeded (s : State) (t : Nat) (ps : List Nat) : Option Nat :=
  let have_ := (s.takeTables t (Nat.min (s.die t).tcnt (3 * ps.length))).1
  (s.installLeaves t (ps.map (fun p => (p, 0))) have_).map (fun r => have_.length - r.2.length)

/-- The home's check of a migration set, in the order of R366: a code, or how many table pages are needed. -/
def State.migCheck (s : State) (d : Nat) (m : Mig) : Nat ⊕ (Nat × Nat) :=
  let rs := m.pages.map (s.migRec d m.pages)
  let owner := match rs.head? with | some (some r) => r.owner | _ => 0
  let recs := rs.filterMap id
  if rs.any (·.isNone) || recs.any (fun r => r.big || r.owner != owner) then .inl 5
  else if s.parted d m.pages then .inl 3
  else if recs.any (fun r => r.migrating || (match r.lastCut with | some t => decide (s.tick < t + 2 ^ 14) | none => false)) then .inl 2
  else if m.dst = owner || !dieOk m.dst then .inl 8
  else if (s.die m.dst).fcnt < m.pages.length then .inl 4
  else match s.tablesNeeded m.dst m.pages with
    | none => .inl 4
    | some n => .inr (owner, n)

/-- The dies that a migration request asks serve requests (R357): the homes of its pages, and where it is not refused before the owner and the
destination, which lends its pools. -/
def State.migServed (s : State) (d : Nat) (m : Mig) : Bool :=
  let home := s.homeOf d (m.pages.headD 0 * 65536)
  m.pages.all (fun p => s.serving (s.recHome home m.pages p)) && (match s.migCheck home m with
    | .inr (src, _) => s.serving src && s.serving m.dst
    | .inl c => c != 4 || s.serving m.dst)

/-- The migration requests that a die's home agent can take, each with its core's number. -/
def State.migQueue (s : State) (d : Nat) : List (Nat × Nat) :=
  (s.migs.filter (fun q => q.2.phase == 0 && dieOfCtx q.2.tag.g == d && s.migServed d q.2)).map (fun q => (q.1, coreOfCtx q.2.tag.g % 64))

/-- The migration request that a die's home agent takes next: by core in turn (R16, R357). -/
def State.migNext (s : State) (d : Nat) : Option Nat := roundRobin (s.die d).haLast (s.migQueue d)

/-- A command of the core that runs is taken by the home agent of its die when no request that is waiting comes first: the core's own, then the cores'
in turn (R16; log 42). -/
def State.haTaken (s : State) (k : State → State) : State :=
  s.waitWhile (roundRobin (s.die s.myDie).haLast (s.migQueue s.myDie ++ [(s.nextId, s.myCore % 64)]) != some s.nextId)
    (k (s.modDie s.myDie (fun q => { q with haLast := s.myCore % 64 })))

/-- A home-agent command with a handle that completes when it is taken, with what it does to the state (R374): it arms 8 bytes and credits them, or
writes l5. -/
def State.haAtOnce (s : State) (t : Task) (h : BitVec 8) (code val : Nat) (f : State → State := id) : State :=
  s.armable t h 8 (s.refusal6 h) (s.haTaken (fun s =>
    (f s).issueCommand t h 8 0 (s.refusal6 h) (fun tag s => (s.credit tag 8).reportL5 tag (haStatus code val))))

/-- The set of pages that mig names, by VA: the first page's run and the companion (R374). -/
def migExtents (av bv : W64) : List (Nat × Nat) :=
  let va := bits av 56 0
  (va, (bits bv 20 16 + 1) * 65536) :: (if bit bv 63 then [(wrapN 64 ((va : Int) + signedN 24 (bits bv 47 24) * 65536), 65536)] else [])

/-- The IAs of extents of VAs: each through one window (R174), or the extent that misses. -/
def translateAll (w : Map W64) : List (Nat × Nat) → List (Nat × Nat) ⊕ (Nat × Nat)
  | [] => .inl []
  | (va, n) :: es => match translate w va n with
    | none => .inr (va, n)
    | some (ia, _) => match translateAll w es with
      | .inl r => .inl ((ia, n) :: r)
      | .inr x => .inr x

/-- The first extent with a byte in no footprint region of any mode (R376). -/
def anyModeMiss (rs : List Region) (es : List (Nat × Nat)) : Option Nat :=
  es.findSome? (fun e => (fpMiss (rs.map (fun r => { r with mode := 3 })) false 9 e.1 e.2).map (fun _ => e.1))

/-- mig at issue (R376). A companion inside the run is one page of the set (R366). -/
def execMig (g : BitVec 4) (a b : BitVec 7) (h : BitVec 8) (s : State) : Host.Outcome State Fault Refusal :=
  .next (s.systemSlot g (fun t => s.with2 a b (fun av bv =>
    if bits av 63 57 != 0 || !onlyFields bv [(10, 0), (20, 16), (47, 24), (63, 63)] then s.haAtOnce t h 1 0
    else match translateAll s.pre.wnd (migExtents av bv) with
      | .inr (va, _) => s.vaMiss va
      | .inl es =>
        if bits av 15 0 != 0 then s.raise 4 (vaInfo false av.toNat)
        else match anyModeMiss t.card es with
          | some x => s.raise 6 (fpInfo false x)
          | none => s.issueCommand t h 8 0 (s.refusal6 h) (fun tag s =>
            let pages := ((es.map (fun e => upFrom (e.1 / 65536) (e.2 / 65536))).flatten).eraseDups
            let m : Mig := { tag := tag, pages := pages, src := 0, dst := s.dieAt s.myDie (bits bv 10 0), phase := 0, rounds := 0, dirty := [], copied := 0, frozenAt := 0,
                             frames := [], tables := [], code := 0 }
            { s with migs := put tag.tok m s.migs }))))

/-- The pkr0 of a context's graph. -/
def State.graphKeys (s : State) (g : Nat) (t : Task) : W64 := match s.graph? (dieOfCtx g) t.graph with | none => 0 | some x => x.pkr0

/-- pkset (R377). -/
def execPkset (g : BitVec 4) (a b : BitVec 7) (s : State) : Host.Outcome State Fault Refusal :=
  .next (s.engineSlot g (fun t => s.with2 a b (fun av bv =>
    if 32 ≤ av.toNat || 4 ≤ bv.toNat then s.atOnceL5 (haStatus 1 0)
    else
      let k := av.toNat
      let may := if t.sys then 3 else bits (s.graphKeys s.cur t) (2 * k + 1) (2 * k)
      let v := bv.toNat &&& may
      let s := s.modMe (fun c => { c with pkr := w64 (setBitsN c.pkr.toNat (2 * k + 1) (2 * k) v) })
      s.atOnceL5 (haStatus 0 (k * 4 + v)))))

/-- own (R378): a snapshot by a fresh gazetteer entry or from the home, which fills the entry. It names the owner by its die ID (R14). The home wakes (R450). -/
def execOwn (g : BitVec 4) (a : BitVec 7) (s : State) : Host.Outcome State Fault Refusal :=
  .next (s.engineSlot g (fun _ => s.withSource a (fun av =>
    if bits av 63 57 != 0 then s.haTaken (fun s => s.atOnceL5 (haStatus 1 0))
    else match translate s.pre.wnd av.toNat 1 with
      | none => s.vaMiss av.toNat
      | some (ia, _) => match s.gazFresh s.myDie ia with
        | some o => s.haTaken (fun s => s.atOnceL5 (haStatus 0 (s.dieId o)))
        | none => s.waitWhile (!s.serving (s.homeOf s.myDie ia)) (s.haTaken (fun s => match s.homeRec? s.myDie ia with
          | none => (s.wake (s.homeOf s.myDie ia)).atOnceL5 (haStatus 5 0)
          | some (p, r) => ((s.wake (s.homeOf s.myDie ia)).gazFill s.myDie p r.owner r.big).atOnceL5 (haStatus 0 (b2n r.migrating * 2 ^ 17 + 2 ^ 16 + s.dieId r.owner)))))))

/-- ocinv (R379). -/
def execOcinv (g : BitVec 4) (a b : BitVec 7) (h : BitVec 8) (s : State) : Host.Outcome State Fault Refusal :=
  .next (s.systemSlot g (fun t => s.with2 a b (fun av bv =>
    let d := s.myDie
    if 2 ≤ bv.toNat || (bv = 1 && av != 0) || (bv = 0 && !onlyFields av [(56, 16)]) then s.haAtOnce t h 1 0
    else if bv = 1 then
      let n := (s.die d).gaz.length
      s.haAtOnce t h 0 n (fun s => s.modDie d (fun k => { k with gaz := [] }))
    else match translate s.pre.wnd av.toNat 1 with
      | none => s.vaMiss av.toNat
      | some (ia, _) => match pageFind? Gaz.big (ia / 65536) (s.die d).gaz with
        | none => s.haAtOnce t h 0 0
        | some (p, _) => s.haAtOnce t h 0 1 (fun s => s.modDie d (fun k => { k with gaz := del p k.gaz })))))

/-- lrenew at issue: the command joins the task's renewals (R361, R380). -/
def execLrenew (g : BitVec 4) (h : BitVec 8) (s : State) : Host.Outcome State Fault Refusal :=
  .next (s.engineSlot g (fun t => s.armable t h 8 (s.refusal6 h) (s.haTaken (fun s => s.issueCommand t h 8 0 (s.refusal6 h) (fun tag s =>
    s.modTask s.myDie tag.u (fun t => { t with renews := t.renews ++ [(tag, false)] }))))))

-- Migration (R366, R367) ------------------------------------------------------------------------------------------------------

def State.modMig (s : State) (k : Nat) (f : Mig → Mig) : State :=
  match find? k s.migs with | none => s | some m => { s with migs := put k (f m) s.migs }

def State.endMig (s : State) (k code : Nat) : State := s.modMig k (fun m => { m with phase := 3, code := code })

/-- A flag of the home records of the set. -/
def State.modRecs (s : State) (d : Nat) (ps : List Nat) (f : HomeRec → HomeRec) : State :=
  ps.foldl (fun s p => s.modDie (s.recHome d ps p) (fun k => match find? p k.homeRecs with
    | none => k
    | some r => { k with homeRecs := put p (f r) k.homeRecs })) s

/-- mig set or cleared in the leaves of the set at the owner (R355, R367). -/
def State.markLeaves (s : State) (t : Nat) (ps : List Nat) (b : Bool) : State :=
  ps.foldl (fun s p => match s.leafSlot t (p * 65536) with
    | some (pa, _, e) => if bitN e 63 then s.putEntry t pa (setBitsN e 44 44 (b2n b)) else s
    | none => s) s

/-- The home takes a migration request (R366): it refuses it, or the copy phase starts. -/
def execMigrationRequest (k : Nat) (s : State) : Host.Outcome State Fault Refusal :=
  .next (match find? k s.migs with
    | none => s
    | some m =>
      let d := dieOfCtx m.tag.g
      let home := s.homeOf d (m.pages.headD 0 * 65536)
      if s.migNext d != some k then s
      else
        let s := (s.wake home).modDie d (fun q => { q with haLast := coreOfCtx m.tag.g % 64 })
        match s.migCheck home m with
        | .inl c => s.endMig k c
        | .inr (src, n) =>
          let s := (s.wake src).wake m.dst
          let (fs, s) := s.takeFrames m.dst m.pages.length
          let (ts, s) := s.takeTables m.dst n
          let s := (s.modRecs home m.pages (fun r => { r with migrating := true })).markLeaves src m.pages true
          s.modMig k (fun m => { m with phase := 1, src := src, frames := m.pages.zip fs, tables := ts }))

/-- n bytes of HBM copied between dies, with the marks of their uncorrectable errors. -/
def State.copyBytes (s : State) (t pa t2 pb n : Nat) : State :=
  let a := paKey t pa
  let moved := (s.mem.filter (fun c => decide (a ≤ c.1) && decide (c.1 < a + n))).map (fun c => (paKey t2 pb + (c.1 - a), c.2))
  let bad := ((s.die t).bad.filter (fun w => decide (pa ≤ 32 * w.1) && decide (32 * w.1 < pa + n))).map (fun w => (w.1 - pa / 32 + pb / 32, w.2))
  let s := ({ s with mem := moved.foldl (fun m (c : Host.Cell) => cellPut m c.1 c.2) (cellsClear s.mem (paKey t2 pb) n) }).heal t2 pb n
  if bad.isEmpty then s else s.modDie t2 (fun k => { k with bad := bad.foldl (fun m (w : Nat × Nat) => put w.1 w.2 m) k.bad })

/-- Sectors of a set, by IA / 32, copied to the destination's frames. -/
def State.copySectors (s : State) (m : Mig) (ks : List Nat) : State :=
  ks.foldl (fun s k => match find? (k / 2048) m.frames, s.walk m.src (k * 32) with
    | some f, .leaf _ big e => s.copyBytes m.src (leafPA big e (k * 32)) m.dst (f + k % 2048 * 32) 32
    | _, _ => s) s

/-- Whole pages of a set copied. -/
def State.copyPages (s : State) (m : Mig) : State :=
  m.pages.foldl (fun s p => match find? p m.frames, s.walk m.src (p * 65536) with
    | some f, .leaf _ big e => s.copyBytes m.src (leafPA big e (p * 65536)) m.dst f 65536
    | _, _ => s) s

/-- The copy, and then up to four rounds over the dirty sectors while more than 64 remain (R367). -/
def execMigrationCopyRound (k : Nat) (s : State) : Host.Outcome State Fault Refusal :=
  .next (match find? k s.migs with
    | none => s
    | some m =>
      if m.phase != 1 || decide (5 ≤ m.rounds) then s
      else if m.rounds = 0 then (s.copyPages m).modMig k (fun m => { m with rounds := 1, dirty := [] })
      else if m.dirty.length ≤ 64 then s
      else (s.copySectors m m.dirty).modMig k (fun m => { m with rounds := m.rounds + 1, dirty := [] }))

/-- The freeze: new requests for the set are held, and the remaining dirty sectors are copied (R367). -/
def execMigrationFreeze (k : Nat) (s : State) : Host.Outcome State Fault Refusal :=
  .next (match find? k s.migs with
    | none => s
    | some m =>
      if m.phase != 1 || m.rounds = 0 || (decide (64 < m.dirty.length) && decide (m.rounds < 5)) then s
      else (s.copySectors m m.dirty).modMig k (fun m => { m with phase := 2, copied := m.dirty.length, dirty := [], frozenAt := s.tick }))

/-- A freeze of 800 ticks aborts the migration (R367). -/
def execFreezeTimeout (k : Nat) (s : State) : Host.Outcome State Fault Refusal :=
  .next (match find? k s.migs with
    | none => s
    | some m =>
      if m.phase != 2 || decide (s.tick < m.frozenAt + 800) then s
      else
        let home := s.homeOf (dieOfCtx m.tag.g) (m.pages.headD 0 * 65536)
        let s := (s.markLeaves m.src m.pages false).modRecs home m.pages (fun r => { r with migrating := false })
        (s.giveBack m.dst (m.frames.map (·.2)) m.tables).endMig k 6)

/-- The lineage a page takes with it: its own within 2^18 ticks, and the owner it leaves, with its frontiers (R365). -/
def State.lineageFrom (s : State) (src dst : Nat) (pg : PageSt) : List Lin :=
  let old := pg.lineage.filter (fun l => decide (s.tick < l.tick + 2 ^ 18) && l.die != dst && l.die != src)
  (⟨src, s.tick, (s.die src).fronts.map (fun f => (f.1, f.2.f))⟩ :: old).take 16

/-- Cutover (R367): the destination installs the leaves, the home names it, the old owner frees its frames and installs signposts, which
relay the held requests. -/
def execMigrationCutover (k : Nat) (s : State) : Host.Outcome State Fault Refusal :=
  .next (match find? k s.migs with
    | none => s
    | some m =>
      if m.phase != 2 || decide (m.frozenAt + 800 < s.tick) then s
      else
        let home := s.homeOf (dieOfCtx m.tag.g) (m.pages.headD 0 * 65536)
        let leaves := m.pages.map (fun p => (p, s.leafBits m.src p))
        match s.installLeaves m.dst (leaves.map (fun q => (q.1, movedLeaf q.2 (find? q.1 m.frames)))) m.tables with
        | none => s
        | some (s1, left) =>
          let unused := leaves.filterMap (fun q => if bitN q.2 63 then none else find? q.1 m.frames)
          let freed := leaves.filterMap (fun q => if bitN q.2 63 then some (bitsN q.2 39 16 * 65536) else none)
          let s1 := m.pages.foldl (fun s1 p => match find? p (s.die m.src).pages with
            | none => s1
            | some pg =>
              let s1 := s1.modDie m.dst (fun k => { k with pages := put p { pg with lineage := s.lineageFrom m.src m.dst pg } k.pages, signs := del p k.signs })
              s1.modDie m.src (fun k => { k with pages := del p k.pages, signs := put p ⟨m.dst, s.tick, 0⟩ k.signs })) s1
          let s1 := s1.modRecs home m.pages (fun r => { r with owner := m.dst, migrating := false, lastCut := some s.tick })
          ((s1.giveBack m.dst unused left).giveBack m.src freed []).endMig k 0)

/-- The outcome reaches the command (R375, R376). -/
def execMigrationComplete (k : Nat) (s : State) : Host.Outcome State Fault Refusal :=
  .next (match find? k s.migs with
    | none => s
    | some m =>
      if m.phase != 3 then s
      else
        let old := s.dieId m.src * 65536
        let val := if m.code = 0 then old + m.copied % 65536 else if m.code = 6 then old else 0
        (({ s with migs := del k s.migs }).credit m.tag 8).reportL5 m.tag (haStatus m.code val))

end Sys2Proof.Machine
end

