-- ==== Sys2Proof/Machine/Index.lean ====
section
/-! DEFINITION. The index engine (R381 to R393, R400 to R403) and the work lists (R394 to R399). An element is performed in one step (log 6). With them the turns in which
an owner serves the updates of one location (R198). -/

namespace Sys2Proof.Machine

def State.modIndex (s : State) (c : Nat) (f : IndexUnit → IndexUnit) : State := s.modCore c (fun k => { k with index := f k.index })
def State.modIdx (s : State) (c k : Nat) (f : IdxCmd → IdxCmd) : State :=
  match find? k (s.core c).index.queue with
  | none => s
  | some m => s.modIndex c (fun x => { x with queue := put k (f m) x.queue })

/-- The opcodes (R403). -/
def IdxCmd.element (m : IdxCmd) : Bool := m.op == 0x28 || m.op == 0x29 || m.op == 0x2A

-- Descriptors (R383) ----------------------------------------------------------------------------------------------------------

def ixBase (ws : List W64) : Nat := bits (wordN ws 0) 56 0
def ixSgn (ws : List W64) : Bool := bit (wordN ws 1) 40
def ixCnt (ws : List W64) : Nat := bits (wordN ws 1) 39 24 + 1
def ixWidth (ws : List W64) : Nat := if bit (wordN ws 1) 22 then 8 else 4
def ixList (ws : List W64) : Nat := bits (wordN ws 1) 21 0
def ixW (ws : List W64) : Nat := if bit (wordN ws 2) 56 then 8 else 4
def ixCop (ws : List W64) : Nat := bits (wordN ws 2) 55 52
def ixData (ws : List W64) : Nat := bits (wordN ws 2) 21 0
/-- The data stride s, and the alignment of an element's address (R383, R385). -/
def ixStride (op : Nat) (ws : List W64) : Nat := if op = 0x2A then ixW ws else ixSize ws
def ixAlign (op : Nat) (ws : List W64) : Nat := if op = 0x2A then (if ixCop ws = 9 then 64 else ixW ws) else 4

/-- A descriptor within its limits (R383). -/
def ixOk (op : Nat) (ws : List W64) : Bool :=
  onlyFields (wordN ws 0) [(56, 0)] && onlyFields (wordN ws 1) [(40, 24), (22, 0)] && onlyFields (wordN ws 2) [(56, 52), (30, 24), (21, 0)] && wordN ws 3 == 0 &&
  (if op = 0x2A then decide (ixCop ws ≤ 9) && ixSize ws == (if ixCop ws = 9 then 64 else ixW ws) else !bit (wordN ws 2) 56 && ixCop ws == 0)

-- Issue (R384, R403) ----------------------------------------------------------------------------------------------------------

/-- trap.info of cause 0x14 (R401). -/
def info14 (sub cmd h val : Nat) : W64 := w64 (sub * 2 ^ 61 + cmd * 2 ^ 57 + h * 2 ^ 49 + val % 2 ^ 32)

/-- The rejection of a command at issue. -/
def State.rejectIndex (s : State) (h : Nat) : State := s.raise 0x14 (info14 1 0 h s.bun.word.toNat)

/-- The lowest free queue slot. -/
def freeSlot (q : Map IdxCmd) : Nat := ((upFrom 0 16).find? (fun n => q.all (fun m => m.2.slot != n))).getD 0

/-- A command enters the queue, its total armed; a full queue stalls (R381). -/
def State.enterIndex (s : State) (t : Task) (h : BitVec 8) (op total : Nat) (av bv : W64) (desc : List W64) (z left : Nat) : State :=
  s.issueQueued t h total (s.refusal6 h) (decide (16 ≤ (s.core s.myCore).index.queue.length)) (fun tag s =>
    s.modIndex s.myCore (fun x => { x with queue := put tag.tok ⟨tag, freeSlot x.queue, op, s.bun.word.toNat, av, bv, desc, z, 0, [], left, 0, false⟩ x.queue }))

/-- gath, scat and scata at issue. -/
def State.indexSlot (s : State) (g : BitVec 4) (a : BitVec 7) (h : BitVec 8) (op : Nat) : State :=
  s.engineSlot g (fun t => s.withSource a (fun av =>
    if bits av 63 22 != 0 then s.rejectIndex h.toNat
    else s.engineSpad t false av.toNat 32 32 true (
      let ws := wordsOf 4 (s.spadRead s.myCore t av.toNat 32)
      let n := ixCnt ws
      let st := ixStride op ws
      let al := if op = 0x2A then ixW ws else 4
      if ixData ws % al != 0 then s.raise 4 (vaInfo (op == 0x28) (ixData ws))
      else s.engineSpad t false (ixList ws) (n * ixWidth ws) (ixWidth ws) false
        (s.engineSpad t (op == 0x28) (ixData ws) (n * st) al false (
          if !ixOk op ws then s.rejectIndex h.toNat
          else s.enterIndex t h op (n * ixSize ws) av 0 ws 0 n)))))

def execGath (g : BitVec 4) (a : BitVec 7) (h : BitVec 8) (s : State) : Host.Outcome State Fault Refusal := .next (s.indexSlot g a h 0x28)
def execScat (g : BitVec 4) (a : BitVec 7) (h : BitVec 8) (s : State) : Host.Outcome State Fault Refusal := .next (s.indexSlot g a h 0x29)
def execScata (g : BitVec 4) (a : BitVec 7) (h : BitVec 8) (s : State) : Host.Outcome State Fault Refusal := .next (s.indexSlot g a h 0x2A)

/-- fqread (R393). -/
def execFqread (g : BitVec 4) (a b : BitVec 7) (h : BitVec 8) (s : State) : Host.Outcome State Fault Refusal :=
  .next (s.engineSlot g (fun t => s.with2 a b (fun av bv =>
    if bits bv 10 0 = 0 then
      if h != 255 then s.undefinedEncoding
      else if av != 0 || bv != 0 then s.rejectIndex 255
      else s.enterIndex t h 0x2B 0 av bv [] 0 0
    else if 1024 < bv.toNat || bits av 63 22 != 0 then s.rejectIndex h.toNat
    else s.engineSpad t true av.toNat (16 * bv.toNat) 16 false (s.enterIndex t h 0x2B (16 * bv.toNat) av bv [] 0 0))))

/-- The selection of frep and fdrop within its limits (R391). -/
def selOk (av : W64) : Bool := if bit av 63 then bits av 62 0 == 0 else bits av 62 10 == 0

def execFrep (g : BitVec 4) (a : BitVec 7) (s : State) : Host.Outcome State Fault Refusal :=
  .next (s.engineSlot g (fun t => s.withSource a (fun av => if !selOk av then s.rejectIndex 255 else s.enterIndex t 255 0x2C 0 av 0 [] 0 0)))
def execFdrop (g : BitVec 4) (a b : BitVec 7) (s : State) : Host.Outcome State Fault Refusal :=
  .next (s.engineSlot g (fun t => s.with2 a b (fun av bv => if !selOk av then s.rejectIndex 255 else s.enterIndex t 255 0x2D 0 av bv [] 0 0)))

-- Work lists at issue (R395 to R398) ------------------------------------------------------------------------------------------

/-- The fields of wlnew (R395). -/
def wnHdr (av : W64) : Nat := bits av 21 0
def wnRing (av : W64) : Nat := bits av 43 22
def wnCap (av : W64) : Nat := bits av 48 44
def wnSize (av : W64) : Nat := if bit av 49 then 8 else 4
def wnHm (av : W64) : Nat := 2 ^ wnCap av * (4 - bits av 51 50) / 4

def wnOk (av bv : W64) : Bool :=
  bits av 63 52 == 0 && decide (6 ≤ wnCap av) && decide (wnCap av ≤ 16) && !bit bv 63 &&
    (bv == 0 || (decide (10 ≤ bits bv 62 57) && decide (bits bv 62 57 ≤ 34)))

def execWlnew (g : BitVec 4) (a b : BitVec 7) (h : BitVec 8) (s : State) : Host.Outcome State Fault Refusal :=
  .next (s.engineSlot g (fun t => s.with2 a b (fun av bv =>
    let go := if !wnOk av bv then s.rejectIndex h.toNat else s.enterIndex t h 0x30 64 av bv [] 0 0
    let sp := bits bv 56 0
    if wnHdr av % 64 != 0 then s.raise 4 (vaInfo true (wnHdr av))
    else if wnRing av % 64 != 0 then s.raise 4 (vaInfo true (wnRing av))
    else if sp % 4096 != 0 then s.raise 4 (vaInfo true sp)
    else s.engineSpad t true (wnHdr av) 64 64 false (s.engineSpad t true (wnRing av) (wnSize av * 2 ^ wnCap av) 64 false (
      if bv = 0 then go
      else
        let n := wnSize av * 2 ^ bits bv 62 57
        match translate s.pre.wnd sp n with
        | none => s.raise 5 (vaInfo true sp)
        | some (ia, _) => match rwMiss t.card ia n with
          | some x => s.raise 6 (fpInfo true x)
          | none => go)))))

/-- The item size of a list as it stands for a command that issues now: by the last wlnew still queued, else by its header. -/
def State.wlSize (s : State) (c : Nat) (t : Task) (u hdr : Nat) : Nat :=
  match ((s.core c).index.queue.filter (fun q => q.2.op == 0x30 && q.2.tag.u == u && wnHdr q.2.av == hdr)).getLast? with
  | some q => wnSize q.2.av
  | none => if bitN (ofBytes (s.spadRead c t hdr 8)) 61 then 8 else 4

/-- wlpush, wlpop and wlins at issue (R396). -/
def State.wlSlot (s : State) (t : Task) (h : BitVec 8) (op : Nat) (av bv : W64) : State :=
  let n := bits av 50 44 + 1
  let row := bits av 43 22
  s.engineSpad t true (wnHdr av) 64 64 false (s.engineSpad t (op == 0x32) row 512 32 false (
    let z := s.wlSize s.myCore t (s.pre.task.getD 0) (wnHdr av)
    if bits av 63 51 != 0 || bits bv 63 57 != 0 || decide (512 < n * z) then s.rejectIndex h.toNat
    else s.enterIndex t h op (if op = 0x32 then 512 else n * z) av bv [] z (if op = 0x33 then n else 0)))

def execWlpush (g : BitVec 4) (a : BitVec 7) (h : BitVec 8) (s : State) : Host.Outcome State Fault Refusal :=
  .next (s.engineSlot g (fun t => s.withSource a (fun av => s.wlSlot t h 0x31 av 0)))
def execWlpop (g : BitVec 4) (a : BitVec 7) (h : BitVec 8) (s : State) : Host.Outcome State Fault Refusal :=
  .next (s.engineSlot g (fun t => s.withSource a (fun av => s.wlSlot t h 0x32 av 0)))
def execWlins (g : BitVec 4) (a b : BitVec 7) (h : BitVec 8) (s : State) : Host.Outcome State Fault Refusal :=
  .next (s.engineSlot g (fun t => s.with2 a b (fun av bv => s.wlSlot t h 0x33 av bv)))
def execWlstat (g : BitVec 4) (a : BitVec 7) (s : State) : Host.Outcome State Fault Refusal :=
  .next (s.engineSlot g (fun t => s.withSource a (fun av =>
    if bits av 63 22 != 0 then s.rejectIndex 255
    else s.engineSpad t false av.toNat 64 64 false (s.enterIndex t 255 0x34 0 av 0 [] 0 0))))

-- Elements (R385, R386) -------------------------------------------------------------------------------------------------------

-- Turns at an owner (R198) -----------------------------------------------------------------------------------------------------

/-- The elements of a command write. -/
def IdxCmd.writes (m : IdxCmd) : Bool := m.op != 0x28

/-- An element issued earlier accesses the same bytes, and one of the two writes (R386, R400). -/
def elementBehind (q : Map IdxCmd) (m : IdxCmd) (x : Elem) : Bool :=
  q.any (fun p => p.2.els.any (fun y => decide (y.2.ord < x.ord) && y.2.fault.isNone && y.2.ans.isNone && (m.writes || p.2.writes) &&
    decide (y.2.ia < x.ia + m.span) && decide (x.ia < y.2.ia + p.2.span)))

/-- An update in one step by die d of a location at die t could be made now. -/
def State.canUpdate (s : State) (t d ia : Nat) (ents : List Ent) : Bool :=
  s.placeOf d ia ents == .at_ t && s.nextInSequence d t && (s.stampFor t ents).isSome

/-- The atomic updates of the memory ports that wait at die t for a location, each with its origin and number. -/
def State.atomicsAt (s : State) (t ia : Nat) : List (Nat × Nat) :=
  (s.net.filter (fun q => q.2.target == t && q.2.ia == ia && (match q.2.kind with | .atomic _ => true | _ => false) && s.servable q.2 && s.inSequence q.2)).map
    (fun q => (q.2.origin, q.1))

/-- The merges of a core's Survey that wait for a sketch at die t (R326). -/
def State.mergesAt (s : State) (t ia c : Nat) : List (Nat × Nat) :=
  ((s.core c).survey.filter (fun q => q.2.sent.isSome && q.2.answer.isNone && q.2.ia == ia && s.canUpdate t (dieOfCore c) ia (s.cmdEnts q.2.tag))).map
    (fun q => (dieOfCore c, q.1))

/-- The combines and test-and-sets of a core's index engine that wait for a location at die t (R387, R397). -/
def State.elementsAt (s : State) (t ia c : Nat) : List (Nat × Nat) :=
  ((s.core c).index.queue.map (fun p =>
    if p.2.op != 0x2A && p.2.op != 0x33 then []
    else (p.2.els.filter (fun e => e.2.ia == ia && e.2.fault.isNone && e.2.ans.isNone && !s.cmdHeld e.2.tag && !elementBehind (s.core c).index.queue p.2 e.2 &&
      s.canUpdate t (dieOfCore c) ia (s.cmdEnts e.2.tag))).map (fun e => (dieOfCore c, e.2.ord)))).flatten

/-- The updates that wait at die t for a location and could be made now. A location is its IA: updates that overlap from another IA are not among them
(R198; log 81). -/
def State.updatesAt (s : State) (t ia : Nat) : List (Nat × Nat) :=
  s.atomicsAt t ia ++ (s.cores.map (fun p => s.mergesAt t ia p.1 ++ s.elementsAt t ia p.1)).flatten

/-- The place of an origin die in the order of die IDs (R14, R198); dies that have the same, before their packages are numbered, go by place. -/
def State.turnKey (s : State) (o : Nat) : Nat := s.dieId o * 2048 + o

/-- How far an origin die stands after the one that die t served last at a location; where it has served none, die ID 0 counts as the last (R198;
log 81). -/
def State.turnOf (s : State) (t ia o : Nat) : Nat :=
  (s.turnKey o + 2 ^ 22 - (((find? ia (s.die t).atomLast).map s.turnKey).getD 0 + 1) % 2 ^ 22) % 2 ^ 22

/-- It is the turn of the update of origin o with number n: no other that could be made comes from an origin nearer after the one served last, or
earlier from the same origin (R198, R326). -/
def State.myTurn (s : State) (t ia o n : Nat) : Bool :=
  (s.updatesAt t ia).all (fun p => decide (s.turnOf t ia o < s.turnOf t ia p.1) || (s.turnOf t ia o == s.turnOf t ia p.1 && decide (n ≤ p.2)))

/-- An origin's update of a location has been served. -/
def State.servedTurn (s : State) (t ia o : Nat) : State := s.modDie t (fun k => { k with atomLast := put ia o k.atomLast })

/-- What an atomic update in one step gives: it waits, it fails for a cause of R388, or the old bytes with the state. -/
inductive OneAtomic where
  | wait (need : Need)
  | fail (cause : Nat) (used : Used)
  | ok (old : Nat) (s : State)

/-- An atomic update of n bytes at an IA, made in one step at the owner on the turn of its number `ord` (R197, R198). -/
def State.atomicOne (s : State) (tag : Tag) (ord ia n : Nat) (f : Nat → Nat) : OneAtomic :=
  let d := dieOfCtx tag.g
  let ents := s.cmdEnts tag
  match s.placeOf d ia ents with
  | .wait n => .wait n
  | .denied _ => .fail 0x0F none
  | .at_ t =>
    if !s.nextInSequence d t || !s.myTurn t ia d ord then .wait none
    else match s.checkAt t ia .store with
      | .denied _ => .fail 0x0F (some (d, t))
      | .ok pa e =>
        if !bitN tag.wen (leafKey e) then .fail 0x0F (some (d, t))
        else if (s.badAt t pa n).isSome then .fail 0x16 (some (d, t))
        else
          let old := ofBytes (s.readPA t pa n)
          match s.writeOne d ia (bytesOf n (f old)) .store tag.wen ents with
          | .wait n => .wait n
          | .rejected _ _ _ u => .fail 0x0F u
          | .ok s => .ok old (s.servedTurn t ia d)

/-- The address of element i, and what it finds at its issue: a cause, or a footprint violation (R385). -/
def State.element (s : State) (m : IdxCmd) (tag : Tag) (i : Nat) : Elem ⊕ W64 :=
  let ws := m.desc
  let n := ixSize ws
  let v : Int := if ixSgn ws then signedN (8 * ixWidth ws) i else (i : Nat)
  let ea := wrapN 64 ((ixBase ws : Int) + v * n)
  let x : Elem := ⟨s.nextId, i, ea, 0, tag, none, none⟩
  match translate tag.wnd ea n with
  | none => .inl { x with fault := some 5 }
  | some (ia, _) =>
    if ea % ixAlign m.op ws != 0 then .inl { x with ia := ia, fault := some 4 }
    else match footprintMiss tag.card (m.op != 0x28) ia n with
      | some y => .inr (fpInfo (m.op != 0x28) y)
      | none => .inl { x with ia := ia }

/-- What element e of a command writes in scratchpad (R34, R386). -/
def IdxCmd.results (m : IdxCmd) (e : Nat) : Writes := ⟨[], if m.op = 0x28 then [(ixData m.desc + e * ixSize m.desc, ixSize m.desc)] else [], []⟩

/-- A footprint violation of an element ends the task at its next synchronisation bundle (R124). -/
def State.violate (s : State) (tag : Tag) (info : W64) (w : Writes) : State := s.deferFault tag 6 info w

/-- The status of an index command (R402). -/
def ixStatus (flt : Bool) (sub val : Nat) : Nat := b2n flt * 2 ^ 63 + sub * 2 ^ 60 + val

/-- A command with no element left leaves the queue, with its status for l5 (R381, R402). -/
def State.leaveIndex (s : State) (c k : Nat) : State :=
  match find? k (s.core c).index.queue with
  | none => s
  | some m =>
    if m.left != 0 then s
    else (s.modIndex c (fun x => { x with queue := del k x.queue })).reportL5 m.tag (ixStatus m.lost 0 m.cred)

/-- One element is done, with the bytes it credits. -/
def State.elementDone (s : State) (c k n : Nat) (lost : Bool) : State :=
  match find? k (s.core c).index.queue with
  | none => s
  | some m => (((s.credit m.tag n).modIdx c k (fun m => { m with left := m.left - 1, cred := m.cred + n, lost := m.lost || lost }))).leaveIndex c k

/-- Element e of a command enters flight with index i, or ends at a violation. -/
def State.startElement (s : State) (c k e : Nat) (m : IdxCmd) (tag : Tag) (i : Nat) : State :=
  match s.element m tag i with
  | .inl x => ({ s with nextId := s.nextId + 1 }).modIdx c k (fun m => { m with els := put e x m.els })
  | .inr info => (s.violate m.tag info (m.results e)).elementDone c k 0 false

/-- Index e of a command's list, as it stands in scratchpad. -/
def State.listIndex (s : State) (t : Task) (m : IdxCmd) (e : Nat) : Nat :=
  ofBytes (s.spadRead t.onCore t (ixList m.desc + ixWidth m.desc * e) (ixWidth m.desc))

/-- An element whose index or item has an uncorrectable error enters flight, to be parked with 0x16 (R388). -/
def State.badElement (s : State) (c k e : Nat) (tag : Tag) : State :=
  ({ s with nextId := s.nextId + 1 }).modIdx c k (fun m => { m with els := put e ⟨s.nextId, 0, 0, 0, tag, some 0x16, none⟩ m.els })

/-- That index has an uncorrectable error (R388). -/
def State.badIndex (s : State) (t : Task) (m : IdxCmd) (e : Nat) : Bool := s.spadBad t.onCore t (ixList m.desc + ixWidth m.desc * e) (ixWidth m.desc)

/-- Every command issued earlier has been taken: its elements are issued, a work-list command has ended or waits for parked items (R381). -/
def indexFirst (q : Map IdxCmd) (k : Nat) : Bool :=
  q.all (fun m => decide (k ≤ m.1) || (if m.2.element then decide (ixCnt m.2.desc ≤ m.2.next) else m.2.op == 0x33 && m.2.next == 1 && m.2.els.isEmpty))

/-- The most sectors that an element of a command requests. -/
def IdxCmd.reach (m : IdxCmd) : Nat := (m.span + 59) / 32

/-- The engine issues the next element of a command (R385), when the request table has room for it (R382). -/
def execIndexElementIssue (c k : Nat) (s : State) : Host.Outcome State Fault Refusal :=
  onUnit (coreOk c) (match find? k (s.core c).index.queue with
    | none => s
    | some m => match s.task? (dieOfCore c) m.tag.u with
      | none => s
      | some t =>
        if !m.element || decide (ixCnt m.desc ≤ m.next) || !indexFirst (s.core c).index.queue k || s.cmdHeld m.tag || !s.portRoom c m.reach then s
        else
          let e := m.next
          let s := s.modIdx c k (fun m => { m with next := m.next + 1 })
          if s.badIndex t m e then s.badElement c k e m.tag
          else s.startElement c k e m m.tag (s.listIndex t m e))

/-- What an element's accesses do: a wait, a cause, or the state. -/
inductive ElemRan where
  | wait (need : Need)
  | fault (cause : Nat) (used : Used)
  | ok (s : State)

/-- The causes of R388 for a failed access. -/
def ioCause (n : Nat) : Nat := match n with | 0 => 7 | 1 => 8 | 2 => 0x0F | _ => 0x16

/-- The accesses of element e (R386). -/
def State.elementRun (s : State) (t : Task) (m : IdxCmd) (e : Nat) (x : Elem) : ElemRan :=
  let ws := m.desc
  let n := ixSize ws
  let st := ixStride m.op ws
  match x.fault with
  | some f => .fault f none
  | none =>
    if m.op = 0x28 then
      match s.cmdRead x.tag x.ia n with
      | .wait n => .wait n
      | .fail f _ u => .fault (ioCause f) u
      | .ok bs => .ok (s.spadWrite t.onCore t (ixData ws + e * n) bs)
    else match s.cmdSpad t (ixData ws + e * st) st with
      | .wait n => .wait n
      | .fail f _ u => .fault (ioCause f) u
      | .ok bs =>
        if m.op = 0x29 then match s.cmdWrite x.tag x.ia bs with
          | .wait n => .wait n
          | .fail f _ u => .fault (ioCause f) u
          | .ok s => .ok s
        else
          let v := ofBytes bs
          let a : Atomic := if ixCop ws = 9 then .xadd (st == 4) v else .amo (8 * st) (ixCop ws) v
          match s.atomicOne x.tag x.ord x.ia n a.newValue with
          | .wait n => .wait n
          | .fail f u => .fault f u
          | .ok _ s => .ok s

/-- An element of a command, when its accesses may be made. -/
def State.onElement (s : State) (c k e : Nat) (f : Task → IdxCmd → Elem → State) : State :=
  match find? k (s.core c).index.queue with
  | none => s
  | some m => match find? e m.els, s.task? (dieOfCore c) m.tag.u with
    | some x, some t => if s.cmdHeld x.tag || elementBehind (s.core c).index.queue m x then s else f t m x
    | _, _ => s

/-- An element arrives: its bytes are placed or its writes acknowledged, and its bytes are credited (R386). -/
def execIndexElementArrival (c k e : Nat) (s : State) : Host.Outcome State Fault Refusal :=
  onUnit (coreOk c) (s.onElement c k e (fun t m x =>
    if !m.element then s
    else match s.elementRun t m e x with
      | .ok s => (s.modIdx c k (fun m => { m with els := del e m.els })).elementDone c k (ixSize m.desc) false
      | .wait n => s.meet n
      | .fault _ _ => s))

-- Parked elements (R388 to R393) ----------------------------------------------------------------------------------------------

/-- The sectors of a scatter element that are written before one is rejected (R388). -/
def State.writePrefix (s : State) (tag : Tag) (ia0 : Nat) (bs : List Byte) : List (Nat × Nat) → State
  | [] => s
  | (ia, n) :: ps => match s.cmdWrite tag ia ((bs.drop (ia - ia0)).take n) with
    | .ok s => s.writePrefix tag ia0 bs ps
    | _ => s

/-- A lost element (R389): the task's count rises, and 0x14 becomes pending with the number lost since the last. -/
def State.loseElement (s : State) (c : Nat) (m : IdxCmd) (e : Nat) : State :=
  let d := dieOfCore c
  let s := s.modTask d m.tag.u (fun t => { t with lost := Nat.min (t.lost + 1) (2 ^ 32 - 1) })
  let bump := fun (f : Map Deferred) => match find? 0x14 f with
    | some q => if bits q.info 63 61 = 0 then put 0x14 { q with info := w64 (setBitsN q.info.toNat 31 0 (Nat.min (bits q.info 31 0 + 1) (2 ^ 32 - 1))) } f else f
    | none => put 0x14 ⟨info14 0 m.slot m.tag.h 1, m.tag.va, if m.tag.h = 255 then some m.tag.tok else none, [], (m.results e).spad, []⟩ f
  match s.task? d m.tag.u with
  | none => s
  | some t => match t.ctx with
    | some g => s.modCtx g (fun k => { k with deferred := bump k.deferred })
    | none => s.setTask d m.tag.u { t with faults := bump t.faults }

/-- The context number of a task now, or of its command. -/
def Task.ctxNumber (t : Task) (g : Nat) : Nat := (t.ctx.getD g) % 4

/-- A faulted element is parked in the lowest free entry, or lost (R388, R389). -/
def State.park (s : State) (c k e : Nat) (t : Task) (m : IdxCmd) (x : Elem) (cause : Nat) : State :=
  let s := s.modIdx c k (fun m => { m with els := del e m.els })
  let ps := (s.core c).index.parked
  match (upFrom 0 1024).find? (fun n => (find? n ps).isNone) with
  | none => (s.loseElement c m e).elementDone c k 0 true
  | some n =>
    let kind := match m.op with | 0x28 => 0 | 0x29 => 1 | 0x2A => 2 | _ => 3
    s.modIndex c (fun i => { i with parked := put n ⟨k, m.tag.u, kind, m.slot, m.tag.h, cause, e, t.ctxNumber m.tag.g, x.ea, false⟩ i.parked })

/-- The bitmap access of item e of a wlins (R397): the word that holds the bit, by its VA. -/
def wiByte (m : IdxCmd) (y : Nat) : Nat := wrapN 64 ((bits m.bv 56 0 : Int) + (y / 8 : Nat))

/-- The test-and-set of an item. -/
def State.testAndSet (s : State) (x : Elem) : OneAtomic :=
  let b := x.ea % 4 * 8 + x.idx % 8
  s.atomicOne x.tag x.ord x.ia 4 (fun old => if bitN old b then old else old + 2 ^ b)

/-- An element faults at run time and is parked (R388). -/
def execElementPark (c k e : Nat) (s : State) : Host.Outcome State Fault Refusal :=
  onUnit (coreOk c) (s.onElement c k e (fun t m x =>
    if m.element then match s.elementRun t m e x with
      | .fault cause used =>
        let s := s.use used
        let s := if m.op = 0x29 && cause == 0x0F then
            s.writePrefix x.tag x.ia (s.spadRead c t (ixData m.desc + e * ixSize m.desc) (ixSize m.desc)) (sectorPieces 18 x.ia (ixSize m.desc))
          else s
        s.park c k e t m x cause
      | .wait n => s.meet n
      | .ok _ => s
    else match x.fault, x.ans with
      | some f, _ => s.park c k e t m x f
      | none, none => (match s.testAndSet x with | .fail f u => (s.use u).park c k e t m x f | .wait n => s.meet n | .ok _ _ => s)
      | _, _ => s))

/-- An entry as fqread shows it (R390). -/
def Park.toNat (p : Park) (n : Nat) : Nat :=
  2 ^ 127 + p.kind * 2 ^ 124 + p.slot * 2 ^ 120 + p.h * 2 ^ 112 + p.cause * 2 ^ 104 + p.elem * 2 ^ 88 + n * 2 ^ 78 + p.ctx * 2 ^ 64 + p.ea

/-- The entries of a task that a selection names, in ascending slot order (R391). -/
def parkedOf (ps : Map Park) (u : Nat) (sel : W64) : Map Park :=
  ps.filter (fun p => p.2.u == u && (bit sel 63 || p.1 == bits sel 9 0))

/-- An element of a gather that is dropped takes the fill value, cut to its size (R391). -/
def fillBytes (v n : Nat) : List Byte := ((List.replicate (n / 8 + 1) (bytesOf 8 v)).flatten).take n

/-- fdrop of one entry (R391). -/
def State.dropEntry (s : State) (c n : Nat) (p : Park) (fill : Nat) : State :=
  let s := s.modIndex c (fun x => { x with parked := del n x.parked })
  match find? p.cmd (s.core c).index.queue, s.task? (dieOfCore c) p.u with
  | some m, some t =>
    let s := if p.kind = 0 then s.spadWrite t.onCore t (ixData m.desc + p.elem * ixSize m.desc) (fillBytes fill (ixSize m.desc)) else s
    s.elementDone c p.cmd (if p.kind = 3 then m.z else ixSize m.desc) false
  | _, _ => s

/-- The entries of a task are abandoned: each is dropped with 0 (R392). -/
def State.abandonParked (s : State) (c u : Nat) : State :=
  (parkedOf (s.core c).index.parked u (2 ^ 63)).foldl (fun s p => s.dropEntry c p.1 p.2 0) s

/-- Item e of a work-list command's row, and whether it has an uncorrectable error. -/
def State.rowItem (s : State) (t : Task) (m : IdxCmd) (e : Nat) : Nat := ofBytes (s.spadRead t.onCore t (bits m.av 43 22 + m.z * e) m.z)
def State.badItem (s : State) (t : Task) (m : IdxCmd) (e : Nat) : Bool := s.spadBad t.onCore t (bits m.av 43 22 + m.z * e) m.z

/-- An item of a wlins enters flight: its byte's address and what it finds (R388, R397). -/
def State.startItem (s : State) (t : Task) (c k e : Nat) (m : IdxCmd) (tag : Tag) : State :=
  let y := s.rowItem t m e
  let ea := wiByte m y
  let x : Elem := ⟨s.nextId, y, ea, 0, tag, none, none⟩
  let go := fun (x : Elem) => ({ s with nextId := s.nextId + 1 }).modIdx c k (fun m => { m with els := put e x m.els })
  if s.badItem t m e then s.badElement c k e tag
  else match translate tag.wnd (ea / 4 * 4) 4 with
  | none => go { x with fault := some 5 }
  | some (ia, _) => match footprintMiss tag.card true ia 4 with
    | some b => (s.violate m.tag (fpInfo true b) Writes.none).elementDone c k 0 false
    | none => go { x with ia := ia }

/-- frep of one entry: the element is formed again with what stands at the frep (R391); that of a bad entry, which the engine reads there, parks again
with 0x16 (R36, R388; log 62). -/
def State.replayEntry (s : State) (c n : Nat) (p : Park) (tag : Tag) : State :=
  let s := s.modIndex c (fun x => { x with parked := del n x.parked })
  match find? p.cmd (s.core c).index.queue, s.task? (dieOfCore c) p.u with
  | some m, some t =>
    if p.bad then s.badElement c p.cmd p.elem tag
    else if p.kind = 3 then s.startItem t c p.cmd p.elem m tag
    else if s.badIndex t m p.elem then s.badElement c p.cmd p.elem tag
    else s.startElement c p.cmd p.elem m tag (s.listIndex t m p.elem)
  | _, _ => s

/-- A replay of an entry needs so many sectors of the request table (R382). -/
def State.replayReach (s : State) (c : Nat) (p : Park) : Nat := match find? p.cmd (s.core c).index.queue with | none => 0 | some m => m.reach

/-- The snapshot of fqread with n = 0 (R393). -/
def State.indexSnapshot (s : State) (c u g : Nat) (lost : Nat) : Nat :=
  let x := (s.core c).index
  let mine := (x.parked.filter (fun p => p.2.u == u)).length
  b2n (mine != 0) * 2 ^ 63 + b2n (find? 0x14 (s.ctx g).deferred).isSome * 2 ^ 62 + x.queue.length * 2 ^ 57 + mine * 2 ^ 44 +
    (1024 - x.parked.length) * 2 ^ 33 + lost

-- Work lists (R394 to R399) ---------------------------------------------------------------------------------------------------

/-- The fields of a header (R394). -/
structure WorkList where
  v : Bool
  brk : Bool
  w8 : Bool
  lcap : Nat
  hm : Nat
  ring : Nat
  scap : Nat
  spill : Nat
  wr : Nat
  rd : Nat
  srd : Nat
  swr : Nat
  pushed : Nat
  dups : Nat
deriving DecidableEq, Repr

def WorkList.z (w : WorkList) : Nat := if w.w8 then 8 else 4
def WorkList.rc (w : WorkList) : Nat := (w.wr + 2 ^ 32 - w.rd) % 2 ^ 32
def WorkList.sc (w : WorkList) : Nat := (w.swr + 2 ^ 64 - w.srd) % 2 ^ 64
/-- The room of wlpush (R396). -/
def WorkList.room (w : WorkList) : Nat := (w.hm - w.rc) + (if w.scap = 0 then 0 else 2 ^ w.scap - w.sc)

def WorkList.words (w : WorkList) : List W64 :=
  [w64 (b2n w.v * 2 ^ 63 + b2n w.brk * 2 ^ 62 + b2n w.w8 * 2 ^ 61 + w.lcap * 2 ^ 56 + w.hm * 2 ^ 39 + w.ring), w64 (w.scap * 2 ^ 58 + w.spill),
   w64 (w.wr * 2 ^ 32 + w.rd), w64 w.srd, w64 w.swr, w64 w.pushed, w64 w.dups, 0]

def WorkList.ofWords (ws : List W64) : WorkList :=
  let w0 := wordN ws 0
  ⟨bit w0 63, bit w0 62, bit w0 61, bits w0 60 56, bits w0 55 39, bits w0 21 0, bits (wordN ws 1) 63 58, bits (wordN ws 1) 56 0, bits (wordN ws 2) 63 32,
   bits (wordN ws 2) 31 0, (wordN ws 3).toNat, (wordN ws 4).toNat, (wordN ws 5).toNat, bits (wordN ws 6) 31 0⟩

/-- The list at a header: its fields, when the header and the ring are as the engine left them (R394, R399) and have no uncorrectable error. -/
def State.workList (s : State) (t : Task) (hdr : Nat) : Option WorkList :=
  let bs := s.spadRead t.onCore t hdr 64
  let w := WorkList.ofWords (wordsOf 8 bs)
  match find? hdr t.lists with
  | none => none
  | some old => if s.spadBad t.onCore t hdr 64 || s.spadBad t.onCore t w.ring (w.z * 2 ^ w.lcap) then none else if w.v && bs ++ s.spadRead t.onCore t w.ring (w.z * 2 ^ w.lcap) == old then some w else none

/-- The list written back, and what the engine left there noted. -/
def State.putList (s : State) (d u : Nat) (t : Task) (hdr : Nat) (w : WorkList) : State :=
  let bs := (w.words.map (fun x => bytesOf 8 x.toNat)).flatten
  let s := s.spadWrite t.onCore t hdr bs
  let img := bs ++ s.spadRead t.onCore t w.ring (w.z * 2 ^ w.lcap)
  s.modTask d u (fun t => { t with lists := put hdr img t.lists })

/-- What a list operation gives: a wait, a broken list, a footprint violation, or the state and the list. -/
inductive WlRan where
  | wait (need : Need)
  | broken (s : State) (w : WorkList)
  | violation (info : W64)
  | ok (s : State) (w : WorkList)

/-- The IA of spill item j (R394, R174, R124). -/
def spillAt (tag : Tag) (w : WorkList) (wr : Bool) (j : Nat) : Option (Nat ⊕ W64) :=
  match translate tag.wnd (w.spill + w.z * (j % 2 ^ w.scap)) w.z with
  | none => none
  | some (ia, _) => match footprintMiss tag.card wr ia w.z with
    | some x => some (.inr (fpInfo wr x))
    | none => some (.inl ia)

/-- One item pushed (R396). -/
def State.pushItem (s : State) (t : Task) (tag : Tag) (w : WorkList) (y : Nat) : WlRan :=
  if w.sc = 0 && decide (w.rc < w.hm) then
    .ok (s.spadWrite t.onCore t (w.ring + w.z * (w.wr % 2 ^ w.lcap)) (bytesOf w.z y)) { w with wr := (w.wr + 1) % 2 ^ 32 }
  else match spillAt tag w true w.swr with
    | none => .broken s { w with brk := true }
    | some (.inr i) => .violation i
    | some (.inl ia) => match s.cmdWrite tag ia (bytesOf w.z y) with
      | .wait n => .wait n
      | .fail _ _ u => .broken (s.use u) { w with brk := true }
      | .ok s => .ok s { w with swr := (w.swr + 1) % 2 ^ 64 }

def State.pushItems (s : State) (t : Task) (tag : Tag) (w : WorkList) : List Nat → WlRan
  | [] => .ok s w
  | y :: ys => match s.pushItem t tag w y with
    | .ok s w => s.pushItems t tag w ys
    | r => r

/-- The refill of the ring from the spill area (R396). -/
def State.refillList (s : State) (t : Task) (tag : Tag) : Nat → WorkList → WlRan
  | 0, w => .ok s w
  | n + 1, w =>
    if w.sc = 0 || decide (w.hm ≤ w.rc) then .ok s w
    else match spillAt tag w false w.srd with
      | none => .broken s { w with brk := true }
      | some (.inr i) => .violation i
      | some (.inl ia) => match s.cmdRead tag ia w.z with
        | .wait n => .wait n
        | .fail _ _ _ => .broken s { w with brk := true }
        | .ok bs =>
          let s := s.spadWrite t.onCore t (w.ring + w.z * (w.wr % 2 ^ w.lcap)) bs
          s.refillList t tag n { w with wr := (w.wr + 1) % 2 ^ 32, srd := (w.srd + 1) % 2 ^ 64 }

/-- A work-list command ends: its status goes to l5 (R402). -/
def State.endList (s : State) (c k : Nat) (m : IdxCmd) (st : Nat) : State :=
  (s.modIndex c (fun x => { x with queue := del k x.queue })).reportL5 m.tag st

/-- What a list command writes in scratchpad: the row of wlpop (R34, R396). -/
def IdxCmd.row (m : IdxCmd) : Writes := ⟨[], if m.op = 0x32 then [(bits m.av 43 22, 512)] else [], []⟩

/-- It faults with a sub-cause (R399, R401). -/
def State.faultList (s : State) (c k : Nat) (m : IdxCmd) (sub : Nat) : State :=
  let s := s.deferFault m.tag 0x14 (info14 sub m.slot m.tag.h (if sub = 1 then m.word else wnHdr m.av)) m.row
  s.endList c k m (ixStatus true sub m.cred)

/-- A violation ends the task; the command ends with it. -/
def State.violateList (s : State) (c k : Nat) (m : IdxCmd) (info : W64) : State := (s.violate m.tag info m.row).endList c k m (ixStatus false 0 m.cred)

/-- Items popped: c of them and the row (R396). -/
def State.popItems (s : State) (t : Task) (m : IdxCmd) (w : WorkList) : Nat × State × WorkList :=
  let n := Nat.min (bits m.av 50 44 + 1) w.rc
  let bs := ((upFrom 0 n).map (fun i => s.spadRead t.onCore t (w.ring + w.z * ((w.rd + i) % 2 ^ w.lcap)) w.z)).flatten
  (n, s.spadWrite t.onCore t (bits m.av 43 22) (bs ++ List.replicate (512 - n * w.z) 255), { w with rd := (w.rd + n) % 2 ^ 32 })

/-- The snapshot of wlstat (R398). -/
def WorkList.snapshot (w : WorkList) : Nat := b2n w.v * 2 ^ 63 + b2n w.brk * 2 ^ 62 + w.sc % 2 ^ 35 * 2 ^ 18 + w.rc % 2 ^ 17

/-- A saturating sum. -/
def satAdd (w x y : Nat) : Nat := Nat.min (x + y) (2 ^ w - 1)

/-- The effect of a work-list command on its list (R395 to R399). An uncorrectable error in the header, the ring or the row of wlpush rejects it
(R36, R448; log 80). -/
def State.listRun (s : State) (c k : Nat) (t : Task) (m : IdxCmd) : State :=
  let d := dieOfCore c
  let u := m.tag.u
  let hdr := wnHdr m.av
  let n := bits m.av 50 44 + 1
  if m.op = 0x30 then
    let w : WorkList := ⟨true, false, bit m.av 49, wnCap m.av, wnHm m.av, wnRing m.av, bits m.bv 62 57, bits m.bv 56 0, 0, 0, 0, 0, 0, 0⟩
    ((s.putList d u t hdr w).credit m.tag 64).endList c k m (ixStatus false 0 64)
  else if m.op = 0x34 && s.spadBad t.onCore t hdr 64 then s.faultList c k m 1
  else if m.op = 0x34 then s.endList c k m (WorkList.ofWords (wordsOf 8 (s.spadRead t.onCore t hdr 64))).snapshot
  else match s.workList t hdr with
    | none => s.faultList c k m 1
    | some w =>
      if w.brk then s.faultList c k m 2
      else if w.z != m.z then s.faultList c k m 1
      else if m.op = 0x32 then match s.refillList t m.tag w.hm w with
        | .wait n => s.meet n
        | .violation i => s.violateList c k m i
        | .broken s w => (s.putList d u t hdr w).faultList c k m 2
        | .ok s w =>
          let (cnt, s, w) := s.popItems t m w
          ((s.putList d u t hdr w).credit m.tag 512).endList c k m cnt
      else if w.room < n then s.faultList c k m 3
      else if m.op = 0x31 && (upFrom 0 n).any (s.badItem t m) then s.faultList c k m 1
      else if m.op = 0x31 then match s.pushItems t m.tag w ((upFrom 0 n).map (s.rowItem t m)) with
        | .wait n => s.meet n
        | .violation i => s.violateList c k m i
        | .broken s w => (s.putList d u t hdr w).faultList c k m 2
        | .ok s w =>
          ((s.putList d u t hdr { w with pushed := satAdd 64 w.pushed n }).credit m.tag (n * w.z)).endList c k m (ixStatus false 0 (n * w.z))
      else if !s.portRoom c n then s
      else
        let s := s.modIdx c k (fun m => { m with next := 1 })
        (upFrom 0 n).foldl (fun s e => s.startItem t c k e m m.tag) s

/-- frep replays the selected entries of the slots listed, in their order, as far as the request table has room (R382, R391); the command ends after
the last, with how many there were. -/
def State.replaySlots (s : State) (c k : Nat) (m : IdxCmd) : List W64 → State
  | [] => s.endList c k m m.left
  | n :: ns => match find? n.toNat (s.core c).index.parked with
    | none => s.replaySlots c k m ns
    | some p =>
      if s.portRoom c (s.replayReach c p) then (s.replayEntry c n.toNat p m.tag).replaySlots c k m ns
      else s.modIdx c k (fun m => { m with desc := n :: ns })

/-- frep is applied: the entries that it selects when it is first applied are replayed (R391). -/
def State.replay (s : State) (c k : Nat) (m : IdxCmd) (mine : Map Park) : State :=
  let m := if m.next = 0 then { m with next := 1, left := mine.length, desc := mine.map (fun p => w64 p.1) } else m
  (s.modIdx c k (fun _ => m)).replaySlots c k m m.desc

/-- The engine applies a work-list command, fqread, frep or fdrop, in issue order (R381). -/
def execIndexCommandApply (c k : Nat) (s : State) : Host.Outcome State Fault Refusal :=
  onUnit (coreOk c) (match find? k (s.core c).index.queue with
    | none => s
    | some m => match s.task? (dieOfCore c) m.tag.u with
      | none => s
      | some t =>
        if m.element || (m.op == 0x33 && m.next == 1) || !indexFirst (s.core c).index.queue k || s.cmdHeld m.tag then s
        else
          let mine := parkedOf (s.core c).index.parked m.tag.u m.av
          match m.op with
          | 0x2B =>
            if m.bv.toNat = 0 then
              let s := s.modIndex c (fun x => { x with queue := del k x.queue })
              s.reportL5 m.tag (s.indexSnapshot c m.tag.u m.tag.g t.lost)
            else
              let n := m.bv.toNat
              let ps := (parkedOf (s.core c).index.parked m.tag.u (2 ^ 63)).take n
              let es := ps.map (fun p => p.2.toNat p.1)
              let bs := ((es ++ List.replicate (n - es.length) 0).map (bytesOf 16)).flatten
              let s := (s.spadWrite c t m.av.toNat bs)
              let s := (ps.zip (upFrom 0 n)).foldl (fun s q => if q.1.2.bad then s.spoilSpad c t (m.av.toNat + 16 * q.2) 16 else s) s
              (s.credit m.tag (16 * n)).endList c k m (ixStatus false 0 (16 * n))
          | 0x2C => s.replay c k m mine
          | 0x2D => (mine.foldl (fun s p => s.dropEntry c p.1 p.2 m.bv.toNat) s).endList c k m mine.length
          | _ => s.listRun c k t m)

/-- The owner performs an item's test-and-set (R397). -/
def execBitmapTestAndSet (c k e : Nat) (s : State) : Host.Outcome State Fault Refusal :=
  onUnit (coreOk c) (s.onElement c k e (fun _ m x =>
    if m.element || x.fault.isSome || x.ans.isSome then s
    else match s.testAndSet x with
      | .ok old s => s.modIdx c k (fun m => { m with els := put e { x with ans := some (bitN old (x.ea % 4 * 8 + x.idx % 8)) } m.els })
      | .wait n => s.meet n
      | .fail _ _ => s))

/-- An item of a wlins has been answered and leaves flight: pushed, or a duplicate (R395, R397). -/
def State.itemDone (s : State) (c k e u : Nat) (t : Task) (m : IdxCmd) (w : WorkList) : State :=
  ((s.putList (dieOfCore c) u t (wnHdr m.av) w).modIdx c k (fun m => { m with els := del e m.els })).elementDone c k m.z false

/-- What follows the answer to an item's test-and-set: `old` says that its bit was set already. -/
def State.itemAnswer (s : State) (c k e : Nat) (t : Task) (m : IdxCmd) (x : Elem) (old : Bool) : State :=
  let u := m.tag.u
  match s.workList t (wnHdr m.av) with
  | none => s.faultList c k m 1
  | some w =>
    if w.brk then s.faultList c k m 2
    else if old then s.itemDone c k e u t m { w with dups := satAdd 32 w.dups 1 }
    else if w.room = 0 then s.faultList c k m 3
    else match s.pushItem t m.tag w x.idx with
      | .wait n => s.meet n
      | .violation i => s.violateList c k m i
      | .broken s w => (s.putList (dieOfCore c) u t (wnHdr m.av) w).faultList c k m 2
      | .ok s w => s.itemDone c k e u t m { w with pushed := satAdd 64 w.pushed 1 }

/-- The answer to an item's test-and-set, applied in item order (R397): the item is pushed, or counted as a duplicate, and credited. -/
def execTestAndSetAnswer (c k e : Nat) (s : State) : Host.Outcome State Fault Refusal :=
  onUnit (coreOk c) (match find? k (s.core c).index.queue with
    | none => s
    | some m => match find? e m.els, s.task? (dieOfCore c) m.tag.u with
      | some x, some t => (match x.ans with
        | none => s
        | some old => if m.els.any (fun y => decide (y.1 < e)) then s else s.itemAnswer c k e t m x old)
      | _, _ => s)

end Sys2Proof.Machine
end

