-- ==== Sys2Proof/Machine/Coll.lean ====
section
/-! DEFINITION. The collective engine and the fabric (R404 to R435): groups and members, operators and the canonical tree, reduction slots of the
switches, layout transforms, puts and gets, streams, queue messages, and token sampling. A switch stands for its tier and rank block (log 14). -/

namespace Sys2Proof.Machine

def State.modColl (s : State) (d : Nat) (f : CollUnit → CollUnit) : State := s.modDie d (fun k => { k with coll := f k.coll })
def State.grp (s : State) (d n : Nat) : Grp := getD n Grp.init (s.die d).coll.grps
def State.setGrp (s : State) (d n : Nat) (x : Grp) : State := s.modColl d (fun c => { c with grps := put n x c.grps })
def State.modCol (s : State) (d k : Nat) (f : ColCmd → ColCmd) : State :=
  match find? k (s.die d).coll.queue with
  | none => s
  | some m => s.modColl d (fun c => { c with queue := put k (f m) c.queue })

-- Operators (R416, R417) ------------------------------------------------------------------------------------------------------

/-- The size of an element of a collective. -/
def colElem (op typ : Nat) : Nat :=
  match op with
  | 3 => 8
  | 4 => 8
  | 8 => 4096
  | 9 => 32
  | _ => ((fmtOf typ).getD .raw).size

/-- An operator with its type and NaN mode as R416 and R417 allow them. -/
def colOpOk (op typ : Nat) (nsk : Bool) : Bool :=
  let f32 := typ == 0x22
  let bf := typ == 0x20
  let i32 := typ == 0x2A
  let n32 := typ == 0x2E
  (match op with
   | 0 => f32 || bf || i32
   | 1 => f32 || bf || i32 || n32
   | 2 => f32 || bf || i32 || n32
   | 3 => f32
   | 4 => f32
   | 5 => n32
   | 6 => n32
   | 7 => n32
   | 8 => typ == 0
   | 9 => typ == 0
   | _ => false) && (!nsk || f32 || bf)

/-- The order of the codes of a floating-point type of w bits: -0 below +0. -/
def fltKey (w c : Nat) : Int := if bitN c (w - 1) then -((c % 2 ^ (w - 1) : Nat) : Int) - 1 else ((c % 2 ^ (w - 1) : Nat) : Int)

/-- The format of a floating-point type of a collective. -/
def colFlt (typ : Nat) : Option FloatFmt := match fmtOf typ with | some (.flt f) => some f | _ => none

def isNanCode (f : FloatFmt) (c : Nat) : Bool := (f.decode c).isNan

/-- min and max of floating-point codes under .nanprop (R417): a NaN result is the canonical NaN, of two NaN operands too (R88; log 35). -/
def fltPick (f : FloatFmt) (mx : Bool) (l r : Nat) : Nat :=
  if isNanCode f l || isNanCode f r then f.nanCode
  else if mx then (if fltKey f.width l < fltKey f.width r then r else l) else (if fltKey f.width r < fltKey f.width l then r else l)

/-- A pair with its value made the canonical NaN (R88, R417). -/
def nanPair (p : Nat) : Nat := p / 2 ^ 32 * 2 ^ 32 + f32Fmt.nanCode

/-- minidx and maxidx (R416, R417). -/
def idxPick (mx : Bool) (l r : Nat) : Nat :=
  let (lv, rv) := (l % 2 ^ 32, r % 2 ^ 32)
  if isNanCode f32Fmt lv then nanPair l
  else if isNanCode f32Fmt rv then nanPair r
  else if lv = rv then (if r / 2 ^ 32 < l / 2 ^ 32 then r else l)
  else if mx then (if fltKey 32 lv < fltKey 32 rv then r else l) else (if fltKey 32 rv < fltKey 32 lv then r else l)

/-- The result of a node on one element (R416). -/
def colNode (op typ : Nat) (l r : Nat) : Nat :=
  match op with
  | 0 => (match colFlt typ with | some f => (f.addOp l r 0 true).1 | none => (l + r) % 2 ^ 32)
  | 1 => (match colFlt typ with
    | some f => fltPick f false l r
    | none => if typ = 0x2A then (if signedN 32 r < signedN 32 l then r else l) else Nat.min l r)
  | 2 => (match colFlt typ with
    | some f => fltPick f true l r
    | none => if typ = 0x2A then (if signedN 32 l < signedN 32 r then r else l) else Nat.max l r)
  | 3 => idxPick false l r
  | 4 => idxPick true l r
  | 5 => l ||| r
  | 6 => l &&& r
  | _ => l ^^^ r

/-- The identity of an operator on min, max, minidx and maxidx of floating-point types (R416). -/
def colIdentity (op typ : Nat) : Nat :=
  match op with
  | 1 => (match colFlt typ with | some f => f.infCode false | none => 0)
  | 2 => (match colFlt typ with | some f => f.infCode true | none => 0)
  | 3 => 0xFFFFFFFF * 2 ^ 32 + f32Fmt.infCode false
  | 4 => 0xFFFFFFFF * 2 ^ 32 + f32Fmt.infCode true
  | _ => 0

/-- The elements of n bytes of a payload. -/
def elemsOf (n : Nat) : Nat → List Byte → List Nat
  | 0, _ => []
  | k + 1, bs => ofBytes (bs.take n) :: elemsOf n k (bs.drop n)

/-- dmerge on the bytes of two objects (R319). -/
def dmergeBytes (d r : List Byte) : List Byte :=
  dcImage (sat64 (imgN d 0 8 + imgN r 0 8)) (imgN d 8 8) (((dcRegs d).zip (dcRegs r)).map (fun p => Nat.max p.1 p.2))

/-- A payload of objects merged, n bytes at a time. -/
def mergeObjects (n : Nat) (f : List Byte → List Byte → List Byte) : Nat → List Byte → List Byte → List Byte
  | 0, _, _ => []
  | k + 1, l, r => f (l.take n) (r.take n) ++ mergeObjects n f k (l.drop n) (r.drop n)

/-- A node on two payloads of one chunk. -/
def colMerge (sg : ColSig) (l r : List Byte) : List Byte :=
  match sg.op with
  | 8 => mergeObjects 4096 dmergeBytes (l.length / 4096) l r
  | 9 => mergeObjects 32 mmergeBytes (l.length / 32) l r
  | _ =>
    let n := colElem sg.op sg.typ
    let k := l.length / n
    (((elemsOf n k l).zip (elemsOf n k r)).map (fun p => bytesOf n (colNode sg.op sg.typ p.1 p.2))).flatten

/-- A NaN element under .nanskip (R417). -/
def skipNan (op typ x : Nat) : Bool :=
  match op with
  | 1 => (match colFlt typ with | some f => isNanCode f x | none => false)
  | 2 => (match colFlt typ with | some f => isNanCode f x | none => false)
  | 3 => isNanCode f32Fmt (x % 2 ^ 32)
  | 4 => isNanCode f32Fmt (x % 2 ^ 32)
  | _ => false

/-- A contribution's payload with NaN replaced by the identity under .nanskip, and whether one was (R417). -/
def nanSkipped (sg : ColSig) (bs : List Byte) : List Byte × Bool :=
  if !sg.nsk then (bs, false)
  else
    let n := colElem sg.op sg.typ
    let xs := elemsOf n (bs.length / n) bs
    ((xs.map (fun x => bytesOf n (if skipNan sg.op sg.typ x then colIdentity sg.op sg.typ else x))).flatten, xs.any (skipNan sg.op sg.typ))

-- The canonical tree and the switches (R411 to R415) --------------------------------------------------------------------------

/-- A node of the tree on two operands that may be absent (R412); payloads that are gathered stay apart, by rank. -/
def colJoin (gather : Bool) (sg : ColSig) (l r : Option ColPart) : Option ColPart :=
  match l, r with
  | none, r => r
  | l, none => l
  | some a, some b =>
    let data := if gather then b.data.foldl (fun m x => put x.1 x.2 m) a.data else [(0, colMerge sg (getD 0 [] a.data) (getD 0 [] b.data))]
    some ⟨a.who ++ b.who, data, a.nan || b.nan, a.miss ++ b.miss⟩

/-- The node of the tree over 2^k children from child `lo` on. -/
def colTree (gather : Bool) (sg : ColSig) (ps : Map ColPart) : Nat → Nat → Option ColPart
  | 0, lo => find? lo ps
  | k + 1, lo => colJoin gather sg (colTree gather sg ps k lo) (colTree gather sg ps k (lo + 2 ^ k))

/-- The ranks of an exchange, and whether one of n ranks from lo on is among them. -/
def Ranks.list (x : Ranks) : List Nat := (upFrom 0 x.count).map (fun q => x.first + x.step * q)
def Ranks.hits (x : Ranks) (lo n : Nat) : Bool :=
  let q := (lo - x.first + x.step - 1) / x.step
  decide (q < x.count) && decide (x.first + x.step * q < lo + n)

/-- log2 of the ranks below a switch of tier k; 0 for a member. -/
def State.tierBits (s : State) (k : Nat) : Nat := if k = 0 then 0 else s.tiers.getD (k - 1) 11

/-- The tier whose switch joins all n ranks. -/
def State.rootTier (s : State) (n : Nat) : Nat :=
  match ((upFrom 1 s.tiers.length).find? (fun k => decide (n ≤ 2 ^ s.tierBits k))) with
  | some k => k
  | none => s.tiers.length

/-- The children of a slot that hold ranks that take part. -/
def State.slotKids (s : State) (q : Slot) : List Nat :=
  let f := s.tierBits q.tier
  let g := s.tierBits (q.tier - 1)
  (upFrom (q.block * 2 ^ (f - g)) (2 ^ (f - g))).filter (fun i => q.sub.hits (i * 2 ^ g) (2 ^ g))

/-- What a slot holds, combined, with the ranks of absent children missing (R412, R414). -/
def State.slotPart (s : State) (q : Slot) : ColPart :=
  let f := s.tierBits q.tier
  let g := s.tierBits (q.tier - 1)
  let gone := ((s.slotKids q).filter (fun i => (find? i q.parts).isNone)).map (fun i => q.sub.list.filter (fun r => decide (i * 2 ^ g ≤ r) && decide (r < (i + 1) * 2 ^ g)))
  match colTree q.gather q.sig q.parts (f - g) (q.block * 2 ^ (f - g)) with
  | none => ⟨[], [], false, gone.flatten⟩
  | some p => { p with miss := p.miss ++ gone.flatten }

/-- A slot stands for the key of a contribution at its switch; one that is freed, and waits only to pass on a result, does not. -/
def Slot.keyOf (q : Slot) (m : ColMsg) : Bool :=
  q.grp == m.grp && q.seq == m.seq && q.chunk == m.chunk && q.tier == m.tier && q.block == m.block && q.phase != 5

/-- The slot that a contribution meets: that of its exchange, or one of its key whose signature is another or that has failed (R413, R422). -/
def State.slotFor (s : State) (m : ColMsg) : Option (Nat × Slot) :=
  s.slots.find? (fun q => q.2.keyOf m && (m.bad || q.2.sub == m.sub || q.2.sig != m.sig || q.2.phase == 4))

def State.setSlot (s : State) (i : Nat) (q : Slot) : State := { s with slots := put i q s.slots }
def State.dropSlot (s : State) (i : Nat) : State := { s with slots := del i s.slots }

/-- The key of an expiry mark (R414). -/
def markKey (tier block grp : Nat) : Nat := (tier * 2048 + block) * 65536 + grp

/-- A sequence number is at or below a mark, modulo 2^32. -/
def seqAtMost (a m : Nat) : Bool := decide ((m + 2 ^ 32 - a) % 2 ^ 32 < 2 ^ 31)

/-- Answers sent down to members (R415). -/
def State.answerMembers (s : State) (m : ColMsg) (who : List (Nat × Nat)) (ans : Nat) (p : ColPart) : State :=
  who.foldl (fun s w =>
    let (id, s) := s.fresh
    let p := if ans = 2 then { p with miss := (upFrom 0 m.n).filter (fun r => r != w.1) } else p
    { s with colMsgs := put id { m with up := false, part := p, rank := w.1, die := w.2, ans := ans, refused := none } s.colMsgs }) s

/-- A contribution passed up to the switch of the next tier. -/
def State.passUp (s : State) (m : ColMsg) (q : Slot) (p : ColPart) (bad : Bool) : State :=
  let (id, s) := s.fresh
  let block := q.block * 2 ^ s.tierBits q.tier / 2 ^ s.tierBits (q.tier + 1)
  { s with colMsgs := put id { m with up := true, tier := q.tier + 1, block := block, idx := q.block, tmo := q.tmo, sig := q.sig, bad := bad, part := p, refused := none } s.colMsgs }

/-- What reaches the slots of a key below a switch, with the answer `ans` to what they passed up: one that waited for its result is freed; one in its
late window takes the result, or that there is none, and answers what it holds; one that is told of a failure fails, whatever its exchange; one that only
held what came late is gone then (R411, R413, R414). -/
def State.settle (s : State) (m : ColMsg) (tier block : Nat) (ans : Nat) (p : ColPart) : State :=
  s.slots.foldl (fun s x =>
    let y := x.2
    if y.grp == m.grp && y.seq == m.seq && y.chunk == m.chunk && (ans == 3 || y.sub == m.sub) && decide (y.tier ≤ tier) &&
        y.block * 2 ^ s.tierBits y.tier / 2 ^ s.tierBits tier == block then
      let late := if ans = 0 then 1 else ans
      match y.phase with
      | 1 => s.dropSlot x.1
      | 2 =>
        let z := if ans = 3 then { y with phase := 4, late := [], parts := [], failed := ((y.parts.map (fun q => q.2.who)).flatten ++ y.late).length }
          else { y with phase := 3, res := if ans = 2 then none else some p, late := [] }
        (s.setSlot x.1 z).answerMembers m y.late late p
      | 5 => (s.dropSlot x.1).answerMembers m y.late late p
      | _ => s
    else s) s

/-- The slots below a slot are settled. -/
def State.settleBelow (s : State) (q : Slot) (m : ColMsg) (ans : Nat) (p : ColPart) : State :=
  (upFrom (q.block * 2 ^ (s.tierBits q.tier - s.tierBits (q.tier - 1))) (2 ^ (s.tierBits q.tier - s.tierBits (q.tier - 1)))).foldl
    (fun s b => s.settle m (q.tier - 1) b ans p) s

/-- The answer to a contribution that a switch takes part in no combining of goes to its members, and to the slots that passed it up. -/
def State.turnBack (s : State) (m : ColMsg) (ans : Nat) (p : ColPart) : State :=
  (s.answerMembers m m.part.who ans p).settle m (m.tier - 1) m.idx ans p

/-- A message that stands for a slot. -/
def Slot.msg (q : Slot) : ColMsg :=
  { grp := q.grp, seq := q.seq, chunk := q.chunk, n := q.n, sub := q.sub, gather := q.gather, tmo := q.tmo, sig := q.sig, up := false, tier := q.tier, block := q.block, idx := 0, bad := false,
    part := ⟨[], [], false, []⟩, rank := 0, die := 0, ans := 0, refused := none }

/-- The payloads of missing ranks in what a root has gathered: values that the spec leaves open, the same for every member (R415, R422; log 44). -/
def State.fillMissing (s : State) (q : Slot) (p : ColPart) : ColPart × State :=
  if !q.gather then (p, s)
  else ({ p with data := (p.miss.zip (upFrom 0 p.miss.length)).foldl (fun m x =>
            put x.1 ((upFrom 0 512).map (fun i => bytesOf 8 (Config.freeWord (s.free + 512 * x.2 + i)).toNat)).flatten m) p.data },
        { s with free := s.free + 512 * p.miss.length })

/-- A slot is complete or times out: its root's result goes down, and otherwise what it holds goes up (R411, R412, R414). `phase` is that of a
slot that stays. -/
def State.slotDone (s : State) (i : Nat) (q : Slot) (timeout : Bool) : State :=
  let p := s.slotPart q
  if q.tier = s.rootTier q.n then
    let (p, s) := s.fillMissing q p
    let s := (s.answerMembers q.msg p.who 0 p).settleBelow q q.msg 0 p
    if timeout then s.setSlot i { q with phase := 3, since := s.tick, res := some p } else s.dropSlot i
  else
    let s := s.passUp q.msg q p false
    s.setSlot i { q with phase := if timeout then 2 else 1, since := s.tick }

/-- The ranks below a slot. -/
def State.slotRanks (s : State) (q : Slot) : Nat :=
  ((upFrom (q.block * 2 ^ s.tierBits q.tier) (2 ^ s.tierBits q.tier)).filter (fun r => decide (r < q.n))).length

/-- Ranks below a failed slot that have been answered with failure: the slot above counts them too, unless its result is already there, and it is freed
when all have been (R413). -/
def State.countFailed (s : State) (i : Nat) (q : Slot) (who : List (Nat × Nat)) (up : Bool := true) : State :=
  let s := if q.tier = s.rootTier q.n || !up then s else s.passUp q.msg q ⟨who, [], false, []⟩ true
  let q := { q with failed := q.failed + who.length }
  if s.slotRanks q ≤ q.failed then s.dropSlot i else s.setSlot i q

/-- The contributions that a slot holds and has not passed up. -/
def Slot.holding (q : Slot) : List (Nat × Nat) := if q.phase = 0 then (q.parts.map (fun p => p.2.who)).flatten else q.late

/-- A slot fails (R413): what it and the other slots of its key at the switch hold, and `more`, is answered with failure; `told` has been below. What it
has passed up is answered above. -/
def State.failSlot (s : State) (i : Nat) (q : Slot) (more told : List (Nat × Nat)) : State :=
  let others := s.slots.filter (fun y => y.1 != i && y.2.keyOf q.msg && decide (y.2.phase < 4))
  let who := q.holding ++ (others.map (fun y => y.2.holding)).flatten ++ more
  let s := others.foldl (fun s y => s.dropSlot y.1) s
  let s := (s.answerMembers q.msg who 3 ⟨[], [], false, []⟩).settleBelow q q.msg 3 ⟨[], [], false, []⟩
  let above := if q.phase = 0 then 0 else ((q.parts.map (fun p => p.2.who)).flatten).length
  s.countFailed i { q with phase := 4, parts := [], late := [], failed := q.failed + above } (who ++ told) (q.phase != 3)

/-- A contribution reaches a switch (R411, R413, R414). -/
def execSlotContributionArrival (id : Nat) (s : State) : Host.Outcome State Fault Refusal :=
  .next (match find? id s.colMsgs with
    | none => s
    | some m =>
      if !m.up || m.refused.isSome then s
      else
        let taken := { s with colMsgs := del id s.colMsgs }
        match s.slotFor m with
        | none =>
          if (match find? (markKey m.tier m.block m.grp) s.marks with | some k => seqAtMost m.seq k | none => false) then
            (if m.bad then taken else taken.turnBack m 2 ⟨[], [], false, []⟩)
          else if 16384 ≤ (s.slots.filter (fun q => q.2.tier == m.tier && q.2.block == m.block && q.2.phase != 5)).length then
            { s with colMsgs := put id { m with refused := some s.tick } s.colMsgs }
          else
            let (i, s) := taken.fresh
            let q : Slot := ⟨m.grp, m.seq, m.chunk, m.tier, m.block, m.n, m.sub, m.gather, m.tmo, s.tick, m.sig, [(m.idx, m.part)], 0, 0, [], none, 0⟩
            if m.bad then s.failSlot i { q with parts := [] } [] m.part.who
            else if (s.slotKids q).length ≤ 1 then s.slotDone i q false else s.setSlot i q
        | some (i, q) =>
          if q.phase = 4 then (if m.bad then taken else taken.turnBack m 3 ⟨[], [], false, []⟩).countFailed i q m.part.who
          else if m.bad then taken.failSlot i q [] m.part.who
          else if m.sig != q.sig then taken.failSlot i q m.part.who []
          else match q.phase with
            | 0 =>
              let q := { q with parts := put m.idx m.part q.parts }
              if (s.slotKids q).all (fun k => (find? k q.parts).isSome) then taken.slotDone i q false else taken.setSlot i q
            | 1 => taken
            | 2 => taken.setSlot i { q with late := q.late ++ m.part.who }
            | _ => taken.turnBack m (if q.res.isSome then 1 else 2) (q.res.getD ⟨[], [], false, []⟩))

/-- A refused contribution is sent again 64 ticks later (R411). -/
def execContributionRefusedResend (id : Nat) (s : State) : Host.Outcome State Fault Refusal :=
  .next (match find? id s.colMsgs with
    | none => s
    | some m => match m.refused with
      | some t => if t + 64 ≤ s.tick then { s with colMsgs := put id { m with refused := none } s.colMsgs } else s
      | none => s)

/-- A slot times out (R414); one that has failed before is freed (R413). -/
def execSlotTimeout (i : Nat) (s : State) : Host.Outcome State Fault Refusal :=
  .next (match find? i s.slots with
    | none => s
    | some q =>
      if s.tick < q.alloc + q.tier * q.tmo then s
      else if q.phase = 0 then s.slotDone i q true
      else if q.phase = 4 && q.since = 0 then s.dropSlot i
      else s)

/-- The late window ends: the slot frees and the expiry mark rises; contributions still held stay so until the result arrives (R414). -/
def execLateWindowEnd (i : Nat) (s : State) : Host.Outcome State Fault Refusal :=
  .next (match find? i s.slots with
    | none => s
    | some q =>
      if q.phase < 2 || q.phase = 5 || q.since = 0 || decide (s.tick < q.since + q.tmo) then s
      else
        let key := markKey q.tier q.block q.grp
        let mark := match find? key s.marks with | some k => if seqAtMost q.seq k then k else q.seq | none => q.seq
        { (if q.phase = 2 && !q.late.isEmpty then s.setSlot i { q with phase := 5 } else s.dropSlot i) with marks := put key mark s.marks })

-- Layout transforms (R421, R422) ----------------------------------------------------------------------------------------------

/-- The fields of a layout descriptor. -/
def layAxes (ws : List W64) : Nat := bits (wordN ws 0) 1 0 + 1
def layDims (ws : List W64) : Nat := bits (wordN ws 0) 5 2 + 1
def layFmt (ws : List W64) : Nat := bits (wordN ws 0) 11 6
def layPart (ws : List W64) (a : Nat) : Bool := bit (wordN ws 0) (12 + a)
def layLog (ws : List W64) (a : Nat) : Nat := bits (wordN ws 0) (35 + 4 * a) (32 + 4 * a)
def laySize (ws : List W64) (k : Nat) : Nat := bits (wordN ws (k + 1)) 39 0
def layAxis (ws : List W64) (k : Nat) : Nat := bits (wordN ws (k + 1)) 42 40

/-- The dimension that an axis shards. -/
def layShards (ws : List W64) (a : Nat) : List Nat := (upFrom 0 (layDims ws)).filter (fun k => layAxis ws k == a)

/-- The local size of a dimension. -/
def layLocal (ws : List W64) (k : Nat) : Nat := if layAxis ws k < 4 then laySize ws k / 2 ^ layLog ws (layAxis ws k) else laySize ws k

/-- A layout descriptor within its limits, for a group of n ranks (R421). -/
def layOk (ws : List W64) (n : Nat) : Bool :=
  let w0 := wordN ws 0
  bits w0 63 48 == 0 && bits w0 31 16 == 0 && decide (layDims ws ≤ 12) && laneCodeOk (layFmt ws) &&
  (upFrom 0 4).all (fun a => decide (a < layAxes ws) || (layLog ws a == 0 && !layPart ws a)) &&
  ((upFrom 0 4).map (layLog ws)).foldl (fun p l => p * 2 ^ l) 1 == n &&
  (upFrom 0 15).all (fun k => if k < layDims ws then bits (wordN ws (k + 1)) 63 43 == 0 && laySize ws k != 0 && (layAxis ws k == 7 || decide (layAxis ws k < layAxes ws))
    else wordN ws (k + 1) == 0) &&
  (upFrom 0 4).all (fun a => decide ((layShards ws a).length + b2n (layPart ws a) ≤ 1)) &&
  (upFrom 0 (layDims ws)).all (fun k => decide (4 ≤ layAxis ws k) || laySize ws k % 2 ^ layLog ws (layAxis ws k) == 0)

/-- The bytes of a shard, and of the whole tensor. -/
def laySpan (ws : List W64) : Nat := ((upFrom 0 (layDims ws)).map (layLocal ws)).foldl (· * ·) ((fmtOf (layFmt ws)).getD .raw).size
def layTotal (ws : List W64) : Nat := ((upFrom 0 (layDims ws)).map (laySize ws)).foldl (· * ·) ((fmtOf (layFmt ws)).getD .raw).size

/-- A pair of layouts from which a transform is derived (R421). -/
def layPairOk (a b : List W64) (n len : Nat) : Bool :=
  layOk a n && layOk b n && bits (wordN a 0) 11 0 == bits (wordN b 0) 11 0 && bits (wordN a 0) 47 32 == bits (wordN b 0) 47 32 &&
  (upFrom 0 12).all (fun k => laySize a k == laySize b k) && (upFrom 0 4).all (fun x => !layPart b x) &&
  (!(upFrom 0 4).any (layPart a) || layFmt a == 0x22 || layFmt a == 0x20 || layFmt a == 0x2A) && laySpan b == len

/-- The layout hash (R421). -/
def layHash (ws : List W64) : Nat := ws.foldl (fun h w => chash h w.toNat) 0

/-- The coordinate of a rank on an axis: the last axis varies fastest (R421). -/
def layWeight (ws : List W64) (a : Nat) : Nat := ((upFrom (a + 1) (layAxes ws - 1 - a)).map (layLog ws)).foldl (fun p l => p * 2 ^ l) 1
def layCoord (ws : List W64) (r a : Nat) : Nat := r / layWeight ws a % 2 ^ layLog ws a
/-- The rank with the coordinate on an axis replaced. -/
def layMove (ws : List W64) (r a q : Nat) : Nat := r - layCoord ws r a * layWeight ws a + q * layWeight ws a

/-- An element of a layout in bytes. -/
def layElem (ws : List W64) : Nat := ((fmtOf (layFmt ws)).getD .raw).size

/-- The block of dimension k that a rank holds in a layout: its first index and its length. -/
def layBlock (ws : List W64) (r k : Nat) : Nat × Nat :=
  let l := layLocal ws k
  (if layAxis ws k < 4 then layCoord ws r (layAxis ws k) * l else 0, l)

/-- The indices of dimension k that rank r holds once the axes below a have taken their state in the destination: those of its source block while the
axis of that is still to come, and of its destination block once the axis of that is done (R422). -/
def layHeld (src dst : List W64) (a r k : Nat) : Nat × Nat :=
  let (x, m) := if a ≤ layAxis src k then layBlock src r k else (0, laySize src k)
  let (y, n) := if layAxis dst k < a then layBlock dst r k else (0, laySize src k)
  (Nat.max x y, Nat.min (x + m) (y + n) - Nat.max x y)

/-- How many elements that is. -/
def heldCount (src dst : List W64) (a r : Nat) : Nat := ((upFrom 0 (layDims src)).map (fun k => (layHeld src dst a r k).2)).foldl (· * ·) 1

/-- The global indices of those elements, in the order in which a shard is stored: row-major, the highest-numbered dimension fastest (R422). -/
def heldIndices (src dst : List W64) (a r : Nat) : List (List Nat) :=
  (upFrom 0 (heldCount src dst a r)).map (fun j =>
    ((upFrom 0 (layDims src)).reverse.foldl (fun (p : List Nat × Nat) k =>
      let (lo, l) := layHeld src dst a r k
      ((lo + p.2 % l) :: p.1, p.2 / l)) ([], j)).1)

/-- The place in bytes of the element at global indices among them. -/
def heldByte (src dst : List W64) (a r : Nat) (xs : List Nat) : Nat :=
  layElem src * ((upFrom 0 (layDims src)).zip xs).foldl (fun o p => let (lo, l) := layHeld src dst a r p.1; o * l + (p.2 - lo)) 0

/-- An axis has an exchange with traffic: it is partial, or shards a dimension that it does not shard in the destination (R422). -/
def layMoves (src dst : List W64) (a : Nat) : Bool :=
  layLog src a != 0 && (layPart src a || (match (layShards src a).head? with | some k => layAxis dst k != a | none => false))

/-- The exchanges of a transform, by their axes in ascending order (R422). -/
def exchanges (src dst : List W64) : List Nat := (upFrom 0 (layAxes src)).filter (layMoves src dst)

/-- The ranks that differ from r only in coordinate a. -/
def axisRanks (ws : List W64) (r a : Nat) : Ranks := ⟨layMove ws r a 0, layWeight ws a, 2 ^ layLog ws a⟩

/-- The chunks of the exchange on axis a, in a group of n ranks (R411, R422). -/
def exchangeChunks (src dst : List W64) (n a : Nat) : Nat :=
  (upFrom 0 n).foldl (fun m r => Nat.max m ((layElem src * heldCount src dst a r + 4095) / 4096)) 0

/-- Where rank r finds the element at global indices in the exchange on axis a: the rank whose payload holds it, 0 for a sum, and its byte there. -/
def exchangeSource (src dst : List W64) (a r : Nat) (xs : List Nat) : Nat × Nat :=
  if layPart src a then (0, heldByte src dst a r xs)
  else
    let k := (layShards src a).headD 0
    let q := layMove src r a (xs.getD k 0 / layLocal src k)
    (q, heldByte src dst a q xs)

/-- n bytes of the answers to an exchange, whose first chunk has number `base`, at a byte of a rank's payload. -/
def exchangeBytes (base n : Nat) (got : Map ColAns) (p : Nat × Nat) : List Byte :=
  match find? (base + p.2 / 4096) got with
  | some a => ((getD p.1 [] a.data).drop (p.2 % 4096)).take n
  | none => []

/-- What a rank that holds `bs` with the axes below a done holds with those below b done, where none of the axes between has traffic (R422). -/
def localSlice (src dst : List W64) (r a b : Nat) (bs : List Byte) : List Byte :=
  if a = b then bs else ((heldIndices src dst b r).map (fun xs => (bs.drop (heldByte src dst a r xs)).take (layElem src))).flatten

/-- The elements of the destination shard of a rank that chunk c of the exchange on axis a brings, each with its offset (R411, R422, R432). -/
def transformed (src dst : List W64) (data : Map (List Byte)) (r a c : Nat) : List (Nat × List Byte) :=
  let n := layElem src
  let xs := heldIndices src dst (layAxes src) r
  (xs.zip (upFrom 0 xs.length)).filterMap (fun x =>
    let (q, o) := exchangeSource src dst a r x.1
    if o / 4096 = c then some (n * x.2, ((getD q [] data).drop (o % 4096)).take n) else none)

/-- Pieces that adjoin, joined. -/
def joinPieces : List (Nat × List Byte) → List (Nat × List Byte)
  | [] => []
  | p :: ps => match joinPieces ps with
    | [] => [p]
    | q :: qs => if p.1 + p.2.length = q.1 then (p.1, p.2 ++ q.2) :: qs else p :: q :: qs

-- Token sampling (R427, R428) -------------------------------------------------------------------------------------------------

def smpMasked (ws : List W64) : Bool := bit (wordN ws 0) 63
def smpCount (ws : List W64) : Nat := bits (wordN ws 0) 47 32 + 1
def smpLogits (ws : List W64) : Nat := bits (wordN ws 0) 21 0
def smpRes (ws : List W64) : Nat := bits (wordN ws 1) 53 32
def smpMask (ws : List W64) : Nat := bits (wordN ws 1) 21 0
def smpTrp (ws : List W64) : Bool := bit (wordN ws 2) 48
def smpGrp (ws : List W64) : Nat := bits (wordN ws 2) 47 32
def smpTemp (ws : List W64) : Nat := bits (wordN ws 2) 31 0
def smpOk (ws : List W64) : Bool :=
  onlyFields (wordN ws 0) [(63, 63), (47, 32), (21, 0)] && onlyFields (wordN ws 1) [(53, 32), (21, 0)] && onlyFields (wordN ws 2) [(48, 0)] &&
    onlyFields (wordN ws 3) [(31, 0)] && wordN ws 5 == 0 && wordN ws 6 == 0 && wordN ws 7 == 0

/-- The noise g of R428 as an f32 code. -/
def gumbel (seed gi : Nat) : Nat :=
  let c := chash seed gi
  match lnReal (2 * c + 1) (-33) with
  | .fin _ m e => encF32 (lnReal m e).negate
  | x => encF32 x

/-- The mode of R428: 0 greedy, 1 uniform, 2 scaled, 3 bad. -/
def smpMode (t : Nat) : Nat :=
  let x := decF32 t
  if x.isNan || (x.neg? && !x.isZero) then 3
  else if x.isZero || x.lt (.fin false 1 (-24)) then 0
  else if x.isInf then 1 else 2

/-- The value y of a logit (R428). -/
def smpValue (mode t seed gi x : Nat) : Nat :=
  match mode with
  | 0 => x
  | 1 => gumbel seed gi
  | _ => encF32 ((decF32 (encF32 ((decF32 x).div (decF32 t)))).add 0 (decF32 (gumbel seed gi)))

/-- The candidate of a member and NaN-seen (R428). -/
def smpCandidate (ws : List W64) (logits : List Nat) (mask : Nat → Bool) : Nat × Bool :=
  let mode := smpMode (smpTemp ws)
  let seed := (wordN ws 4).toNat
  let r := (logits.zip (upFrom 0 logits.length)).foldl (fun (p : Nat × Bool) x =>
    if !mask x.2 then p
    else
      let gi := (bits (wordN ws 3) 31 0 + x.2) % 2 ^ 32
      let y := smpValue mode (smpTemp ws) seed gi x.1
      if isNanCode f32Fmt y then (p.1, true) else (idxPick true p.1 (gi * 2 ^ 32 + y), p.2)) (colIdentity 4 0x22, false)
  if mode = 3 then (colIdentity 4 0x22, false) else r

-- Issue (R408, R409, R431) ----------------------------------------------------------------------------------------------------

/-- A command that takes a sequence number (R409). -/
def numbered (op : Nat) : Bool := op == 0x3B || op == 0x3C || op == 0x3D || op == 0x3E

/-- A command's fields at issue, before it is numbered. -/
def ColCmd.blank (tag : Tag) (op word : Nat) (av bv : W64) (grp : Nat) (x : Grp) : ColCmd :=
  { tag := tag, node := false, op := op, word := word, av := av, bv := bv, rej := false, grp := grp, n := x.n, rank := x.rank, tmo := 2 ^ (x.ltmo + 8), seq := 0,
    sig := ⟨0, 0, 0, false, 0, 0, 0⟩, ws := [], lay := [], sbase := 0, dbase := 0, ssp := false, dsp := false, trp := false, sta := none, total := 0, phase := 0,
    got := [], exch := 0, held := [], pos := 0, cred := 0, fault := none }

/-- The issuing task is the member task of a group (R408). -/
def State.isMember (s : State) (grp : Nat) : Bool := let x := s.grp s.myDie grp; x.v && x.member == s.pre.task && x.member.isSome

/-- The collectives of a die in flight (R430). -/
def collectives (q : Map ColCmd) : Nat := (q.filter (fun m => numbered m.2.op)).length

/-- A command enters the engine's queue: rejected ones arm nothing (R430, R431); a member's collective takes its number (R409). -/
def State.enterColl (s : State) (t : Task) (h : BitVec 8) (op : Nat) (av bv : W64) (grp total : Nat) (rej : Bool) (f : ColCmd → ColCmd) : State :=
  let d := s.myDie
  s.issueQueued t h (if rej then 0 else total) (s.refusal6 h) (decide (64 ≤ collectives (s.die d).coll.queue)) (fun tag s =>
    let x := s.grp d grp
    let takes := numbered op && s.isMember grp
    let m := f (ColCmd.blank tag op s.bun.word.toNat av bv grp x)
    let m := { m with rej := rej, total := if rej then 0 else total, seq := if takes then x.seq else 0 }
    let s := if takes then s.setGrp d grp { x with seq := (x.seq + 1) % 2 ^ 32 } else s
    s.modColl d (fun c => { c with queue := put tag.tok m c.queue }))

/-- The descriptor of a command, 64-byte or 32-byte aligned, in usable scratchpad or the barrier page (R418, R431). -/
def State.colDesc (s : State) (t : Task) (a n : Nat) (k : List W64 → State) : State :=
  s.engineSpad t false a n n true (k (wordsOf (n / 8) (s.spadRead s.myCore t a n)))

/-- A local extent (R431): its base. An empty one, of a malformed descriptor, has no byte to check. -/
def State.colSide (s : State) (t : Task) (wr scratch : Bool) (a n : Nat) (k : Nat → State) : State :=
  if n = 0 then k 0
  else if scratch then s.engineSpad t wr a n 1 false (k a) else s.engineRange t wr a n (fun ia _ => k ia)

/-- The fields of a collective descriptor (R418). -/
def cdKind (ws : List W64) : Nat := bits (wordN ws 0) 19 16
def cdOp (ws : List W64) : Nat := bits (wordN ws 0) 23 20
def cdType (ws : List W64) : Nat := bits (wordN ws 0) 29 24
def cdTrp (ws : List W64) : Bool := bit (wordN ws 0) 30
def cdNsk (ws : List W64) : Bool := bit (wordN ws 0) 32
def cdGrp (ws : List W64) : Nat := bits (wordN ws 0) 15 0
def cdLen (ws : List W64) : Nat := bits (wordN ws 3) 30 0
def cdTag (ws : List W64) : Nat := bits (wordN ws 3) 63 48
def cdSv (ws : List W64) : Bool := bit (wordN ws 4) 63
def cdSta (ws : List W64) : Nat := bits (wordN ws 4) 21 0

/-- A collective descriptor within its limits for a kind (R416, R418); a node's addresses are IAs (R410). -/
def cdOk (kind : Nat) (ws : List W64) (node : Bool := false) : Bool :=
  let side := fun (w : W64) => onlyFields w [(63, 63), (56, 0)] && (!bit w 63 || bits w 56 22 == 0)
  onlyFields (wordN ws 0) [(32, 32), (30, 0)] && side (wordN ws 1) && side (wordN ws 2) && onlyFields (wordN ws 3) [(63, 48), (30, 0)] &&
  onlyFields (wordN ws 4) [(63, 63), (21, 0)] && onlyFields (wordN ws 5) [(if node then 51 else 21, 0)] && onlyFields (wordN ws 6) [(if node then 51 else 21, 0)] && wordN ws 7 == 0 && cdKind ws == kind &&
  (match kind with
   | 1 => colOpOk (cdOp ws) (cdType ws) (cdNsk ws) && cdLen ws != 0 && decide (cdLen ws ≤ 2 ^ 30) && cdLen ws % colElem (cdOp ws) (cdType ws) == 0 &&
       (!(cdOp ws == 8 || cdOp ws == 9) || !cdNsk ws)
   | 2 => cdOp ws == 0 && cdLen ws == 0
   | _ => cdOp ws == 0 && cdLen ws != 0)

/-- The bytes of a status area (R420). -/
def staBytes (n : Nat) : Nat := 32 + (n + 63) / 64 * 8

/-- The signature of a descriptor's collective (R413). -/
def cdSig (ws lay : List W64) : ColSig :=
  match cdKind ws with
  | 1 => ⟨1, cdOp ws, cdType ws, cdNsk ws, cdLen ws, 0, cdTag ws⟩
  | 2 => ⟨2, 0, 0, false, 0, 0, cdTag ws⟩
  | _ => ⟨3, 0, layFmt lay, false, layTotal lay, layHash lay, cdTag ws⟩

/-- A command with a collective descriptor at offset a (R418, R419, R421): its areas and local extents are checked, which is precise, before a
malformed one or one from a non-member is rejected (R431); `bad` tells a malformed value. -/
def State.descCommand (s : State) (t : Task) (h : BitVec 8) (op kind a : Nat) (av : W64) (bad : Bool := false) : State :=
  s.colDesc t a 64 (fun ws =>
    let grp := cdGrp ws
    let n := (s.grp s.myDie grp).n
    let lay3 := fun (k : List W64 → State) =>
      if kind != 3 then k []
      else s.engineSpad t false (bits (wordN ws 5) 21 0) 128 64 false (s.engineSpad t false (bits (wordN ws 6) 21 0) 128 64 false (
        s.goodParams t (bits (wordN ws 5) 21 0) 128 (s.goodParams t (bits (wordN ws 6) 21 0) 128 (
          k (wordsOf 16 (s.spadRead s.myCore t (bits (wordN ws 5) 21 0) 128) ++ wordsOf 16 (s.spadRead s.myCore t (bits (wordN ws 6) 21 0) 128))))))
    let sta := fun (k : State) => if cdSv ws then s.engineSpad t true (cdSta ws) (staBytes n) 32 false k else k
    sta (lay3 (fun lay =>
      let ok := !bad && cdOk kind ws && (kind != 3 || layPairOk (lay.take 16) (lay.drop 16) n (cdLen ws))
      let go := fun (sb db : Nat) =>
        if !s.isMember grp || !ok then s.enterColl t h op av 0 grp 0 true id
        else s.enterColl t h op av 0 grp (if kind = 2 then 8 else cdLen ws) false (fun m =>
          { m with sig := cdSig ws lay, ws := ws, lay := lay, sbase := sb, dbase := db, ssp := bit (wordN ws 1) 63, dsp := bit (wordN ws 2) 63, trp := cdTrp ws,
                   sta := if cdSv ws then some (cdSta ws) else none })
      if kind = 2 then go 0 0
      else s.colSide t false (bit (wordN ws 1) 63) (bits (wordN ws 1) 56 0) (if kind = 3 then laySpan (lay.take 16) else cdLen ws) (fun sb =>
        s.colSide t true (bit (wordN ws 2) 63) (bits (wordN ws 2) 56 0) (cdLen ws) (fun db => go sb db)))))

def execCred (g : BitVec 4) (a : BitVec 7) (h : BitVec 8) (s : State) : Host.Outcome State Fault Refusal :=
  .next (s.engineSlot g (fun t => s.withSource a (fun av => s.descCommand t h 0x3B 1 av.toNat av)))
def execCxf (g : BitVec 4) (a : BitVec 7) (h : BitVec 8) (s : State) : Host.Outcome State Fault Refusal :=
  .next (s.engineSlot g (fun t => s.withSource a (fun av => s.descCommand t h 0x3C 3 av.toNat av)))

def execCbar (g : BitVec 4) (a : BitVec 7) (h : BitVec 8) (s : State) : Host.Outcome State Fault Refusal :=
  .next (s.engineSlot g (fun t => s.withSource a (fun av =>
    if bit av 63 then
      s.descCommand t h 0x3D 2 (bits av 21 0) av (bits av 62 22 != 0)
    else
      let grp := bits av 15 0
      if bits av 62 17 != 0 || !s.isMember grp then s.enterColl t h 0x3D av 0 grp 0 true id
      else s.enterColl t h 0x3D av 0 grp 8 false (fun m => { m with sig := ⟨2, 0, 0, false, 0, 0, 0⟩, trp := bit av 16 }))))

def execCsmp (g : BitVec 4) (a : BitVec 7) (h : BitVec 8) (s : State) : Host.Outcome State Fault Refusal :=
  .next (s.engineSlot g (fun t => s.withSource a (fun av =>
    s.colDesc t av.toNat 64 (fun ws =>
      let res := fun (k : State) => if h = 255 then k else s.engineSpad t true (smpRes ws) 8 8 false k
      let msk := fun (k : State) => if smpMasked ws then s.engineSpad t false (smpMask ws) ((smpCount ws + 7) / 8) 1 false k else k
      s.engineSpad t false (smpLogits ws) (4 * smpCount ws) 4 false (msk (res (
        if !smpOk ws || !s.isMember (smpGrp ws) then s.enterColl t h 0x3E av 0 (smpGrp ws) 0 true id
        else s.enterColl t h 0x3E av 0 (smpGrp ws) 8 false (fun m => { m with sig := ⟨4, 4, 0x22, true, 8, 0, 0⟩, ws := ws, trp := smpTrp ws }))))))))

/-- The fields of a transfer descriptor (R423). -/
def tdMc (ws : List W64) : Bool := bit (wordN ws 0) 27
def tdRank (ws : List W64) : Nat := bits (wordN ws 0) 26 16
def tdGrp (ws : List W64) : Nat := bits (wordN ws 0) 15 0
def tdOff (ws : List W64) : Nat := bits (wordN ws 2) 39 0
def tdLen (ws : List W64) : Nat := bits (wordN ws 3) 40 0

/-- The ranks a transfer goes to. -/
def tdTargets (ws : List W64) (n rank : Nat) : List Nat := if tdMc ws then (upFrom 0 n).filter (fun r => r != rank) else [tdRank ws]

/-- cput and cget (R423). -/
def State.transferSlot (s : State) (g : BitVec 4) (a : BitVec 7) (h : BitVec 8) (put_ : Bool) : State :=
  let op := if put_ then 0x39 else 0x3A
  s.engineSlot g (fun t => s.withSource a (fun av =>
    s.colDesc t av.toNat 32 (fun ws =>
      let x := s.grp s.myDie (tdGrp ws)
      let loc := wordN ws 1
      let ok := onlyFields (wordN ws 0) [(27, 0)] && onlyFields loc [(63, 63), (56, 0)] && (!bit loc 63 || bits loc 56 22 == 0) &&
        onlyFields (wordN ws 2) [(39, 0)] && onlyFields (wordN ws 3) [(40, 0)] && tdLen ws != 0 && decide (tdLen ws ≤ 2 ^ 40) &&
        (if tdMc ws then put_ && tdRank ws == 0 else decide (tdRank ws < x.n))
      s.colSide t (!put_) (bit loc 63) (bits loc 56 0) (tdLen ws) (fun b =>
        if !ok || !s.isMember (tdGrp ws) then s.enterColl t h op av 0 (tdGrp ws) 0 true id
        else s.enterColl t h op av 0 (tdGrp ws) (tdLen ws * (tdTargets ws x.n x.rank).length) false (fun m =>
          { m with ws := ws, sbase := b, dbase := b, ssp := bit loc 63, dsp := bit loc 63 })))))

def execCput (g : BitVec 4) (a : BitVec 7) (h : BitVec 8) (s : State) : Host.Outcome State Fault Refusal := .next (s.transferSlot g a h true)
def execCget (g : BitVec 4) (a : BitVec 7) (h : BitVec 8) (s : State) : Host.Outcome State Fault Refusal := .next (s.transferSlot g a h false)

/-- The streams of a task in a group are closed, on whatever core of the die it opened them (R408, R424). -/
def State.shutStreams (s : State) (d u grp : Nat) : State :=
  { s with cores := s.cores.map (fun p => if dieOfCore p.1 = d then
      (p.1, { p.2 with streams := p.2.streams.map (fun q => if q.2.tag.u = u && q.2.grp = grp then (q.1, { q.2 with shut := true }) else q) }) else p) }

/-- A membership is closed (R408): the receive region and the queue entries are discarded, and the member's streams closed. -/
def State.leaveGroup (s : State) (d u grp : Nat) : State :=
  let x := s.grp d grp
  (s.setGrp d grp { x with member := none, region := none, bound := false, queues := [], spoilt := [] }).shutStreams d u grp

/-- A task's membership of a group, taken or renewed at the issue of copen (R408, R426); a new binding of the latches ends an older one. -/
def State.joinGroup (s : State) (grp : Nat) (region : Option (Nat × Nat)) (bind_ : Bool) : State :=
  let d := s.myDie
  let u := s.pre.task
  let s := if bind_ then s.modColl d (fun c => { c with grps := c.grps.map (fun q => if q.2.member = u then (q.1, { q.2 with bound := false }) else q) }) else s
  let x := s.grp d grp
  s.setGrp d grp { x with member := u, region := region, bound := bind_ }

/-- copen (R408, R426): a receive region that it names is checked first, whatever becomes of the command (R431, R435). -/
def execCopen (g : BitVec 4) (a b : BitVec 7) (h : BitVec 8) (s : State) : Host.Outcome State Fault Refusal :=
  .next (s.engineSlot g (fun t => s.with2 a b (fun av bv =>
    let grp := bits av 15 0
    let x := s.grp s.myDie grp
    let bad := bits av 63 18 != 0 || (if bit bv 63 then bits bv 62 57 != 0 else bv != 0)
    let close := bit av 17
    let ok := !bad && x.v && (if close then s.isMember grp else x.member.isNone || s.isMember grp)
    let enter := fun (region : Option (Nat × Nat)) =>
      let go := fun (s : State) (ok : Bool) => s.enterColl t h 0x38 av bv grp 8 (!ok) id
      if !ok then go s false
      else if close then go (s.leaveGroup s.myDie (s.pre.task.getD 0) grp) true
      else go (s.joinGroup grp region (bit av 16)) true
    if bit bv 63 then
      let n := (bits bv 15 0 + 1) * 65536
      let va := bits bv 56 16 * 65536
      match translate s.pre.wnd va n with
      | none => s.raise 5 (vaInfo true va)
      | some (ia, _) => match rwMiss t.card ia n with
        | some y => s.raise 6 (fpInfo true y)
        | none => enter (some (ia, n))
    else enter none)))

/-- A stream that is shut with rows left makes room for the one opened under its number: it stands under a number above 15 (R424). -/
def State.asideStream (s : State) (c n : Nat) : State :=
  s.modCore c (fun k => match find? n k.streams with
    | some q => { k with streams := put (16 + q.tag.tok) q (del n k.streams) }
    | none => k)

/-- cstr (R424): opening takes effect at issue. A closing command keeps the number of the stream it closes. -/
def execCstr (g : BitVec 4) (a b : BitVec 7) (h : BitVec 8) (s : State) : Host.Outcome State Fault Refusal :=
  .next (s.engineSlot g (fun t => s.with2 a b (fun av bv =>
    let n := bits av 3 0
    let grp := bits av 23 8
    let close := bit av 7
    let x := s.grp s.myDie grp
    let open_ := s.openStream n
    if close != (h == 255) then s.undefinedEncoding
    else
      let bad := !onlyFields av [(34, 7), (3, 0)] || !onlyFields bv [(55, 40), (39, 0)] || !s.isMember grp
      if close then
        let mine := match open_ with | some q => q.tag.u == s.pre.task.getD 0 && q.grp == grp | none => false
        if bad || !mine then s.enterColl t h 0x3F av bv grp 0 true id
        else (s.modCore s.myCore (fun k => { k with streams := k.streams.map (fun q => if q.1 = n then (q.1, { q.2 with shut := true }) else q) })).enterColl t h 0x3F av bv grp 0 false
          (fun m => { m with sbase := (open_.map (fun q => q.tag.tok)).getD 0 })
      else if bad || open_.isSome || bits bv 8 0 != 0 || bits bv 55 40 == 0 || decide (x.n ≤ bits av 34 24) then
        s.enterColl t h 0x3F av bv grp 0 true id
      else
        let (tag, s) := (s.asideStream s.myCore n).newTag t h.toNat 0
        s.modCore s.myCore (fun k => { k with streams := put n ⟨tag, s.bun.word.toNat, false, grp, bits av 34 24, bits bv 39 0, bits bv 55 40, 0, []⟩ k.streams }))))

/-- cqsend (R425). -/
def execCqsend (g : BitVec 4) (a b : BitVec 7) (h : BitVec 8) (s : State) : Host.Outcome State Fault Refusal :=
  .next (s.engineSlot g (fun t => s.with2 a b (fun av bv =>
    let grp := bits bv 15 0
    let ok := onlyFields bv [(30, 28), (26, 0)] && s.isMember grp && decide (bits bv 26 16 < (s.grp s.myDie grp).n)
    s.enterColl t h 0x36 av bv grp 8 (!ok) id)))

/-- The snapshot of cst (R434). -/
def State.colSnapshot (s : State) (grp sel : Nat) : Nat :=
  let x := s.grp s.myDie grp
  if !x.v then 0
  else match sel with
    | 0 => 2 ^ 63 + b2n x.member.isSome * 2 ^ 62 + b2n (s.isMember grp) * 2 ^ 61 + b2n (s.isMember grp && x.bound) * 2 ^ 60 + x.rank * 2 ^ 16 + (x.n - 1)
    | 1 => x.seq
    | _ => ((upFrom 0 8).map (fun k => (getD k [] x.queues).length * 2 ^ (6 * k))).foldl (· + ·) 0

def execCst (g : BitVec 4) (a b : BitVec 7) (s : State) : Host.Outcome State Fault Refusal :=
  .next (s.engineSlot g (fun t => s.with2 a b (fun av bv =>
    if 2 < bv.toNat then s.enterColl t 255 0x37 av bv (bits av 15 0) 0 true id
    else s.atOnceL5 (s.colSnapshot (bits av 15 0) bv.toNat))))

-- The engine (R425, R429, R430) -----------------------------------------------------------------------------------------------

/-- Every causal write that the context issued before the command has been acknowledged (R425, R429). -/
def State.ackedBefore (s : State) (tag : Tag) : Bool :=
  !s.net.any (fun q => q.2.g == tag.g && q.2.task == some tag.u && decide (q.1 < tag.tok) && q.2.kind.causal)

/-- What leaves for other members is causally after everything its context knows: its own causal writes are acknowledged, and the writes of others
that it has read are applied where they went (R425, R429). -/
def State.releasable (s : State) (tag : Tag) : Bool := s.ackedBefore tag && (s.cmdEnts tag).all s.covered

/-- A command that may be taken: the first of its core not taken, a queue message only as a release (R425). -/
def State.colReady (s : State) (q : Map ColCmd) (k : Nat) (m : ColCmd) : Bool :=
  m.phase == 0 && !q.any (fun x => decide (x.1 < k) && x.2.phase == 0 && x.2.tag.g / 4 == m.tag.g / 4) && (m.op != 0x36 || m.rej || s.releasable m.tag)

/-- The command taken next: the cores in turn by number (R16). -/
def State.colNext (s : State) (d : Nat) : Option (Nat × ColCmd) :=
  let x := (s.die d).coll
  let dist := fun (g : Nat) => (g / 4 % 64 + 64 - (x.last + 1) % 64) % 64
  (x.queue.filter (fun q => s.colReady x.queue q.1 q.2)).foldl (fun (best : Option (Nat × ColCmd)) q => match best with
    | none => some q
    | some b => if dist q.2.tag.g < dist b.2.tag.g then some q else some b) none

/-- The engine takes the next command (R430). -/
def execCollectiveCommandStart (d : Nat) (s : State) : Host.Outcome State Fault Refusal :=
  onUnit (dieOk d) (match s.colNext d with
    | none => s
    | some (k, m) =>
      let s := s.modColl d (fun c => { c with last := m.tag.g / 4 % 64 })
      if m.rej then s.modCol d k (fun m => { m with phase := 3, fault := some 1 })
      else if m.op = 0x38 then s.modCol d k (fun m => { m with phase := 3 })
      else if m.op = 0x36 then
        let (id, s) := s.fresh
        let dst := (s.grp d m.grp).dies.getD (bits m.bv 26 16) 0
        ({ s with qMsgs := put id ⟨d, k, dst, m.grp, bits m.bv 30 28, m.av, none⟩ s.qMsgs }).modCol d k (fun m => { m with phase := 1 })
      else s.modCol d k (fun m => { m with phase := 1 }))

/-- A queue message reaches its queue (R425) over fabric ports, in one package too (R404): it is enqueued, refused when the queue is full, or faults when there is no member task. -/
def execQueueMessageArrival (id : Nat) (s : State) : Host.Outcome State Fault Refusal :=
  .next (match find? id s.qMsgs with
    | none => s
    | some m =>
      if m.refused.isSome || !(m.src == m.dst || (s.linked m.src && s.linked m.dst)) || s.qMsgs.any (fun q => decide (q.1 < id) && q.2.src == m.src && q.2.dst == m.dst && q.2.grp == m.grp && q.2.q == m.q) then s
      else
        let x := s.grp m.dst m.grp
        let s := s.wake m.dst
        let taken := { s with qMsgs := del id s.qMsgs }
        if !x.v || x.member.isNone then taken.modCol m.src m.cmd (fun c => { c with phase := 3, fault := some 6 })
        else if 32 ≤ (getD m.q [] x.queues).length then { s with qMsgs := put id { m with refused := some s.tick } s.qMsgs }
        else ((taken.setGrp m.dst m.grp { x with queues := put m.q (getD m.q [] x.queues ++ [m.val]) x.queues }).learnAll m.dst).modCol m.src m.cmd (fun c => { c with phase := 3 }))

def execQueueMessageResend (id : Nat) (s : State) : Host.Outcome State Fault Refusal :=
  .next (match find? id s.qMsgs with
    | none => s
    | some m => match m.refused with
      | some t => if t + 64 ≤ s.tick then { s with qMsgs := put id { m with refused := none } s.qMsgs } else s
      | none => s)

/-- The bundle's pops advance the queues of the group that was bound before it (R19, R53, R426). -/
def State.popQueues (s : State) (d : Nat) (grp : Option Nat) (pops : Nat) : State :=
  if pops = 0 then s
  else match grp with
    | none => s
    | some k =>
      s.modColl d (fun c => { c with grps := c.grps.map (fun q =>
        if q.1 = k then (q.1, { q.2 with queues := q.2.queues.map (fun r => if bitN pops r.1 then (r.1, r.2.drop 1) else r), spoilt := (q.2.spoilt.filter (fun x => !bitN pops x.1 || x.2.1 != 0)).map (fun x => if bitN pops x.1 then (x.1, x.2.1 - 1, x.2.2) else x) }) else q) })

-- Contributions and results ---------------------------------------------------------------------------------------------------

/-- Bytes of a command's local side. -/
def State.colRead (s : State) (m : ColCmd) (spad : Bool) (a n : Nat) : Io (List Byte) :=
  if spad then match s.task? (dieOfCtx m.tag.g) m.tag.u with
    | none => .ok []
    | some t => s.cmdSpad t a n
  else s.cmdRead m.tag a n
def State.colWrite (s : State) (m : ColCmd) (spad : Bool) (a : Nat) (bs : List Byte) : Io State :=
  if spad then match s.task? (dieOfCtx m.tag.g) m.tag.u with
    | none => .ok s
    | some t => .ok (s.spadWrite t.onCore t a bs)
  else s.cmdWrite m.tag a bs

/-- Bytes written at an address sector by sector, as far as they may be: the state, and whether all of them were (R432). -/
def State.colSectors (s : State) (m : ColCmd) (spad : Bool) (ia0 : Nat) (bs : List Byte) (whole : Bool) : List (Nat × Nat) → Io (Bool × State)
  | [] => .ok (whole, s)
  | (ia, n) :: ps => match s.colWrite m spad ia ((bs.drop (ia - ia0)).take n) with
    | .ok s => s.colSectors m spad ia0 bs whole ps
    | .wait n => .wait n
    | .fail _ _ u => (s.use u).colSectors m spad ia0 bs false ps

/-- Pieces written from an address on, as far as they may be. -/
def State.colPieces (s : State) (m : ColCmd) (spad : Bool) (a : Nat) (whole : Bool) : List (Nat × List Byte) → Io (Bool × State)
  | [] => .ok (whole, s)
  | p :: ps => (s.colSectors m spad (a + p.1) p.2 whole (sectorPieces (p.2.length / 32 + 2) (a + p.1) p.2.length)).bind (fun r => r.2.colPieces m spad a r.1 ps)

/-- The layouts of a transform. -/
def ColCmd.lays (m : ColCmd) : List W64 × List W64 := (m.lay.take 16, m.lay.drop 16)

/-- The axis of the exchange that a transform is at, if one is left (R422). -/
def ColCmd.axis (m : ColCmd) : Option Nat := (exchanges m.lays.1 m.lays.2)[m.exch]?

/-- The chunks that a collective's contributions have now, as the number of the first and how many (R411); those of a transform are numbered across its
exchanges in axis order (R422). -/
def ColCmd.chunks (m : ColCmd) : Nat × Nat :=
  match m.sig.kind with
  | 1 => (0, (m.sig.len + 4095) / 4096)
  | 3 =>
    let size := exchangeChunks m.lays.1 m.lays.2 m.n
    ((((exchanges m.lays.1 m.lays.2).take m.exch).map size).foldl (· + ·) 0, match m.axis with | some a => size a | none => 0)
  | _ => (0, 1)

/-- Every chunk of what a collective has contributed last has been answered. -/
def ColCmd.answered (m : ColCmd) : Bool := (upFrom m.chunks.1 m.chunks.2).all (fun c => (find? c m.got).isSome)

/-- A transform whose exchange is over with a result goes on to the next, with what it holds for it (R422). -/
def ColCmd.advanced (m : ColCmd) : ColCmd :=
  if m.sig.kind != 3 || !m.answered || m.got.any (fun a => decide (2 ≤ a.2.ans)) then m
  else
    let (src, dst) := m.lays
    match m.axis, (exchanges src dst)[m.exch + 1]? with
    | some a, some b =>
      { m with exch := m.exch + 1, phase := 1,
               held := ((heldIndices src dst b m.rank).map (fun xs => exchangeBytes m.chunks.1 (layElem src) m.got (exchangeSource src dst a m.rank xs))).flatten }
    | _, _ => m

/-- The payload of a command (R419, R421, R428). -/
def State.payload (s : State) (m : ColCmd) : Io (List Byte × Bool) :=
  match m.sig.kind with
  | 1 => (s.colRead m m.ssp m.sbase m.sig.len).bind (fun bs => .ok (nanSkipped m.sig bs))
  | 2 => .ok ([], false)
  | 3 =>
    if m.exch != 0 then .ok (m.held, false)
    else (s.colRead m m.ssp m.sbase (laySpan m.lays.1)).bind (fun bs => .ok (localSlice m.lays.1 m.lays.2 m.rank 0 (m.axis.getD (layAxes m.lays.1)) bs, false))
  | _ =>
    (s.colRead m true (smpLogits m.ws) (4 * smpCount m.ws)).bind (fun bs =>
      let mask := if smpMasked m.ws then s.colRead m true (smpMask m.ws) ((smpCount m.ws + 7) / 8) else .ok []
      mask.bind (fun mb =>
        let c := smpCandidate m.ws (elemsOf 4 (smpCount m.ws) bs) (fun k => !smpMasked m.ws || bitN (ofBytes [mb.getD (k / 8) 0]) (k % 8))
        .ok (bytesOf 8 c.1, c.2)))

/-- The ranks that take part in what a command contributes to, and whether their payloads are gathered: an exchange without a sum (R422). -/
def ColCmd.ranks (m : ColCmd) : Ranks := match m.sig.kind, m.axis with | 3, some a => axisRanks m.lays.1 m.rank a | _, _ => ⟨0, 1, m.n⟩
def ColCmd.gathers (m : ColCmd) : Bool := m.sig.kind == 3 && (match m.axis with | some a => !layPart m.lays.1 a | none => false)

/-- The contributions of a command leave, one for each chunk (R410, R412, R416). -/
def State.contribute (s : State) (d : Nat) (m : ColCmd) (bs : List Byte) (nan : Bool) : State :=
  let f := s.tierBits 1
  (upFrom 0 m.chunks.2).foldl (fun s c =>
    let (id, s) := s.fresh
    let part : ColPart := ⟨[(m.rank, d)], [(if m.gathers then m.rank else 0, (bs.drop (4096 * c)).take 4096)], nan, []⟩
    let x : ColMsg := { grp := m.grp, seq := m.seq, chunk := m.chunks.1 + c, n := m.n, sub := m.ranks, gather := m.gathers, tmo := m.tmo, sig := m.sig, up := true, tier := 1, block := m.rank / 2 ^ f,
                        idx := m.rank, bad := false, part := part, rank := m.rank, die := d, ans := 0, refused := none }
    { s with colMsgs := put id x s.colMsgs }) s

/-- A transform that has no traffic writes what it holds (R422). -/
def State.localTransform (s : State) (d k : Nat) (m : ColCmd) (bs : List Byte) : State :=
  match s.colPieces m m.dsp m.dbase true [(0, bs)] with
  | .wait n => s.meet n
  | .fail _ _ _ => s
  | .ok (whole, s) => s.modCol d k (fun m => { m with phase := 3, fault := if whole then none else some 4 })

/-- A member sends its contributions over a fabric port (R404, R411), once they are causally after what its context knows (R429). -/
def execContributionSend (d k : Nat) (s : State) : Host.Outcome State Fault Refusal :=
  onUnit (dieOk d) (match find? k (s.die d).coll.queue with
    | none => s
    | some m =>
      let alone := m.sig.kind == 3 && m.axis.isNone
      if !numbered m.op || m.phase != 1 || m.fault.isSome || !(alone || s.linked d) || !s.releasable m.tag || s.cmdHeld m.tag then s
      else match s.payload m with
        | .wait n => s.meet n
        | .fail _ _ _ => s.modCol d k (fun m => { m with fault := some 4, phase := 3 })
        | .ok (bs, nan) =>
          if alone then s.localTransform d k m bs
          else (s.contribute d m bs nan).modCol d k (fun m => { m with phase := 2, fault := if m.sig.kind = 4 && smpMode (smpTemp m.ws) = 3 then some 5 else none }))

/-- A transform is at its last exchange. -/
def ColCmd.lastExchange (m : ColCmd) : Bool := m.exch + 1 == (exchanges m.lays.1 m.lays.2).length

/-- The bytes that a chunk's result writes at a member, by offset: none without a result, nor while another exchange follows. -/
def resultBytes (m : ColCmd) (x : ColMsg) : List (Nat × List Byte) :=
  if 2 ≤ x.ans then []
  else match m.sig.kind with
    | 1 => [(4096 * x.chunk, getD 0 [] x.part.data)]
    | 3 => if m.lastExchange then joinPieces (transformed m.lays.1 m.lays.2 x.part.data m.rank (m.axis.getD 0) (x.chunk - m.chunks.1)) else []
    | _ => []

/-- An answer reaches its member, which writes it to its destination, as far as that may be written (R415, R419, R432). -/
def execResultDelivery (id : Nat) (s : State) : Host.Outcome State Fault Refusal :=
  .next (match find? id s.colMsgs with
    | none => s
    | some x =>
      if x.up || !s.linked x.die then s
      else
        let taken := { s.wake x.die with colMsgs := del id s.colMsgs }
        match (s.die x.die).coll.queue.find? (fun q => numbered q.2.op && !q.2.rej && q.2.phase == 2 && q.2.grp == x.grp && q.2.seq == x.seq) with
        | none => taken
        | some (k, m) =>
          let bs := resultBytes m x
          let tok := if m.sig.kind = 4 then ofBytes ((getD 0 [] x.part.data).drop 4) else 0
          let data := if m.sig.kind = 3 && !m.lastExchange then x.part.data else []
          match taken.colPieces m m.dsp m.dbase true bs with
          | .wait n => s.meet n
          | .fail _ _ _ => s
          | .ok (whole, s) => s.modCol x.die k (fun m =>
            ({ m with got := put x.chunk ⟨x.ans, x.part.nan, x.part.miss, tok, data⟩ m.got, fault := if whole then m.fault else some (m.fault.getD 4) } : ColCmd).advanced))

/-- The missing ranks over all chunks (R415). -/
def ColCmd.missing (m : ColCmd) : List Nat := m.got.foldl (fun w a => a.2.miss.foldl (fun w r => insertNat r w) w) []

/-- The sub-cause with which a collective ends, if any (R413, R414, R433). -/
def ColCmd.ending (m : ColCmd) : Option Nat :=
  match m.fault with
  | some f => some f
  | none =>
    if m.got.any (fun a => a.2.ans == 3) then some 0
    else if m.trp && m.got.any (fun a => a.2.ans == 2) then some 3
    else if m.trp && (m.got.any (fun a => a.2.ans == 1) || !m.missing.isEmpty) then some 2
    else none

/-- A csmp whose member was answered with a result: its token is written where the descriptor says; an answer without a result leaves that place
unchanged (R415, R428). -/
def ColCmd.drawn (m : ColCmd) : Bool := (find? 0 m.got).any (fun a => decide (a.ans < 2))

/-- The token of csmp (R428). -/
def ColCmd.token (m : ColCmd) : Nat :=
  match m.fault, find? 0 m.got with
  | some _, _ => 0xFFFFFFFF
  | none, some a => if 2 ≤ a.ans then 0xFFFFFFFF else a.tok
  | none, none => 0xFFFFFFFF

/-- The completion status (R432). -/
def ColCmd.status (m : ColCmd) : Nat :=
  let e := m.ending
  let cred := if m.op = 0x39 || m.op = 0x3A then m.cred else if e.isSome then 0 else m.total
  let val := if m.op = 0x3E then m.token else if m.op = 0x38 && e.isNone then (m.n - 1) * 2 ^ 16 + m.rank else cred
  b2n e.isSome * 2 ^ 63 + e.getD 0 * 2 ^ 60 + b2n (m.got.any (fun a => a.2.nan && decide (a.2.ans < 2))) * 2 ^ 59 + b2n (!m.missing.isEmpty) * 2 ^ 58 +
    b2n (m.got.any (fun a => a.2.ans == 1 || a.2.ans == 2)) * 2 ^ 57 + Nat.min m.missing.length 2047 * 2 ^ 32 + val % 2 ^ 32

/-- The status area (R420). -/
def ColCmd.area (m : ColCmd) : List Byte :=
  let miss := m.missing
  bytesOf 8 m.status ++ bytesOf 8 miss.length ++ zeroBytes 16 ++ bytesOf ((m.n + 63) / 64 * 8) (miss.foldl (fun w r => w + 2 ^ r) 0)

/-- trap.info of cause 0x15 (R433). -/
def info15 (sub h grp val : Nat) : W64 := w64 (sub * 2 ^ 61 + h * 2 ^ 53 + grp * 2 ^ 37 + val % 2 ^ 32)

/-- The stream whose opening has token `tok` has no row left, in the array's queue or unwritten (R424). -/
def State.streamDrained (s : State) (c tok : Nat) : Bool :=
  (s.core c).streams.all (fun q => q.2.tag.tok != tok || q.2.rows.isEmpty) &&
    !(s.core c).array.queue.any (fun q => q.2.op == 9 && q.2.img.head? == some tok)

/-- A command has come to its end. -/
def State.colDone (s : State) (m : ColCmd) : Bool :=
  m.phase == 3 ||
  (numbered m.op && m.phase == 2 && m.answered) ||
  ((m.op == 0x39 || m.op == 0x3A) && m.phase == 1 && (m.fault.isSome || decide (tdLen m.ws ≤ m.pos))) ||
  (m.op == 0x3F && m.phase == 1 && s.streamDrained (coreOfCtx m.tag.g) m.sbase)

/-- What a command writes (R34, R419, R423): the local destination of a reduction, a transform or a get, its status area, and csmp's result. -/
def ColCmd.writes (m : ColCmd) : Writes :=
  let dst := if m.op = 0x3B || m.op = 0x3C then [(m.dbase, cdLen m.ws)] else if m.op = 0x3A then [(m.dbase, tdLen m.ws)] else []
  ⟨[], if m.rej then [] else (if m.dsp then dst else []) ++ (m.sta.toList.map (fun a => (a, staBytes m.n))) ++
    (if m.op = 0x3E && m.tag.h != 255 then [(smpRes m.ws, 8)] else []), if m.rej || m.dsp then [] else dst⟩

/-- A command completes in one update: the status area, the credit or l5, and its fault; a node ends (R410, R419, R432). -/
def execCollectiveComplete (d k : Nat) (s : State) : Host.Outcome State Fault Refusal :=
  onUnit (dieOk d) (match find? k (s.die d).coll.queue with
    | none => s
    | some m =>
      if !s.colDone m then s
      else
        let s := s.modColl d (fun c => { c with queue := del k c.queue })
        let e := m.ending
        if m.node then s.endNode d m.tag.u e.isNone
        else
          let t := (s.task? d m.tag.u)
          let s := match m.sta, t with | some a, some t => if m.rej then s else s.spadWrite t.onCore t a m.area | _, _ => s
          let s := match t with
            | some t => if m.op = 0x3E && !m.rej && m.tag.h != 255 && m.drawn then s.spadWrite t.onCore t (smpRes m.ws) (bytesOf 8 m.token) else s
            | none => s
          let s := if m.op = 0x3F && !m.rej then s.modCore (coreOfCtx m.tag.g) (fun c => { c with streams := c.streams.filter (fun q => q.2.tag.tok != m.sbase) }) else s
          let s := match e with
            | none => if m.op = 0x39 || m.op = 0x3A then s else s.credit m.tag m.total
            | some sub => s.deferFault m.tag 0x15 (info15 sub m.tag.h m.grp (if sub = 1 || !numbered m.op then m.word else m.seq)) m.writes
          s.reportL5 m.tag m.status)

-- Transfers and streams (R423, R424) ------------------------------------------------------------------------------------------

/-- The IA of n bytes at an offset of a rank's receive region, if they lie in one. -/
def State.regionAt (s : State) (d grp rank off n : Nat) : Option Nat :=
  let t := (s.grp d grp).dies.getD rank 0
  let x := s.grp t grp
  match x.v, x.region with
  | true, some (ia, len) => if off + n ≤ len then some (ia + off) else none
  | _, _ => none

/-- Bytes written to an offset of the regions of ranks; the copies of a multicast carry one stamp (R423). -/
def State.putRegions (s : State) (d : Nat) (m : ColCmd) (off : Nat) (bs : List Byte) : List Nat → Io State
  | [] => .ok s
  | r :: rs => match s.regionAt d m.grp r off bs.length with
    | none => .fail 4 off none
    | some ia => (s.cmdWrite m.tag ia bs (tdMc m.ws)).bind (fun s => s.putRegions d m off bs rs)

/-- The bytes that a transfer writes, in scratchpad or not. -/
def State.transferDests (s : State) (d : Nat) (m : ColCmd) : List (Bool × Nat × Nat) :=
  if m.op = 0x3A then [(m.dsp, m.dbase, tdLen m.ws)]
  else (tdTargets m.ws m.n m.rank).filterMap (fun r => (s.regionAt d m.grp r (tdOff m.ws) 0).map (fun ia => (false, ia, tdLen m.ws)))

/-- A transfer's writes wait for those of an earlier transfer of its core that may reach the same bytes, as a channel's copies do (R228, R423). -/
def State.transferBehind (s : State) (d k : Nat) (m : ColCmd) : Bool :=
  (s.die d).coll.queue.any (fun q => decide (q.1 < k) && (q.2.op == 0x39 || q.2.op == 0x3A) && !q.2.rej && q.2.fault.isNone && decide (q.2.pos < tdLen q.2.ws) &&
    q.2.tag.g / 4 == m.tag.g / 4 && (s.transferDests d q.2).any (fun x => (s.transferDests d m).any (fun y =>
      x.1 == y.1 && (!x.1 || q.2.tag.u == m.tag.u) && decide (x.2.1 < y.2.1 + y.2.2) && decide (y.2.1 < x.2.1 + x.2.2))))

/-- The next unit of a transfer: its length and the state with it made. -/
def State.transferUnit (s : State) (d : Nat) (m : ColCmd) : Io (Nat × State) :=
  let off := tdOff m.ws + m.pos
  let loc := m.sbase + m.pos
  let n := Nat.min (tdLen m.ws - m.pos) (Nat.min (32 - off % 32) (32 - loc % 32))
  if m.op = 0x39 then
    (s.colRead m m.ssp loc n).bind (fun bs => (s.putRegions d m off bs (tdTargets m.ws m.n m.rank)).bind (fun s => .ok (n, s)))
  else match s.regionAt d m.grp (tdRank m.ws) off n with
    | none => .fail 4 off none
    | some ia => (s.cmdRead m.tag ia n).bind (fun bs => (s.colWrite m m.dsp loc bs).bind (fun s => .ok (n, s)))

/-- A unit of a cput or cget is credited, or its fault recorded (R423). -/
def execTransferUnitCredit (d k : Nat) (s : State) : Host.Outcome State Fault Refusal :=
  onUnit (dieOk d) (match find? k (s.die d).coll.queue with
    | none => s
    | some m =>
      if !(m.op == 0x39 || m.op == 0x3A) || m.phase != 1 || m.fault.isSome || decide (tdLen m.ws ≤ m.pos) || s.cmdHeld m.tag || s.transferBehind d k m then s
      else match s.transferUnit d m with
        | .wait n => s.meet n
        | .fail _ _ u => (s.use u).modCol d k (fun m => { m with fault := some 4 })
        | .ok (n, s) =>
          let b := n * (if m.op = 0x39 then (tdTargets m.ws m.n m.rank).length else 1)
          (s.credit m.tag b).modCol d k (fun m => { m with pos := m.pos + n, cred := m.cred + b }))

/-- The next row of a stream is written and credited (R424), after its context's earlier stores (R38, R457); a denied one faults and is not credited. A closed stream with no row left that no
cstr waits for ends. -/
def execStreamRowCredit (c k : Nat) (s : State) : Host.Outcome State Fault Refusal :=
  onUnit (coreOk c) (match find? k (s.core c).streams with
    | none => s
    | some q =>
      let d := dieOfCore c
      match q.rows with
      | [] =>
        if q.shut && s.streamDrained c q.tag.tok && !(s.die d).coll.queue.any (fun m => m.2.op == 0x3F && m.2.tag.g / 4 == c && m.2.sbase == q.tag.tok)
        then s.modCore c (fun x => { x with streams := del k x.streams }) else s
      | (n, tag, bs) :: rest =>
        let next := fun (s : State) => s.modCore c (fun x => { x with streams := put k { q with rows := rest } x.streams })
        let fault := fun (s : State) => (next s).deferFault { tag with h := q.tag.h } 0x15 (info15 4 q.tag.h q.grp q.word) Writes.none
        if s.cmdHeld tag then s
        else match s.regionAt d q.grp q.rank (q.off + 512 * (n % q.cap)) 512 with
        | none => fault s
        | some ia => match s.cmdWrite tag ia bs with
          | .wait n => s.meet n
          | .fail _ _ u => fault (s.use u)
          | .ok s => (next s).credit { tag with u := q.tag.u, h := q.tag.h } 512)

-- Groups and ports (R406, R407) -----------------------------------------------------------------------------------------------

/-- The rank map of n entries, and the dies that its die IDs name (R14, R407). -/
def State.rankMap (s : State) (d ia n : Nat) : Io (List Nat) :=
  match s.unitRead d ia (2 * n) with
  | .ok bs _ _ _ => .ok ((elemsOf 2 n bs).map (fun e => if e < 2048 then s.dieAt d e else e))
  | .wait n => .wait n
  | .denied _ => .fail 0 ia none

def distinctNats : List Nat → Bool
  | [] => true
  | x :: xs => !xs.contains x && distinctNats xs

/-- A write of cg.ent at group i with the rank map at map (R407), which waits for the page of the rank map. -/
def State.writeCgEnt (s : State) (d i map : Nat) (v : W64) : Io State :=
  let x := s.grp d i
  let n := bits v 42 32 + 1
  let st := fun (k : Nat) => Io.ok (s.setGrp d i { x with st := k })
  let bad := !onlyFields v [(63, 60), (47, 44), (42, 32), (26, 16)] || decide (8 < bits v 47 44) || decide (n ≤ bits v 26 16)
  if x.member.isSome then st 2
  else if bad then st 3
  else if !bit v 63 then .ok (s.setGrp d i { Grp.init with map := x.map })
  else match s.rankMap d map n with
      | .wait n => .wait n
      | .fail _ _ _ => st 3
      | .ok dies =>
        if dies.any (fun e => decide (2048 ≤ e)) || !distinctNats dies || dies[bits v 26 16]? != some d then st 3
        else if !x.v && decide (1024 ≤ ((s.die d).coll.grps.filter (fun q => q.2.v)).length) then st 1
        else .ok (s.setGrp d i { x with v := true, st := 0, ltmo := bits v 47 44, n := n, rank := bits v 26 16, dies := dies, seq := 0, region := none, bound := false, queues := [], spoilt := [] })

/-- cg.ent as it reads (R407). -/
def Grp.ent (x : Grp) : W64 := w64 (b2n x.v * 2 ^ 63 + x.st * 2 ^ 60 + x.ltmo * 2 ^ 44 + (x.n - 1) * 2 ^ 32 + x.rank * 2 ^ 16)

/-- fab.portk as it reads (R406). -/
def Port.word (p : Port) : W64 := w64 (b2n p.up * 2 ^ 63 + p.lanes * 2 ^ 61 + p.rty * 2 ^ 16 + p.err)

/-- A link goes down: what it carried goes over another port, where each request, contribution and result is applied at most once (R364, R406,
R449); the error record names the port. -/
def execPortLinkDown (d k : Nat) (s : State) : Host.Outcome State Fault Refusal :=
  onUnit (dieOk d && decide (k < 24)) (
    if !(s.port d k).up then s
    else
      let s := s.modPort d k (fun p => { p with up := false, lanes := 0 })
      let s := { s with net := s.net.map (fun (q : Nat × Msg) => if q.2.origin = d && q.2.kind.causal && !q.2.ids.isEmpty then (q.1, { q.2 with last := s.tick }) else q) }
      (s.resent d).errorRecord d 6 255 0 0 (w64 k) 0 0 0)

/-- A link is trained: with one lane or with both, which is open (R406; log 45). -/
def execPortLinkUp (d k : Nat) (s : State) : Host.Outcome State Fault Refusal :=
  onUnit (dieOk d && decide (k < 24))
    (({ s with free := s.free + 1 }).modPort d k (fun p => { p with up := true, lanes := 1 + (Config.freeWord s.free).toNat % 2 }))

/-- A flit received in error is recovered by the re-sending of its sender, and counted (R406). -/
def execFlitReceiveError (d k : Nat) (s : State) : Host.Outcome State Fault Refusal :=
  onUnit (dieOk d && decide (k < 24)) (s.modPort d k (fun p => { p with err := Nat.min (p.err + 1) 65535 }))

end Sys2Proof.Machine
end

