-- ==== Sys2Proof/Machine/Lease.lean ====
section
/-! DEFINITION. Leases (R123, R359 to R361, R380), and which commands of a task still run (R123, R141, R382). -/

namespace Sys2Proof.Machine

/-- An index command counts as running until every element is credited, parked or lost (R382). -/
def IdxCmd.runs (m : IdxCmd) : Bool :=
  (if m.element then decide (m.next < ixCnt m.desc) else !(m.op == 0x33 && m.next == 1)) || !m.els.isEmpty

/-- Some asynchronous command of a task whose token `p` takes still runs. Array instructions are none (R297). -/
def State.cmdsOut (s : State) (d u : Nat) (p : Nat → Bool) : Bool :=
  let mine := fun (t : Tag) => dieOfCtx t.g == d && t.u == u && p t.tok
  let onCore := fun (k : Core) => k.copy0.cmds.any (fun q => mine q.2.tag) || k.copy1.cmds.any (fun q => mine q.2.tag) ||
    k.survey.any (fun q => mine q.2.tag) || k.index.queue.any (fun q => mine q.2.tag && q.2.runs) ||
    k.streams.any (fun q => q.2.rows.any (fun r => mine r.2.1))
  (match s.task? d u with
    | none => false
    | some t => t.renews.any (fun r => mine r.1) || (match t.core with | none => false | some c => onCore (s.core c))) ||
  (s.die d).store.queue.any (fun q => mine q.2.tag) || (s.die d).coll.queue.any (fun q => mine q.2.tag) || s.migs.any (fun q => mine q.2.tag)

def State.modCompass (s : State) (d : Nat) (f : Compass → Compass) : State := s.modDie d (fun k => { k with compass := f k.compass })

/-- Granted leases given up: each release leaves once the task's commands with tokens below `mark` have completed (R123). -/
def State.giveUp (s : State) (d u : Nat) (ls : List Lease) (mark : Nat) : State :=
  s.modCompass d (fun k => { k with releases := k.releases ++ (ls.filter (fun l => l.stage == 2)).map (fun l => (u, l.page, mark)) })

/-- The answer to a lease request (R359), which goes to the owner as every request of the die does (R362, R370): the lease as it then stands, and the
state. -/
def State.askLease (s : State) (d : Nat) (l : Lease) : Lease × State :=
  let ia := l.page * 65536
  match s.placeOf d ia [] with
  | .wait n => (l, s.meet n)
  | .denied _ => ({ l with stage := 3 }, s)
  | .at_ t => match s.ownPage? t ia, s.walk t ia with
    | none, _ => ({ l with stage := 3 }, s)
    | some _, .malformed _ _ => ({ l with stage := 3 }, s)
    | some (p, pg), .nonResident _ => (⟨p, false, 1⟩, s.toRing t (bits (s.die t).hiRmap 9 0) 4 [w64 (p * 65536), w64 (b2n pg.big)])
    | some (p, _), .leaf _ _ e => (⟨p, bitN e 60, 2⟩, s.addLeases t p 1)

/-- The first lease of a list that has not been asked for at page p, replaced. -/
def setLease (p : Nat) (l : Lease) : List Lease → List Lease
  | [] => []
  | x :: xs => if x.page = p && x.stage = 0 then l :: xs else x :: setLease p l xs

/-- Every S3 access of a context issued before a token has returned or been acknowledged (R361). -/
def State.accessesDone (s : State) (g u tok : Nat) : Bool :=
  s.net.all (fun q => !(q.2.g == g && q.2.task == some u && decide (q.1 < tok) && q.2.kind != .probe)) &&
    ((s.ctx g).task != some u || (s.ctx g).loads.all (fun l => decide (tok ≤ l.1)))

/-- The first renewal of a task begins once everything before it is done (R361): the card is read; an empty one stands for a malformed
card. -/
def State.beginRenewal (s : State) (d u : Nat) : State :=
  match s.task? d u with
  | none => s
  | some t => match t.renews with
    | (tag, false) :: rs =>
      if s.cmdsOut d u (fun k => decide (k < tag.tok)) || !s.accessesDone tag.g u tag.tok then s
      else match s.graph? d t.graph with
        | none => s
        | some g => match s.taskCard d t.fpc g.wset tag.va.toNat with
          | .ok c =>
            let card := c.getD []
            s.setTask d u { t with renews := (tag, true) :: rs, newCard := card, newLeases := (s.cardPages d card).map (fun p => ⟨p, false, 0⟩) }
          | .wait n => s.meet n
          | _ => s
    | _ => s

/-- A lease of a task is asked for: for its launch or resume, or for a renewal (R123, R359, R361). -/
def execLeaseRequest (d u p : Nat) (s : State) : Host.Outcome State Fault Refusal :=
  onUnit (dieOk d) (
    let s := s.beginRenewal d u
    match s.task? d u with
    | none => s
    | some t =>
      let next := fun (ls : List Lease) => ls.find? (fun l => l.page == p && l.stage == 0)
      match next t.leases, next t.newLeases with
      | some l, _ => let (l, s) := s.askLease d l; s.modTask d u (fun t => { t with leases := setLease p l t.leases })
      | none, some l => let (l, s) := s.askLease d l; s.modTask d u (fun t => { t with newLeases := setLease p l t.newLeases })
      | none, none => s)

/-- A release reaches the page's owner (R359). -/
def execLeaseRelease (d u p : Nat) (s : State) : Host.Outcome State Fault Refusal :=
  onUnit (dieOk d) (match (s.die d).compass.releases.find? (fun r => r.1 == u && r.2.1 == p) with
    | none => s
    | some r =>
      let drop := s.modCompass d (fun k => { k with releases := k.releases.erase r })
      if s.cmdsOut d u (fun k => decide (k < r.2.2)) then s
      else match s.placeOf d (p * 65536) [] with
        | .wait n => s.meet n
        | .denied _ => drop
        | .at_ t => drop.modDie t (fun k => match pageFind? PageSt.big p k.pages with
            | none => k
            | some (q, pg) => { k with pages := put q { pg with leases := pg.leases - 1 } k.pages }))

/-- A renewal ends with a code and the number of pages leased (R361, R375, R380). -/
def State.endRenewal (s : State) (d u : Nat) (tag : Tag) (code val : Nat) : State :=
  ((s.modTask d u (fun t => { t with renews := t.renews.drop 1, newCard := [], newLeases := [] })).credit tag 8).reportL5 tag (haStatus code val)

/-- lrenew completes (R361): the new card and leases come into force together, or the new leases are given up. A task that has been
pre-empted meanwhile holds none of them. -/
def execLeaseRenewalComplete (d u : Nat) (s : State) : Host.Outcome State Fault Refusal :=
  onUnit (dieOk d) (
    let s := s.beginRenewal d u
    match s.task? d u with
    | none => s
    | some t => match t.renews with
      | (tag, true) :: _ =>
        if t.newCard.isEmpty then s.endRenewal d u tag 1 0
        else if t.newLeases.any (fun l => decide (l.stage < 2)) then s
        else if t.newLeases.any (fun l => l.stage == 3) then (s.giveUp d u t.newLeases 0).endRenewal d u tag 7 0
        else
          let keep := t.st == 4
          let s := s.giveUp d u (t.leases ++ (if keep then [] else t.newLeases)) 0
          let s := s.modTask d u (fun t => { t with card := t.newCard, leases := if keep then t.newLeases else [] })
          s.endRenewal d u tag 0 t.newLeases.length
      | _ => s)

end Sys2Proof.Machine
end

