-- ==== Sys2Proof/Machine/Save.lean ====
section
/-! DEFINITION. The save area (R130, R167): its image, its restore, and the steps of an involuntary pre-emption (R129 to R131, R297, R298). -/

namespace Sys2Proof.Machine

-- Writes and reads of Compass of more than a page -----------------------------------------------------------------------------

/-- Pieces of bytes written one by one; a piece that is denied is not written (log 7). -/
def State.putAll (s : State) (d : Nat) (bs : List Byte) (ia0 : Nat) : List (Nat × Nat) → Io State
  | [] => .ok s
  | (ia, n) :: ps => ((s.unitPut d ia ((bs.drop (ia - ia0)).take n)).orSkip s).bind (fun s => s.putAll d bs ia0 ps)

/-- Bytes written to global memory by Compass. -/
def State.unitStore (s : State) (d ia : Nat) (bs : List Byte) : Io State := s.putAll d bs ia (pagePieces (bs.length / 65536 + 2) ia bs.length)

/-- Bytes read by Compass; a denied read fails. -/
def State.unitBytes (s : State) (d ia n : Nat) : Io (List Byte) :=
  match s.unitRead d ia n with
  | .ok bs _ _ _ => .ok bs
  | .wait n => .wait n
  | .denied _ => .fail 0 ia none

/-- A step that may have to wait: until then, or while it cannot read what it needs, the state stays as it is, but that the home is asked for an
owner that the die's gazetteer does not name (R362). -/
def Io.orKeep (r : Io State) (s : State) : State :=
  match r with
  | .ok t => t
  | .wait n => s.meet n
  | .fail _ _ _ => s

-- The image (R167) ------------------------------------------------------------------------------------------------------------

def bytes8 (v : W64) : List Byte := bytesOf 8 v.toNat

/-- The causes of the pending-trap entries, in their order. -/
def pendingCauses : List Nat := [0x0F, 0x10, 0x11, 0x12, 0x13, 0x14, 0x15]

/-- The seven pending-trap entries at 0xD08. -/
def pendingImage (m : Map Deferred) : List Byte :=
  (pendingCauses.map (fun c => match find? c m with
    | some x => bytesOf 8 (2 ^ 63 + c) ++ bytes8 x.info ++ bytes8 x.va ++ zeroBytes 8
    | none => bytesOf 8 c ++ zeroBytes 24)).flatten

/-- The pending traps that the 224 bytes hold. -/
def pendingOf (bs : List Byte) : Map Deferred :=
  (pendingCauses.zip (upFrom 0 7)).foldl (fun m p =>
    if bitN (imgN bs (32 * p.2) 8) 63 then put p.1 ⟨w64 (imgN bs (32 * p.2 + 8) 8), w64 (imgN bs (32 * p.2 + 16) 8), none, [], [], []⟩ m else m) []

/-- Dependency entry j (R190), its dies by their IDs (R14). -/
def State.depImage (s : State) : Option Dep → List Byte
  | none => zeroBytes 16
  | some x => bytesOf 8 (2 ^ 63 + s.dieId x.ent.origin * 2 ^ 43 + s.dieId x.ent.target * 2 ^ 32 + (s.tick - x.since) % 2 ^ 32) ++ bytesOf 8 (x.ent.seq % 2 ^ 32)

/-- The code of a poison mark of a tile row. -/
def rowMark (cause : Nat) : Nat := match cause with | 7 => 1 | 8 => 2 | _ => 3
def rowCause (code : Nat) : Nat := match code with | 1 => 7 | 2 => 8 | _ => 0x16

/-- The poison marks of the rows of a task tile, 32 bytes. -/
def Core.tileMarks (k : Core) (p : Nat) : List Byte :=
  bytesOf 32 ((upFrom 0 128).foldl (fun n r => match find? (p * 128 + r) k.rowPoison with | some q => n + rowMark q.cause * 4 ^ r | none => n) 0)

/-- The saved image of a physical tile: a poisoned row shows its trap.info. -/
def Core.tileImage (k : Core) (p : Nat) : List Byte :=
  ((upFrom 0 128).map (fun r => match find? (p * 128 + r) k.rowPoison with
    | some q => bytes8 q.info ++ zeroBytes 504
    | none => rowBytes (k.row (p * 128 + r)))).flatten

/-- The 13 registers at 0xC20, in their order. -/
def Ctx.savedRegs (c : Ctx) : List W64 :=
  [c.pkr, c.trap.cause, c.trap.pc, c.trap.info, c.trap.vec, c.trap.keep0, c.trap.keep1, c.seed, c.seedCtr, c.shadowBase, c.shadowTop, c.fpstat, c.wdSel]

/-- The scalar and control state of a context: 4,096 bytes. -/
def State.saveImage (s : State) (g : Nat) (t : Task) : List Byte :=
  let c := s.ctx g
  let regs := (upFrom 0 86).map (fun n => bytes8 (match find? n c.poison with | some q => q.info | none => c.reg n))
  let heads := (upFrom 0 8).map (fun k => bytes8 (match (s.latches g).bind (fun q => s.headBad (dieOfCtx g) q.1 k) with | some i => i | none => (s.latch g k).headD 0))
  let masks := (upFrom 1 7).map (fun k => bytesOf 64 (getD k 0 c.masks).toNat)
  let stack := (upFrom 0 16).map (fun i => bytesOf 64 (c.mstack.reverse.getD i 0).toNat)
  let levels := (upFrom 0 6).map (fun n => bytes8 (c.level n).word ++ bytes8 (c.level n).start ++
    ((upFrom 0 4).map (fun k => bytes8 (getD (4 * n + k) 0 c.strides))).flatten ++ zeroBytes 16)
  let waits := (upFrom 0 8).map (fun n => ((upFrom 0 5).map (fun w => bytes8 (getD (8 * n + w) 0 c.wd))).flatten)
  let windows := (upFrom 0 16).map (fun j => let w := wndWord c.wnd j; bytes8 (if j % 2 = 0 then w64 (bits w 63 16 * 65536) else w))
  let deps := (upFrom 0 8).map (fun j => s.depImage c.deps[j]?)
  let marks := (upFrom 0 86).map (fun n => BitVec.ofNat 8 (match find? n c.poison with | some q => q.cause | none => 0))
  let tiles := (upFrom 0 4).map (fun k => match t.tiles[k]? with | some p => (s.core (coreOfCtx g)).tileMarks p | none => zeroBytes 32)
  regs.flatten ++ bytes8 c.pc ++ bytesOf 8 (c.pred.toNat / 2 * 2 + 1) ++ heads.flatten ++ masks.flatten ++ stack.flatten ++
    bytesOf 8 c.mstack.length ++ bytes8 c.vbind ++ bytes8 c.vrot ++ zeroBytes 8 ++ levels.flatten ++ waits.flatten ++ windows.flatten ++
    (c.savedRegs.map bytes8).flatten ++ deps.flatten ++ pendingImage c.deferred ++ marks ++ zeroBytes 2 ++ tiles.flatten ++ zeroBytes 320

/-- A level restored from its word and its start. -/
def levelOf (w start : Nat) : Level := ⟨bitN w 63, bitsN w 62 61, bitsN w 60 53, bitsN w 48 24, bitsN w 23 0, w64 start⟩

/-- The bits of a register word that its field map lists, each field as (high, low); the reserved ones read 0 (R8). -/
def fieldsOf (w : W64) (fs : List (Nat × Nat)) : W64 := w64 ((fs.map (fun f => bits w f.1 f.2 * 2 ^ f.2)).foldl (· + ·) 0)

/-- The whole sequence number of a saved entry (R190): the latest one not above `last` with these 32 bits (R363; log 83). -/
def wholeSeq (last n : Nat) : Nat := if last < n then n else last - (last - n) % 2 ^ 32

/-- The dependency entries saved at 0xC88 (R190), restored at die d; one that names a die ID which no die has is none. -/
def State.restoreDeps (s : State) (d : Nat) (bs : List Byte) : List Dep :=
  ((upFrom 0 8).map (fun j => imgN bs (0xC88 + 16 * j) 16)).filterMap (fun x =>
    let o := s.dieAt d (bitsN x 53 43)
    let t := s.dieAt d (bitsN x 42 32)
    if bitN x 63 && dieOk o && dieOk t then some ⟨⟨o, t, wholeSeq (getD t 0 (s.die o).lastSeq) (bitsN x 95 64)⟩, s.tick - bitsN x 31 0, false, 0⟩
    else none)

/-- The context restored from its 4,096 bytes; reserved bytes and reserved bits are ignored (R8), and the queue latches show the queues
again (R426). -/
def restoreImage (bs : List Byte) (u : Nat) (deps : List Dep) : Ctx :=
  let w := fun (o : Nat) => w64 (imgN bs o 8)
  let f := fun (o : Nat) (fs : List (Nat × Nat)) => fieldsOf (w o) fs
  let mark := fun (n : Nat) => imgN bs (0xDE8 + n) 1
  { Ctx.init with
    regs := ((upFrom 0 86).filter (fun n => mark n == 0)).map (fun n => (n, w (8 * n)))
    poison := ((upFrom 0 86).filter (fun n => mark n != 0)).map (fun n => (n, ⟨mark n, w (8 * n)⟩))
    pc := f 0x2B0 [(56, 0)]
    pred := BitVec.ofNat 8 (imgN bs 0x2B8 1 / 2 * 2 + 1)
    masks := (upFrom 1 7).map (fun k => (k, BitVec.ofNat 512 (imgN bs (0x300 + 64 * (k - 1)) 64)))
    mstack := ((upFrom 0 (Nat.min 16 (imgN bs 0x8C0 1 % 32))).map (fun i => BitVec.ofNat 512 (imgN bs (0x4C0 + 64 * i) 64))).reverse
    vbind := f 0x8C8 [(63, 63), (16, 16), (15, 13), (9, 8), (5, 0)]
    vrot := f 0x8D0 [(12, 8), (0, 0)]
    levels := (upFrom 0 6).map (fun n => (n, levelOf (imgN bs (0x8E0 + 64 * n) 8) (imgN bs (0x8E8 + 64 * n) 8)))
    strides := (upFrom 0 24).map (fun j => (j, w (0x8F0 + 64 * (j / 4) + 8 * (j % 4))))
    wd := ((upFrom 0 8).map (fun n => (upFrom 0 5).map (fun k => (8 * n + k, w (0xA60 + 40 * n + 8 * k))))).flatten
    wnd := (upFrom 0 16).map (fun j => (j, w (0xBA0 + 8 * j)))
    pkr := w 0xC20
    trap := ⟨f 0xC28 [(8, 0)], f 0xC30 [(56, 0)], w 0xC38, f 0xC40 [(56, 5), (0, 0)], w 0xC48, w 0xC50⟩
    seed := w 0xC58
    seedCtr := w 0xC60
    shadowBase := f 0xC68 [(56, 16), (0, 0)]
    shadowTop := f 0xC70 [(18, 16), (11, 0)]
    fpstat := f 0xC78 [(4, 0)]
    wdSel := f 0xC80 [(5, 0)]
    deps := deps
    deferred := pendingOf ((bs.drop 0xD08).take 224)
    task := some u
    life := .active }

/-- A task tile's rows restored from its image, with the valid bit of every row (R236) and its poison marks. -/
def State.restoreTile (s : State) (c p marks : Nat) (img : List Byte) : State :=
  (upFrom 0 128).foldl (fun s r =>
    let row := (img.drop (512 * r)).take 512
    let s := s.putRow c (p * 128 + r) (rowOfBytes row)
    let m := marks / 4 ^ r % 4
    if m = 0 then s else s.modCore c (fun k => { k with rowPoison := put (p * 128 + r) ⟨rowCause m, w64 (ofBytes (row.take 8))⟩ k.rowPoison })) s

/-- The words of a task's scratchpad with an uncorrectable error, by offset / 32. -/
def State.spoiledWords (s : State) (c : Nat) (t : Task) : List Nat :=
  (s.core c).badSpad.filterMap (fun w => ((upFrom 0 t.units.length).find? (fun k => t.units.getD k 0 == w / 2048)).map (fun k => k * 2048 + w % 2048))

/-- The marks of words that a draining pre-emption saved, put back (R36; log 84). -/
def State.spoilAgain (s : State) (c : Nat) (t : Task) : State :=
  s.modCore c (fun k => { k with badSpad := t.spoiled.foldl (fun m w => insertNat (t.spadAddr (32 * w) / 32) m) k.badSpad })

/-- The rows a pending trap names, as 128 * task tile + row. -/
def Deferred.logical (x : Deferred) (t : Task) : Deferred :=
  { x with rows := x.rows.filterMap (fun n => ((upFrom 0 4).find? (fun k => t.tiles[k]? == some (n / 128))).map (fun k => k * 128 + n % 128)) }

/-- What the model kept of a pending trap: the results that the faulting work writes, in l5, rows, scratchpad and global memory (R34). -/
def Deferred.reminded (x : Deferred) (kept : Option Deferred) (t : Task) : Deferred :=
  match kept with
  | none => x
  | some k => { x with l5 := k.l5, rows := k.rows.filterMap (fun n => t.row? (n / 128) (n % 128)), spad := k.spad, mem := k.mem }

-- Steps -----------------------------------------------------------------------------------------------------------------------

/-- The pending footprint violation of a context (R124). -/
def Ctx.violation (c : Ctx) : Option Deferred := find? 6 c.deferred

/-- The task of a context ends for its pending violation instead of being saved (R124). -/
def State.endViolated (s : State) (g : Nat) (x : Deferred) : State := s.endFaulted g (s.ctx g).pc x.info

/-- A pre-emption takes effect at a boundary of its context (R130, R131, R133): the state begins to be saved; a wait is abandoned; a
draining one lets the array's instructions complete and releases the array (R298). -/
def execPreemptionTakeEffect (g : Nat) (s : State) : Host.Outcome State Fault Refusal :=
  onUnit (ctxOk g) (
    let c := s.ctx g
    match c.preempt, c.task with
    | some drain, some u =>
      if c.life != .active || c.stopping.isSome then s
      else match c.violation with
        | some x => s.endViolated g x
        | none =>
          let s := s.modCtx g (fun c => { c with life := .saving, wait := none })
          if drain then s.releaseArray (coreOfCtx g) u else s
    | _, _ => s)

/-- Nothing of a context is under way (R130, R145, R191): loads, pending writes, probes of a probe instruction, l5, causal and stnc writes. -/
def State.ctxSettled (s : State) (g : Nat) : Bool :=
  let c := s.ctx g
  c.loads.isEmpty && c.pend.isEmpty && c.probeOp.isNone && !c.l5.waiting && !s.writesOut g && !s.ncOut g

/-- The array lets its holder be saved: its pass has stopped or is over (R297), or every instruction has completed and the array is
released (R298). -/
def State.arraySettled (s : State) (c u : Nat) (drain : Bool) : Bool :=
  let a := (s.core c).array
  a.holder != some u || (!drain && (a.paused || match a.queue.head? with | some (_, m) => !m.run | none => true))

/-- The bytes of a task's record as it is written back with state st (R113). -/
def Task.image (t : Task) (st : Nat) : List Byte :=
  ((upFrom 0 8).map (fun k => if k = 1 then bytesOf 8 (setBitsN (t.word 1).toNat 47 44 st) else bytes8 (t.word k))).flatten

def State.writeRecord (s : State) (d : Nat) (t : Task) (st : Nat) : Io State := s.unitStore d t.ia (t.image st)

/-- The save area is written and the record written back (R130, R133, R167): the tiles follow the state, and after a draining request the
scratchpad, whose units and tiles are then free. The leases are released once the task's commands have completed (R123). -/
def State.saveContext (s : State) (g : Nat) (drain : Bool) (u : Nat) (t : Task) : Io State :=
  let d := dieOfCtx g
  let c := coreOfCtx g
  let s := if drain then s.abandonParked c u else s
  let tiles := (t.tiles.map (s.core c).tileImage).flatten
  let spad := if drain then s.spadRead c t 0 t.spadBytes else []
  let spoiled := if drain then s.spoiledWords c t else []
  (s.unitStore d t.save (s.saveImage g t ++ tiles ++ spad)).bind (fun s => (s.writeRecord d t 5).bind (fun s =>
    let x := s.ctx g
    let s := (s.giveUp d u t.leases s.nextId).modCtx g Ctx.freed
    .ok ((s.modTask d u (fun t =>
      let t := { t with st := 5, ctx := none, leases := [], restore := true, drained := drain, l5 := x.l5, nest := x.entryLevels, kept := x.deferred.map (fun q => (q.1, q.2.logical t)), faults := [], spoiled := spoiled }
      if drain then { t with units := [], tiles := [], core := none } else t)).settleHash c)))

/-- The save completes (R133): everything under way has ended, and for a draining request every command of the task. -/
def execSaveComplete (g : Nat) (s : State) : Host.Outcome State Fault Refusal :=
  onUnit (ctxOk g) (
    let c := s.ctx g
    match c.preempt, c.task, s.boundTask g with
    | some drain, some u, some t =>
      if c.life != .saving then s
      else match c.violation with
        | some x => s.endViolated g x
        | none =>
          if !s.ctxSettled g || !s.arraySettled (coreOfCtx g) u drain || (drain && s.cmdsOut (dieOfCtx g) u (fun _ => true)) ||
              (s.die (dieOfCtx g)).compass.spawns.any (fun q => q.u == u) then s
          else (s.saveContext g drain u t).orKeep s
    | _, _, _ => s)

/-- A host request, draining or not, applies to a running task with a save area (R129). -/
def execHostPreemptionRequest (d u : Nat) (drain : Bool) (s : State) : Host.Outcome State Fault Refusal :=
  onUnit (dieOk d) (match s.task? d u with
    | none => s
    | some t => match t.ctx with
      | some g => if t.save != 0 && (s.ctx g).life == .active then s.modCtx g (fun c => c.request drain) else s
      | none => s)

end Sys2Proof.Machine
end

