-- ==== Sys2Proof/Machine/Graphs.lean ====
section
/-! DEFINITION. Graphs and records in Compass: the checks of a record (R114), graph status (R142), slots and overflow queues (R125),
releases and re-arms (R134, R135), and the acceptance of a graph (R119, R137). -/

namespace Sys2Proof.Machine

-- Records (R113 to R117) ------------------------------------------------------------------------------------------------------

/-- The fields of a record that R114 checks by themselves. The alignment of fpc is asked of a core task alone (R120; log 101). -/
def recordFieldsOk (sysOk : Bool) (ws : List W64) : Bool :=
  let w := wordN ws
  let kind := bits (w 1) 20 17
  let spad := bits (w 1) 32 26
  let fpc := bits (w 3) 51 0
  bits (w 0) 63 57 == 0 && bits (w 1) 47 42 == 0 && bits (w 1) 15 0 == 0 && bits (w 2) 63 52 == 0 && bits (w 3) 63 52 == 0 &&
  decide (kind ≤ 5) && decide (bits (w 1) 25 23 ≤ 4) && (if kind = 0 then decide (1 ≤ spad) && decide (spad ≤ 64) else spad == 0) &&
  (kind == 0 || bits (w 0) 56 52 == 0) && (kind == 3 || !bit (w 1) 16) && (!bit (w 1) 34 || bits (w 7) 39 0 != 0) && (!bit (w 1) 33 || sysOk) &&
  (kind != 0 || (bits (w 0) 4 0 == 0 && fpc % 64 == 0)) && (decide (3 ≤ kind) || fpc != 0)

/-- The check of a record (R114): its regions, none when it is malformed. A node without a card, or with one that is malformed, has none. -/
def State.checkRecord (s : State) (d wset : Nat) (sysOk : Bool) (ws : List W64) : Io (Option (List Region)) :=
  let w := wordN ws
  let kind := bits (w 1) 20 17
  let succ := bits (w 2) 51 0
  let fpc := bits (w 3) 51 0
  if !recordFieldsOk sysOk ws then .ok none
  else
    (if succ = 0 then .ok true
      else (s.recordList d succ).bind (fun l => .ok (match l with | none => false | some xs => kind != 3 || decide (xs.length ≤ 16)))).bind (fun listOk =>
    (if kind != 3 || w 4 == 0 then .ok true
      else if bits (w 4) 63 52 != 0 then .ok false
      else (s.rearmList d (w 4).toNat).bind (fun l => .ok l.isSome)).bind (fun rearmOk =>
    if !listOk || !rearmOk then .ok none
    else if kind = 0 then s.taskCard d fpc wset (bits (w 0) 56 0)
    else if fpc = 0 then .ok (some [])
    else (s.readCard d fpc).bind (fun c => .ok (some (c.getD [])))))

/-- The words of a record as Compass takes them from memory: the predecessor count and the state are its own (R113, R134). -/
def Task.reread (t : Task) (ws : List W64) : List W64 :=
  setAt 1 (w64 (setBitsN (setBitsN (wordN ws 1).toNat 63 48 t.pred) 47 44 0)) ws

def Task.setPred (t : Task) (n : Nat) : Task := { t with words := setAt 1 (w64 (setBitsN (t.word 1).toNat 63 48 n)) t.words }

/-- A record as it enters a graph. -/
def Task.enter (ia gi : Nat) (ws : List W64) (card : List Region) (sysOk : Bool) (spawner : Option Nat) : Task :=
  { ia := ia, graph := gi, words := ws, st := 0, subm := none, order := 0, spawner := spawner, slot := 0, suspended := false, core := none, ctx := none,
    units := [], tiles := [], card := card, leases := [], renews := [], newCard := [], newLeases := [], bound := 0, passed := none, reserved := none,
    restore := false, drained := false, stop := none, closing := false, faults := [], loadFaults := false, deps := [], sysOk := sysOk, quantum := 0, l5 := ⟨0, false⟩,
    kept := [], nest := [], number := none, lists := [], lost := 0, spoiled := [] }

/-- The record of a graph at an IA. -/
def State.recordAt (s : State) (d gi ia : Nat) : Option (Nat × Task) := (s.die d).compass.tasks.find? (fun q => q.2.graph == gi && q.2.ia == ia)

/-- A record put into a graph, with its number. -/
def State.addTask (s : State) (d : Nat) (t : Task) : Nat × State :=
  let u := (s.die d).compass.nextUid
  (u, s.modCompass d (fun k => { k with nextUid := u + 1, tasks := put u t k.tasks }))

-- Status (R142) ---------------------------------------------------------------------------------------------------------------

/-- The status word of a graph. -/
def Graph.word (g : Graph) (gstate : Nat) : W64 := w64 (bitsN g.frec 51 6 * 2 ^ 16 + g.fcode * 256 + gstate)

def State.writeStatus (s : State) (d : Nat) (g : Graph) (gstate : Nat) : Io State := s.unitStore d g.stat (bytes8 (g.word gstate))

/-- A record faults or is rejected: the first one is recorded in the status word. -/
def State.graphFault (s : State) (d gi code ia : Nat) : Io State :=
  match s.graph? d gi with
  | none => .ok s
  | some g =>
    if g.fcode != 0 then .ok s
    else
      let g := { g with fcode := code, frec := ia }
      (s.modGraph d gi (fun _ => g)).writeStatus d g 0

/-- A record that has not ended (R122, R142). -/
def Task.isOpen (t : Task) : Bool := (decide (1 ≤ t.st) && decide (t.st ≤ 5)) || (t.st == 0 && t.suspended)

/-- Free words over the entries of an overflow queue that were used (R125). -/
def State.clearQueue (s : State) (d : Nat) (g : Graph) : Io State :=
  let n := Nat.min g.tail (2 ^ g.ovlog)
  let s' := { s with free := s.free + n }
  if n = 0 then .ok s else s'.unitStore d g.ovq ((upFrom s.free n).map (fun j => bytes8 (Config.freeWord j))).flatten

/-- A graph none of whose records is open is done: its status is written, its ring notified, and the graph forgotten (R142). Records that
still hold tiles and scratchpad are forgotten when they give them up. -/
def State.graphDone (s : State) (d gi : Nat) : Io State :=
  match s.graph? d gi with
  | none => .ok s
  | some g =>
    if (s.die d).compass.tasks.any (fun q => q.2.graph == gi && q.2.isOpen) then .ok s
    else
      let st := if g.disabled then 3 else if g.fcode = 0 then 1 else 2
      (s.writeStatus d g st).bind (fun s => (s.clearQueue d g).bind (fun s =>
        let s := if g.ring = 0xFFFF then s else s.toRing d g.ring 2 [w64 g.stat, g.word st]
        .ok (s.modCompass d (fun k => { k with graphs := del gi k.graphs, tasks := k.tasks.filter (fun q => q.2.graph != gi || q.2.core.isSome) }))))

-- Slots (R125) ----------------------------------------------------------------------------------------------------------------

/-- The slots of a kind in use: 1 ordinary, 2 reserve. -/
def Compass.used (k : Compass) (kind : Nat) : Nat := (k.tasks.filter (fun q => q.2.slot == kind)).length

/-- The spawner of a queued record has suspended or ended, or there is none. -/
def Compass.quiet (k : Compass) (u : Nat) : Bool :=
  match (find? u k.tasks).bind (fun t => t.spawner) with
  | none => true
  | some p => match find? p k.tasks with
    | none => true
    | some x => x.stop.isSome || !(decide (3 ≤ x.st) && decide (x.st ≤ 5))

/-- The slot that the front of a graph's overflow queue may enter now: 0 none. -/
def Compass.frontSlot (k : Compass) (g : Graph) : Nat :=
  match g.queue with
  | [] => 0
  | u :: _ => if k.used 1 < 3584 then 1 else if k.used 2 < 512 && k.quiet u then 2 else 0

/-- The slot that a record becoming ready takes: one that no queued record is to refill. -/
def Compass.slotFor (k : Compass) (released : Bool) : Nat :=
  if k.used 1 < 3584 && k.graphs.all (fun g => g.2.queue.isEmpty) then 1
  else if released && decide (3584 ≤ k.used 1) && decide (k.used 2 < 512) && k.graphs.all (fun g => k.frontSlot g.2 == 0) then 2
  else 0

/-- A record enters its graph's overflow queue. -/
def State.enqueue (s : State) (d gi : Nat) (g : Graph) (u ia : Nat) : Io State :=
  (s.unitStore d (g.ovq + 8 * (g.tail % 2 ^ g.ovlog)) (bytesOf 8 ia)).bind (fun s =>
    .ok (s.modGraph d gi (fun g => { g with queue := g.queue ++ [u], tail := g.tail + 1 })))

/-- A record that becomes ready is submitted and takes a slot or joins the overflow queue; true when the queue is full (R121, R125). One that
was suspended keeps its number in the derived order, which holds to its end (R122; log 85). -/
def State.submit (s : State) (d u : Nat) (released : Bool) : Io (Bool × State) :=
  match s.task? d u with
  | none => .ok (false, s)
  | some t => match s.graph? d t.graph with
    | none => .ok (false, s)
    | some g =>
      let (n, s) := s.fresh
      let go := fun (st slot : Nat) => s.modTask d u (fun t =>
        { t with subm := if t.suspended then t.subm else some n, order := n, suspended := false, st := st, slot := slot })
      let k := (s.die d).compass
      if t.slot != 0 then .ok (false, go 1 t.slot)
      else if k.slotFor released != 0 then .ok (false, go 1 (k.slotFor released))
      else if g.queue.length < 2 ^ g.ovlog then ((go 2 0).enqueue d t.graph g u t.ia).bind (fun s => .ok (false, s))
      else .ok (true, go 2 0)

-- The end of a record ---------------------------------------------------------------------------------------------------------

/-- What an ended task gives up (R22, R123, R140, R264, R325, R392, R408): memberships, leases, its parked elements, the tap, the array, and its
tiles and scratchpad, which wait for the array's instructions. -/
def State.closeTask (s : State) (d u : Nat) : State :=
  match s.task? d u with
  | none => s
  | some t =>
    let s := ((s.die d).coll.grps.filter (fun q => q.2.member == some u)).foldl (fun s q => s.leaveGroup d u q.1) s
    let s := (s.giveUp d u t.leases s.nextId).modTask d u (fun t => { t with leases := [], stop := none, deps := [], faults := [] })
    match t.core with
    | none => s
    | some c =>
      let s := (s.abandonParked c u).modCore c (fun k => match k.tap with | some p => if p.tag.u = u then { k with tap := none } else k | none => k)
      let s := s.releaseArray c u
      if (s.core c).array.holder = some u then s.modTask d u (fun t => { t with closing := true }) else s.freeAlloc d u

/-- A record taken out of its graph: it never runs. Under a number that no graph has it gives up what it holds, when the array's instructions
of its earlier binding have completed (R264). -/
def State.dropTask (s : State) (d u : Nat) : State :=
  let n := (s.die d).compass.nextGraph
  let s := (s.modCompass d (fun k => { k with nextGraph := n + 1 })).modTask d u (fun t => { t with graph := n, st := 7, slot := 0, suspended := false })
  let s := s.closeTask d u
  match s.task? d u with
  | some t => if t.core.isNone then s.modCompass d (fun k => { k with tasks := del u k.tasks }) else s
  | none => s

/-- A known record is read and checked again (R114): rejected, it leaves its graph; true when it stays. -/
def State.recheck (s : State) (d u : Nat) : Io (Bool × State) :=
  match s.task? d u with
  | none => .ok (false, s)
  | some t => match s.graph? d t.graph with
    | none => .ok (false, s)
    | some g => ((s.unitWords d t.ia 8).orElse []).bind (fun ws =>
      let ws := t.reread ws
      (s.checkRecord d g.wset t.sysOk ws).bind (fun c => match c with
        | none => ((s.dropTask d u).graphFault d t.graph 1 t.ia).bind (fun s => .ok (false, s))
        | some card => .ok (true, s.modTask d u (fun t => { t with words := ws, card := card }))))

/-- A known record becomes ready: it is read and checked again, and submitted or rejected (R114, R121). -/
def State.becomeReady (s : State) (d u : Nat) : Io (Bool × State) :=
  (s.recheck d u).bind (fun r => if r.1 then r.2.submit d u true else .ok r)

/-- A known record is re-armed with its restored count (R114, R135): checked again, it is WAITING, or submitted anew when the count is 0. -/
def State.rearm (s : State) (d u n : Nat) : Io (Bool × State) :=
  (s.recheck d u).bind (fun r =>
    if !r.1 then .ok r
    else
      let s := r.2.modTask d u (fun t => { (t.setPred n) with st := 0 })
      if n = 0 then s.submit d u true else .ok (false, s))

/-- A record that its graph does not know yet is read, checked and put into it; none when it is rejected (R114, R134). -/
def State.takeRecord (s : State) (d gi ia : Nat) : Io (Option Nat × State) :=
  match s.graph? d gi with
  | none => .ok (none, s)
  | some g => ((s.unitWords d ia 8).orElse []).bind (fun ws => (s.checkRecord d g.wset true ws).bind (fun c => match c with
    | none => (s.graphFault d gi 1 ia).bind (fun s => .ok (none, s))
    | some card => let (u, s) := s.addTask d (Task.enter ia gi ws card true none); .ok (some u, s)))

/-- The known record at an IA, or the one read there. -/
def State.knownRecord (s : State) (d gi ia : Nat) : Io (Option Nat × State) :=
  match s.recordAt d gi ia with
  | some (u, _) => .ok (some u, s)
  | none => s.takeRecord d gi ia

/-- A record ends as DONE or FAULTED: it is written back and leaves its slot. -/
def State.endRecord (s : State) (d u code : Nat) : Io State :=
  match s.task? d u with
  | none => .ok s
  | some t =>
    let st := if code = 0 then 6 else 7
    (s.writeRecord d t st).bind (fun s =>
      let s := s.modTask d u (fun t => { t with st := st, slot := 0, suspended := false, passed := none, reserved := none })
      (if code = 0 then .ok s else s.graphFault d t.graph code t.ia))

-- Acts ------------------------------------------------------------------------------------------------------------------------

/-- A conditional node ends (R135): DONE, or with its restored count WAITING or submitted anew. -/
def State.endConditional (s : State) (d u : Nat) (self : Option Nat) : Io (Bool × State) :=
  match self with
  | none => (s.endRecord d u 0).bind (fun s => .ok (false, s.closeTask d u))
  | some n =>
    let s := (s.modTask d u (fun t => { t with st := 0, slot := 0 })).closeTask d u
    (s.rearm d u n).bind (fun r => match r.2.task? d u with
      | none => .ok r
      | some t => (r.2.writeRecord d t t.st).bind (fun s => .ok (r.1, s)))

/-- One act of an event; a record that must wait behind a full queue is named (R125, R134, R135). -/
def State.act (s : State) (d gi : Nat) : Act → Io (Option Nat × State)
  | .accept ia =>
    if (s.recordAt d gi ia).isSome then .ok (none, s)
    else (s.takeRecord d gi ia).bind (fun r => match r.1 with
      | none => .ok (none, r.2)
      | some u => match r.2.task? d u with
        | none => .ok (none, r.2)
        | some t => if t.pred != 0 then .ok (none, r.2) else (r.2.submit d u false).bind (fun q => .ok (if q.1 then some u else none, q.2)))
  | .release ia => (s.knownRecord d gi ia).bind (fun r => match r.1 with
      | none => .ok (none, r.2)
      | some u => match r.2.task? d u with
        | none => .ok (none, r.2)
        | some t =>
          if t.pred = 0 then (r.2.graphFault d gi 4 ia).bind (fun s => .ok (none, s))
          else
            let s := r.2.setTask d u (t.setPred (t.pred - 1))
            if t.pred = 1 && t.st = 0 then (s.becomeReady d u).bind (fun q => .ok (if q.1 then some u else none, q.2)) else .ok (none, s))
  | .rearm ia n => (s.knownRecord d gi ia).bind (fun r => match r.1 with
      | none => .ok (none, r.2)
      | some u => match r.2.task? d u with
        | none => .ok (none, r.2)
        | some t =>
          if t.st != 0 && t.st != 6 then (r.2.graphFault d gi 5 ia).bind (fun s => .ok (none, s))
          else (r.2.rearm d u n).bind (fun q => .ok (if q.1 then some u else none, q.2)))
  | .endNode u self => (s.endConditional d u self).bind (fun q => .ok (if q.1 then some u else none, q.2))

/-- The acts of an event in order; behind a record that waits for an entry of the queue, the rest waits too (R125). -/
def State.runActs (s : State) (d gi : Nat) : List Act → Io State
  | [] => .ok s
  | a :: rest => (s.act d gi a).bind (fun r => match r.1 with
    | none => r.2.runActs d gi rest
    | some u => .ok (r.2.modGraph d gi (fun g => { g with blocked := g.blocked ++ [(u, rest)] })))

/-- The acts of an event, and the end of the graph when nothing of it is open any more. -/
def State.runEvent (s : State) (d gi : Nat) (acts : List Act) : Io State := (s.runActs d gi acts).bind (fun s => s.graphDone d gi)

/-- A slot is refilled from the overflow queues, the graphs in turn (R125); an entry that frees takes the first record that waits for it. -/
def execOverflowQueueRefill (d : Nat) (s : State) : Host.Outcome State Fault Refusal :=
  onUnit (dieOk d) (
    let k := (s.die d).compass
    let turn := k.graphs.filter (fun g => decide (k.lastRefill < g.1)) ++ k.graphs.filter (fun g => decide (g.1 ≤ k.lastRefill))
    match turn.find? (fun g => k.frontSlot g.2 != 0) with
    | none => s
    | some (gi, g) => match g.queue with
      | [] => s
      | u :: rest =>
        let s1 := (s.modTask d u (fun t => { t with st := 1, slot := k.frontSlot g })).modGraph d gi (fun g => { g with queue := rest })
        let s1 := s1.modCompass d (fun k => { k with lastRefill := gi })
        match g.blocked, s1.graph? d gi with
        | (v, acts) :: more, some g1 =>
          let s1 := s1.modGraph d gi (fun g => { g with blocked := more })
          let ia := match s1.task? d v with | some t => t.ia | none => 0
          ((s1.enqueue d gi g1 v ia).bind (fun s => s.runEvent d gi acts)).orKeep s
        | _, _ => s1)

-- Acceptance (R119, R137) -----------------------------------------------------------------------------------------------------

/-- A batch snapshot: every entry whose version reads even and unchanged is copied (R137). -/
def State.snapshot (s : State) (d btab bsnap : Nat) : Nat → Nat → Io State
  | _, 0 => .ok s
  | i, n + 1 =>
    (((s.unitBytes d (btab + 64 * i) 64).bind (fun bs => if imgN bs 0 8 % 2 = 0 then s.unitStore d (bsnap + 64 * i) bs else .ok s)).orSkip s).bind
      (fun s => s.snapshot d btab bsnap (i + 1) n)

/-- A descriptor keeps the field limits of R119. -/
def descriptorOk (ws : List W64) : Bool :=
  let w := wordN ws
  let q := bits (w 4) 13 8
  let o := bits (w 4) 5 0
  [0, 1, 3, 5, 6, 7].all (fun i => bits (w i) 63 52 == 0) && onlyFields (w 4) [(44, 32), (31, 16), (13, 8), (5, 0)] && (w 3).toNat % 4096 == 0 &&
    decide (bits (w 4) 44 32 ≤ 4096) && (q == 0 || (decide (10 ≤ q) && decide (q ≤ 30))) && decide (16 ≤ o) && decide (o ≤ 26)

/-- The graph that a descriptor describes. -/
def graphOf (ws : List W64) : Graph :=
  let w := wordN ws
  { list := bits (w 0) 51 0, wset := bits (w 1) 51 0, pkr0 := w 2, ovq := bits (w 3) 51 0, bcount := bits (w 4) 44 32, ring := bits (w 4) 31 16,
    qlog := if bits (w 4) 13 8 = 0 then 20 else bits (w 4) 13 8, ovlog := bits (w 4) 5 0, btab := bits (w 5) 51 0, bsnap := bits (w 6) 51 0,
    stat := bits (w 7) 51 0, queue := [], tail := 0, blocked := [], frec := 0, fcode := 0, disabled := false }

/-- A submission (R119): refused with state 4, or accepted, its records submitted in list order. -/
def State.submitGraph (s : State) (d : Nat) (ws : List W64) : Io State :=
  let g := graphOf ws
  (s.recordList d g.list).bind (fun l => match l with
    | none => s.writeStatus d g 4
    | some ias =>
      if !descriptorOk ws || decide (256 ≤ (s.die d).compass.graphs.length) then s.writeStatus d g 4
      else
        let gi := (s.die d).compass.nextGraph
        let s := s.modCompass d (fun k => { k with nextGraph := gi + 1, graphs := put gi g k.graphs })
        ((s.wake d).writeStatus d g 0).bind (fun s => (s.snapshot d g.btab g.bsnap 0 g.bcount).bind (fun s => s.runEvent d gi (ias.map .accept))))

/-- The host disables the graph whose status word is named: Compass launches none of its records (R142, R442). -/
def State.disableGraph (s : State) (d stat : Nat) : Io State :=
  match (s.die d).compass.graphs.find? (fun g => g.2.stat == stat) with
  | none => .ok s
  | some (gi, g) => (s.modGraph d gi (fun g => { g with disabled := true })).writeStatus d g 3

end Sys2Proof.Machine
end

