-- ==== Sys2Proof/Machine/Compass.lean ====
section
/-! DEFINITION. Compass: gating and placement (R122, R126, R129), launch and resume (R116, R130), the nodes that need no core (R118, R135, R230,
R410), write-back (R140, R141), spawns (R139), and its S0 instructions (R138 to R142). -/

namespace Sys2Proof.Machine

-- Picking and placing (R122, R126) --------------------------------------------------------------------------------------------

/-- Two footprints conflict (R121). -/
def conflict (a b : List Region) : Bool :=
  a.any (fun x => b.any (fun y => (decide (2 ≤ x.mode) || decide (2 ≤ y.mode)) && decide (x.base < y.base + y.len) && decide (y.base < x.base + x.len)))

/-- A record is gated by an earlier one of its graph that has not ended; between a record and its spawner there is no order (R122, R139). -/
def Compass.gated (k : Compass) (u : Nat) (t : Task) : Bool :=
  k.tasks.any (fun q => q.2.graph == t.graph && q.1 != u && q.2.isOpen && t.spawner != some q.1 && q.2.spawner != some u &&
    (match q.2.subm, t.subm with | some a, some b => decide (a < b) | _, _ => false) && conflict q.2.card t.card)

/-- A record that Compass may pick (R126, R142): READY or PREEMPTED in a slot, its graph not disabled, and not gated; nothing of an earlier
binding holds it back (R124, R264, R361). -/
def State.eligible (s : State) (d u : Nat) (t : Task) : Bool :=
  let k := (s.die d).compass
  (t.st == 1 || t.st == 5) && t.slot != 0 && t.stop.isNone && !t.closing && t.renews.isEmpty && (find? 6 t.faults).isNone &&
    (match find? t.graph k.graphs with | some g => !g.disabled | none => false) && !k.gated u t &&
    (match t.core with | some c => (s.core c).array.holder != some u || !(s.core c).array.rel | none => true)

/-- The order of picking (R126): the higher priority, then the earlier submission. -/
def ranksBefore (a b : Task) : Bool := decide (b.prio < a.prio) || (a.prio == b.prio && decide (a.order < b.order))

/-- The units and physical tiles of a core that no task holds. -/
def State.freeUnits (s : State) (c : Nat) : List Nat :=
  let held := ((s.die (dieOfCore c)).compass.tasks.filter (fun q => q.2.core == some c)).map (fun q => q.2.units)
  (upFrom 0 64).filter (fun n => held.all (fun us => !us.contains n))
def State.freeTiles (s : State) (c : Nat) : List Nat :=
  let held := ((s.die (dieOfCore c)).compass.tasks.filter (fun q => q.2.core == some c)).map (fun q => q.2.tiles)
  (upFrom 0 4).filter (fun n => held.all (fun us => !us.contains n))

/-- A core could hold a record, contexts apart (R126). -/
def State.coreFits (s : State) (d c : Nat) (t : Task) : Bool :=
  match t.core with
  | some k => k == c
  | none => (!t.affv || c == d * 64 + t.affcore) && decide (t.tileNeed ≤ (s.freeTiles c).length) && decide (t.spad ≤ (s.freeUnits c).length)

/-- A core is reserved for another record that is passed over (R126). -/
def State.reservedFor (s : State) (d u c : Nat) : Bool :=
  let k := (s.die d).compass
  k.tasks.any (fun q => q.1 != u && q.2.reserved == some c && (q.2.st == 1 || q.2.st == 5) &&
    (match find? q.2.graph k.graphs with | some g => !g.disabled | none => false))

/-- Nothing new is launched onto a core that is reserved for another record; one that holds tiles or scratchpad there resumes (R126). Of records that
have reserved one core none keeps another out (log 104). -/
def State.barred (s : State) (d u c : Nat) (t : Task) : Bool := t.core.isNone && t.reserved != some c && s.reservedFor d u c

/-- The lowest free context of a core. -/
def State.freeCtx (s : State) (c : Nat) : Option Nat := (upFrom (4 * c) 4).find? (fun g => (s.ctx g).life == .free)

/-- Where a record is placed now (R126). -/
def State.placeCore (s : State) (d u : Nat) (t : Task) : Option Nat :=
  (upFrom (64 * d) 64).find? (fun c => s.coreFits d c t && !s.barred d u c t && (s.freeCtx c).isSome)

/-- The cores that could hold a record but for a context. -/
def State.wantsCtx (s : State) (d u : Nat) (t : Task) : List Nat := (upFrom (64 * d) 64).filter (fun c => s.coreFits d c t && !s.barred d u c t)

/-- It is a record's turn: every eligible record that ranks before it cannot be placed. -/
def State.isTurn (s : State) (d u : Nat) (t : Task) : Bool :=
  (s.die d).compass.tasks.all (fun q => q.1 == u || !ranksBefore q.2 t || !s.eligible d q.1 q.2 || (q.2.kind == 0 && (s.placeCore d q.1 q.2).isNone))

/-- Units and tiles of a core as a new task finds them: nothing written, every row invalid (R40, R126, R178, R236). -/
def State.zeroAlloc (s : State) (c : Nat) (units tiles : List Nat) : State :=
  s.modCore c (fun k =>
    { k with
      spad := units.foldl (fun m n => cellsClear m (65536 * n) 65536) k.spad
      written := k.written.filter (fun w => !units.contains (w / 64))
      badSpad := k.badSpad.filter (fun w => !units.contains (w / 2048))
      rows := k.rows.filter (fun r => !tiles.contains (r.1 / 128))
      rowPoison := k.rowPoison.filter (fun r => !tiles.contains (r.1 / 128)) })

/-- The card of a record at its placement (R120): for a launch or a resume after a suspension point with its PC. -/
def State.placementCard (s : State) (d : Nat) (t : Task) : Io (Option (List Region)) :=
  if t.kind != 0 then (if t.fpc = 0 then .ok (some []) else (s.readCard d t.fpc).bind (fun c => .ok (some (c.getD []))))
  else if t.restore then s.readCard d t.fpc
  else match s.graph? d t.graph with
    | none => .ok none
    | some g => s.taskCard d t.fpc g.wset (bits (t.word 0) 56 0)

/-- The leases of a placement, one for each page of the card; a card that has become malformed can be granted none (R123; log 54). -/
def State.leasesFor (s : State) (d : Nat) : Option (List Region) → List Lease
  | none => [⟨0, false, 3⟩]
  | some card => (s.cardPages d card).map (fun p => ⟨p, false, 0⟩)

/-- A record is placed: its allocation, a context RESERVED for it, and the leases to ask for (R123, R126, R133). One that its card, as it now stands,
gates is not launched (R122). -/
def State.place (s : State) (d u : Nat) (t : Task) (core : Option Nat) : Io State :=
  (s.placementCard d t).bind (fun card =>
    if (s.die d).compass.gated u { t with card := card.getD t.card } then .ok (s.setTask d u { t with card := card.getD t.card }) else
    let t := { t with st := 3, card := card.getD [], leases := s.leasesFor d card, passed := none, reserved := none }
    match core with
    | none => .ok (s.setTask d u t)
    | some c =>
      let units := if t.core.isSome then t.units else (s.freeUnits c).take t.spad
      let tiles := if t.core.isSome then t.tiles else (s.freeTiles c).take t.tileNeed
      let s := if t.core.isSome then s else s.zeroAlloc c units tiles
      let s := match s.freeCtx c with | none => s | some g => s.setCtx g { Ctx.init with life := .reserved, task := some u }
      .ok (s.setTask d u { t with core := some c, units := units, tiles := tiles }))

/-- The tasks that a ready record of a higher priority may have pre-empted for its want of a context (R129): the lowest priority, then the
oldest launched, then the lowest core and context. -/
def State.victim (s : State) (d : Nat) (t : Task) (cores : List Nat) : Option Nat :=
  let run := (s.die d).compass.tasks.filterMap (fun q => q.2.ctx.bind (fun g =>
    if cores.contains (coreOfCtx g) && (s.ctx g).life == .active then some (g, q.2) else none))
  if run.any (fun q => (s.ctx q.1).preempt.isSome) then none
  else
    let able := run.filter (fun q => q.2.preemptible && q.2.save != 0 && decide (q.2.prio < t.prio))
    (sortBy (fun (a b : Nat × Task) => decide (a.2.prio < b.2.prio) || (a.2.prio == b.2.prio &&
      (decide (a.2.bound < b.2.bound) || (a.2.bound == b.2.bound && decide (a.1 ≤ b.1))))) able).head?.map (·.1)

/-- Compass considers a record at its turn (R126): it places it, or passes it over, which for want of a context may ask for a pre-emption
(R129). -/
def execTaskPlacement (d u : Nat) (s : State) : Host.Outcome State Fault Refusal :=
  onUnit (dieOk d) (match s.task? d u with
    | none => s
    | some t =>
      if !s.eligible d u t || !s.isTurn d u t then s
      else if t.kind != 0 then (s.place d u t none).orKeep s
      else match s.placeCore d u t with
        | some c => (s.place d u t (some c)).orKeep s
        | none =>
          let s := s.setTask d u { t with passed := some (t.passed.getD s.tick) }
          match s.victim d t (s.wantsCtx d u t) with
          | some g => s.modCtx g (fun c => c.request false)
          | none => s)

/-- A record passed over for 2^16 ticks reserves a core (R126): the core that holds its tiles or scratchpad, else its affcore, whatever others have
reserved; else the lowest that no other has. -/
def execPassedOverReservation (d u : Nat) (s : State) : Host.Outcome State Fault Refusal :=
  onUnit (dieOk d) (match s.task? d u with
    | none => s
    | some t => match t.passed with
      | none => s
      | some since =>
        if !s.eligible d u t || t.reserved.isSome || decide (s.tick < since + 2 ^ 16) then s
        else
          match t.core.or (if t.affv then some (64 * d + t.affcore) else (upFrom (64 * d) 64).find? (fun c => !s.reservedFor d u c)) with
          | none => s
          | some c => s.setTask d u { t with reserved := some c })

/-- A ready record of equal or higher priority that could be placed on the core of a task (R129). -/
def State.rival (s : State) (d u : Nat) (t : Task) (c : Nat) : Bool :=
  (s.die d).compass.tasks.any (fun q => q.1 != u && q.2.kind == 0 && decide (t.prio ≤ q.2.prio) && s.eligible d q.1 q.2 && s.coreFits d c q.2 &&
    !s.barred d q.1 c q.2)

/-- The quantum of a task has passed (R129): a pre-emption is requested, or the quantum restarts. -/
def execQuantumExpiry (d u : Nat) (s : State) : Host.Outcome State Fault Refusal :=
  onUnit (dieOk d) (match s.task? d u with
    | none => s
    | some t => match t.ctx, s.graph? d t.graph with
      | some g, some x =>
        if !t.preemptible || t.save = 0 || (s.ctx g).life != .active || decide (s.tick < t.quantum + 2 ^ x.qlog) then s
        else if s.rival d u t (coreOfCtx g) then s.modCtx g (fun c => c.request false)
        else s.setTask d u { t with quantum := s.tick }
      | _, _ => s)

-- Launch and resume (R101, R116, R123, R130, R141) ----------------------------------------------------------------------------

/-- The context of a launch or of a resume after a suspension point. -/
def launchCtx (t : Task) (u : Nat) (wnd : Map W64) (pkr0 : W64) (deferred : Map Deferred) : Ctx :=
  { Ctx.init with
    pc := w64 (bits (t.word 0) 56 0), regs := [(0, t.word 4), (1, t.word 5), (2, t.word 6)], seed := w64 (bits (t.word 7) 63 40),
    wnd := wnd, pkr := pkr0, deferred := deferred, task := some u, life := .active }

/-- Faults that arose after a save join the pending ones of the resumed context, one of each cause (R34, R229). -/
def joinFaults (m late : Map Deferred) : Map Deferred := late.foldl (fun m x => if (find? x.1 m).isSome then m else put x.1 x.2 m) m

/-- The bound context of a task begins to run, which wakes an idle die (R450). A fault of an array instruction that came after the record was written
back, and that its resume has not taken, is dropped here (R141, R297; log 102). -/
def State.activate (s : State) (d u g : Nat) (t : Task) (c : Ctx) : State :=
  let s := (((s.setCtx g c).dropRoc (coreOfCtx g)).learnAll d).wake d
  let s := s.modCore (coreOfCtx g) (fun k => if k.array.holder = some u then { k with array := { k.array with paused := false } } else k)
  s.setTask d u { t with st := 4, ctx := some g, bound := s.tick, quantum := s.tick, restore := false, drained := false, faults := [], loadFaults := false, kept := [], spoiled := [] }

/-- A core task is launched, or resumed after a suspension point (R116); its lost elements are counted from there (R393). -/
def State.launch (s : State) (d u g : Nat) (t : Task) (x : Graph) : Io State :=
  (s.readWindows d x.wset).bind (fun w =>
    (if t.loadFaults then (s.unitBytes d (t.save + 0xD08) 224).bind (fun bs => .ok (pendingOf bs)) else .ok []).bind (fun m =>
      .ok (s.activate d u g { t with lost := 0 } (launchCtx t u w x.pkr0 m))))

/-- A task is resumed after an involuntary pre-emption (R116, R130, R167): with its tiles and scratchpad when it was drained. -/
def State.resume (s : State) (d u g : Nat) (t : Task) : Io State :=
  (s.unitBytes d t.save 4096).bind (fun bs =>
    let c := restoreImage bs u (s.restoreDeps d bs)
    let c := { c with l5 := ⟨t.l5.tok, false⟩, entryLevels := t.nest, deferred := joinFaults (c.deferred.map (fun q => (q.1, q.2.reminded (find? q.1 t.kept) t))) t.faults }
    if !t.drained then .ok (s.activate d u g t c)
    else
      let core := coreOfCtx g
      (s.unitBytes d (t.save + 4096) (65536 * t.tiles.length + t.spadBytes)).bind (fun img =>
        let s := (t.tiles.zip (upFrom 0 4)).foldl (fun s p => s.restoreTile core p.1 (imgN bs (0xE40 + 32 * p.2) 32) (img.drop (65536 * p.2))) s
        let s := (s.spadWrite core t 0 (img.drop (65536 * t.tiles.length))).spoilAgain core t
        .ok (s.activate d u g t c)))

/-- A node ends: its action has failed (R118). -/
def State.failNode (s : State) (d u : Nat) : State := s.modTask d u (fun t => { t with stop := some (.faulted 6) })

/-- The launch of a collective node: it takes a number of a group that exists and has no member task, and fails where there is one (R409, R410). -/
def State.launchCollective (s : State) (d u : Nat) (t : Task) : Io State :=
  ((s.unitWords d (bits (t.word 0) 51 0) 8).orElse []).bind (fun ws =>
    let x := s.grp d (cdGrp ws)
    if !x.v || ws.isEmpty then .ok (s.setTask d u { t with st := 4, number := none })
    else if x.member.isSome then .ok ((s.setTask d u { t with st := 4, number := none }).failNode d u)
    else .ok ((s.setTask d u { t with st := 4, number := some x.seq }).setGrp d (cdGrp ws) { x with seq := (x.seq + 1) % 2 ^ 32 }))

/-- Every lease is granted: the task starts, or the node runs (R123, R132, R133); none of a disabled graph does (R142). -/
def execTaskLaunch (d u : Nat) (s : State) : Host.Outcome State Fault Refusal :=
  onUnit (dieOk d) (match s.task? d u with
    | none => s
    | some t =>
      if t.st != 3 || t.leases.any (fun l => l.stage != 2) || (match s.graph? d t.graph with | some g => g.disabled | none => false) then s
      else if t.kind = 2 then (s.launchCollective d u t).orKeep s
      else if t.kind != 0 then s.setTask d u { t with st := 4 }
      else match t.core.bind (fun c => (upFrom (4 * c) 4).find? (fun g => (s.ctx g).life == Life.reserved && (s.ctx g).task == some u)), s.graph? d t.graph with
        | some g, some x => ((if t.restore then s.resume d u g t else s.launch d u g t x)).orKeep s
        | _, _ => s)

/-- A page cannot be made resident: the record is FAULTED and its context FREE (R123, R133). -/
def execResidencyRefused (d u : Nat) (s : State) : Host.Outcome State Fault Refusal :=
  onUnit (dieOk d) (match s.task? d u with
    | none => s
    | some t =>
      if t.st != 3 || t.leases.all (fun l => l.stage != 3) then s
      else
        let s1 := match t.core with
          | none => s
          | some c => (upFrom (4 * c) 4).foldl (fun s g => if (s.ctx g).life == Life.reserved && (s.ctx g).task == some u then s.modCtx g Ctx.freed else s) s
        ((s1.endRecord d u 2).bind (fun s => (s.closeTask d u).graphDone d t.graph)).orKeep s)

-- Write-back (R140, R141, R191) -----------------------------------------------------------------------------------------------

/-- Everything that a task left behind has ended: its commands, its writes, its spawns, and the probes of its dependency entries. -/
def State.leftDone (s : State) (d u : Nat) (t : Task) : Bool :=
  !s.cmdsOut d u (fun _ => true) && s.net.all (fun q => q.2.origin != d || q.2.task != some u || q.2.kind == .read || q.2.kind == .probe) &&
    !(s.die d).compass.spawns.any (fun q => q.u == u) && t.deps.all s.covered

/-- The error records of faults that outlived a binding (R141, R449). -/
def State.reportOutlived (s : State) (d : Nat) (t : Task) : State :=
  t.faults.foldl (fun s f => s.errorRecord d 7 (match t.core with | some c => c % 64 | none => 255) (causeEngine f.1 f.2.info) 0 (w64 f.1) 0 0 (w64 t.ia)) s

/-- The releases of an ended record: each record on its successor list once, in list order (R134; log 48). -/
def State.successors (s : State) (d : Nat) (t : Task) : Io (List Act) :=
  if t.succ = 0 then .ok [] else (s.recordList d t.succ).bind (fun l => .ok ((l.getD []).eraseDups.map .release))

/-- The record of a task that suspended or yielded is written back (R140, R141): pending faults go to the save area. -/
def State.writeSuspended (s : State) (d u : Nat) (t : Task) (yields : Bool) : Io State :=
  let st := if yields || t.pred = 0 then 1 else 0
  (if t.save = 0 then .ok s else s.unitStore d (t.save + 0xD08) (pendingImage t.faults)).bind (fun s => (s.writeRecord d t st).bind (fun s =>
    let s := s.giveUp d u t.leases s.nextId
    let (n, s) := if yields then s.fresh else (t.order, s)
    .ok (s.setTask d u { t with st := st, slot := if st = 1 then t.slot else 0, suspended := decide (st = 0), order := n, leases := [], stop := none,
                                faults := [], deps := [], loadFaults := t.save != 0 })))

/-- A record is written back, with what follows: releases, faults, the end of its graph (R134, R140 to R142, R392). -/
def State.writeBack (s : State) (d u : Nat) (t : Task) (w : Stop) : Io State :=
  let s := match t.core with | none => s | some c => s.abandonParked c u
  match s.task? d u with
  | none => .ok s
  | some t =>
    let s := s.reportOutlived d t
    let code := if (find? 6 t.faults).isSome then 3 else match w with
      | .faulted c => c
      | .ended => if t.faults.isEmpty then 0 else 7
      | _ => if t.faults.isEmpty || t.save != 0 then 0 else 7
    if code != 0 then (s.endRecord d u code).bind (fun s => (s.closeTask d u).graphDone d t.graph)
    else match w with
      | .suspend => (s.writeSuspended d u t false).bind (fun s => s.graphDone d t.graph)
      | .yield => s.writeSuspended d u t true
      | _ => (s.successors d t).bind (fun acts => (s.endRecord d u 0).bind (fun s => (s.closeTask d u).runEvent d t.graph acts))

/-- The record of a stopped task is written back once everything it left behind has ended. A pre-empted record for which a command has found a
footprint violation is FAULTED at once, and gives up what it holds when its commands have completed (R124). -/
def execRecordWriteBack (d u : Nat) (s : State) : Host.Outcome State Fault Refusal :=
  onUnit (dieOk d) (match s.task? d u with
    | none => s
    | some t => match t.stop with
      | some w =>
        if t.kind = 3 && w == .ended || !s.leftDone d u t then s
        else if t.st = 7 then s.closeTask d u
        else (s.writeBack d u t w).orKeep s
      | none =>
        if t.st = 5 && (find? 6 t.faults).isSome then
          ((s.endRecord d u 3).bind (fun s =>
            let s := s.modTask d u (fun t => { t with stop := some (.faulted 3), faults := [] })
            (if t.core.isNone then s.closeTask d u else s).graphDone d t.graph)).orKeep s
        else s)

-- Nodes (R118, R135, R230, R410) ----------------------------------------------------------------------------------------------

/-- A running node that has not acted yet. -/
def Task.nodeRuns (t : Task) (kind : Nat) : Bool := t.st == 4 && t.kind == kind && t.stop.isNone

/-- The action object of a node (R113, R118). -/
def Task.object (t : Task) : Nat := bits (t.word 0) 51 0

/-- A join ends as soon as it is launched (R118). -/
def execJoinNodeEnd (d u : Nat) (s : State) : Host.Outcome State Fault Refusal :=
  onUnit (dieOk d) (match s.task? d u with
    | none => s
    | some t => if t.nodeRuns 5 then (s.writeBack d u t .ended).orKeep s else s)

/-- A notify node writes its entry; a malformed action object drops it (R444, R445). -/
def execNotifyNodeRun (d u : Nat) (s : State) : Host.Outcome State Fault Refusal :=
  onUnit (dieOk d) (match s.task? d u with
    | none => s
    | some t =>
      if !t.nodeRuns 4 then s
      else (((s.unitWords d t.object 1).orElse [w64 (2 ^ 63)]).bind (fun ws =>
        let w := wordN ws 0
        let s := if bits w 63 10 = 0 then s.toRing d (bits w 9 0) 1 [t.word 4, t.word 5, t.word 6, w64 t.ia] else s
        s.writeBack d u t .ended)).orKeep s)

/-- A conditional node acts, in the order of R135: snapshot, selector, re-arms, the selected successor, its own end. -/
def State.conditional (s : State) (d u : Nat) (t : Task) (g : Graph) : Io State :=
  (if t.snap then s.snapshot d g.btab g.bsnap 0 g.bcount else .ok s).bind (fun s =>
    (if t.object % 4 != 0 then .ok none else (((s.unitBytes d t.object 4).bind (fun bs => .ok (some (ofBytes bs)))).orElse none)).bind (fun sel => match sel with
      | none => (s.endRecord d u 5).bind (fun s => (s.closeTask d u).graphDone d t.graph)
      | some k =>
        (if t.word 4 = 0 then .ok [] else (s.rearmList d (bits (t.word 4) 51 0)).bind (fun l => .ok (l.getD []))).bind (fun rs =>
          (if t.succ = 0 then .ok [] else (s.recordList d t.succ).bind (fun l => .ok (l.getD []))).bind (fun xs =>
            let self := ((rs.filter (fun r => r.1 == t.ia)).map (·.2)).getLast?
            let acts := ((rs.filter (fun r => r.1 != t.ia)).map (fun r => .rearm r.1 r.2)) ++ (match xs[k]? with | some ia => [.release ia] | none => []) ++
              [.endNode u self]
            (s.setTask d u { t with stop := some .ended }).runEvent d t.graph acts))))

def execConditionalNodeRun (d u : Nat) (s : State) : Host.Outcome State Fault Refusal :=
  onUnit (dieOk d) (match s.task? d u with
    | none => s
    | some t => match s.graph? d t.graph with
      | none => s
      | some g => if t.nodeRuns 3 then (s.conditional d u t g).orKeep s else s)

/-- The tag of a node's command: its die is its origin, and it has no context. Its accesses take the key rights pkr0 of its graph (R230; log 107). -/
def State.nodeTag (s : State) (d u : Nat) (t : Task) : Tag × State :=
  let (tok, s) := s.fresh
  let pkr := match s.graph? d t.graph with | some g => g.pkr0 | none => 0
  (⟨256 * d, u, 0, 255, tok, [], [], t.card, pkr, t.sys, w64 (bits (t.word 7) 63 40), 0⟩, s)

/-- The format and geometry of a side of a copy node: its own, or the leaf's of its first page (R223). -/
def State.nodeFmt (s : State) (d kind : Nat) (x : Bool) (f g ia : Nat) : Nat × Nat :=
  if kind != 4 || x then (f, g) else match s.leafOf d ia with | none => (0, 0) | some (_, e) => (leafFmt e, leafGeo e)

/-- The command of a copy node, or none when R230 fails it. -/
def State.nodeCopy (s : State) (d : Nat) (t : Task) (tag : Tag) (ws : List W64) : Option CopyCmd :=
  let kind := descKind ws
  let w2 := wordN ws 2
  if kind = 0 || 4 < kind || !copyWordsOk kind true ws then none
  else
    let (sa, da) := (descSrc ws, descDst ws)
    let (sf, sg) := s.nodeFmt d kind (descSx ws) (bits w2 59 54) (bits w2 53 50) sa
    let (df, dg) := s.nodeFmt d kind (descDx ws) (bits w2 48 43) (bits w2 42 39) da
    if kind == 4 && (sg == 2 || dg == 2 || ((isMX sg || isMX dg) && descLen ws % 32 != 0) || !sideStartOk sg sa || !sideStartOk dg da) then none
    else
      let ((sb, sl), (db, dl)) := copyExtents kind ws sa da sf sg df dg
      if sa < sb || da < db || (footprintMiss t.card false (sa - sb) sl).isSome || (footprintMiss t.card true (da - db) dl).isSome then none
      else some { tag := tag, node := true, words := ws, sbase := sa, dbase := da, ssd := 0, dsd := 0, sfmt := sf, sgeo := sg, dfmt := df, dgeo := dg,
                  dlo := da - db, dlen := dl, run := false, pos := 0, ahead := [], cred := 0, fault := none }

/-- A copy node enters the node copier's queue, or fails (R118, R230). -/
def execCopyNodeRun (d u : Nat) (s : State) : Host.Outcome State Fault Refusal :=
  onUnit (dieOk d) (match s.task? d u with
    | none => s
    | some t =>
      let c := 64 * d
      if !t.nodeRuns 1 || decide (16 ≤ (s.channel c 2).cmds.length) || (s.channel c 2).cmds.any (fun q => q.2.tag.u == u) then s
      else (((s.unitWords d t.object 8).bind (fun ws => if descKind ws = 2 then s.unitWords d t.object 32 else .ok ws)).orElse []).bind (fun ws =>
        let (tag, s) := s.nodeTag d u t
        match s.nodeCopy d t tag ws with
        | none => .ok (s.endNode d u false)
        | some m => let x := s.channel c 2; .ok (s.setChannel c 2 { x with cmds := put tag.tok m x.cmds })) |>.orKeep s)

/-- The command of a collective node, or none when R410 fails it. -/
def State.nodeCollective (s : State) (d : Nat) (t : Task) (tag : Tag) (ws : List W64) : Io (Option ColCmd) :=
  let kind := cdKind ws
  let grp := cdGrp ws
  let x := s.grp d grp
  if kind = 0 || 3 < kind || !cdOk kind ws true || bit (wordN ws 1) 63 || bit (wordN ws 2) 63 || cdSv ws || cdSta ws != 0 || !x.v then .ok none
  else
    let layA := bits (wordN ws 5) 51 0
    let layB := bits (wordN ws 6) 51 0
    if kind = 3 && (layA % 64 != 0 || layB % 64 != 0) then .ok none else
    (if kind != 3 then .ok [] else ((s.unitWords d layA 16).bind (fun a => (s.unitWords d layB 16).bind (fun b => .ok (a ++ b)))).orElse []).bind (fun lay =>
      let (la, lb) := (lay.take 16, lay.drop 16)
      let sl := if kind = 3 then laySpan la else cdLen ws
      let dl := cdLen ws
      let src := bits (wordN ws 1) 56 0
      let dst := bits (wordN ws 2) 56 0
      if (kind == 3 && (!layOk la x.n || !layOk lb x.n || !layPairOk la lb x.n dl)) || decide (2 ^ 52 ≤ src) || decide (2 ^ 52 ≤ dst) ||
          (kind != 2 && ((footprintMiss t.card false src sl).isSome || (footprintMiss t.card true dst dl).isSome)) then .ok none
      else .ok (some { (ColCmd.blank tag (if kind = 1 then 0x3B else if kind = 2 then 0x3D else 0x3C) 0 0 0 grp x) with
        node := true, sig := cdSig ws lay, ws := ws, lay := lay, sbase := src, dbase := dst, trp := cdTrp ws, total := dl, phase := 1 }))

/-- A collective node joins its group's collective as a member without a member task, with the number that it took at its launch, or fails (R409,
R410). It waits while the die has 64 collectives in flight (R430). -/
def execCollectiveNodeRun (d u : Nat) (s : State) : Host.Outcome State Fault Refusal :=
  onUnit (dieOk d) (match s.task? d u with
    | none => s
    | some t =>
      if !t.nodeRuns 2 || (s.die d).coll.queue.any (fun q => q.2.tag.u == u && q.2.node) || decide (64 ≤ collectives (s.die d).coll.queue) then s
      else ((s.unitWords d t.object 8).orElse []).bind (fun ws =>
        let (tag, s) := s.nodeTag d u t
        (s.nodeCollective d t tag ws).bind (fun m => match m, t.number with
          | some m, some q => .ok (s.modColl d (fun c => { c with queue := put tag.tok { m with seq := q } c.queue }))
          | _, _ => .ok (s.endNode d u false))) |>.orKeep s)

-- Spawn (R139) ----------------------------------------------------------------------------------------------------------------

/-- spawn: the record's VA is checked, and Compass is asked; the predicate pair is pending until it answers. -/
def execSpawn (b : BitVec 3) (x : BitVec 7) (s : State) : Host.Outcome State Fault Refusal :=
  .next (
    let (p, q) := (128 + b.toNat, 128 + b.toNat + 1)
    s.withDests [p, q] (s.withSource x (fun v => s.globalCheck false v.toNat 64 64 (fun ia _ => s.afterAcquire (
      let (tok, s) := s.fresh
      let a : Spawn := ⟨s.cur, s.pre.task.getD 0, b.toNat, ia, s.pendingSet s.cur, tok, false, s.pre.pkr⟩
      let s := s.modMe (fun c => { c with pend := (p, tok) :: (q, tok) :: c.pend })
      s.modCompass s.myDie (fun k => { k with spawns := k.spawns ++ [a] }))))))

/-- The predicates of a spawn written, if its context still holds the task; a gsub has none. -/
def State.answerSpawn (s : State) (a : Spawn) (x y : Bool) : State :=
  let s := s.modCompass (dieOfCtx a.g) (fun k => { k with spawns := k.spawns.filter (fun z => z.tok != a.tok) })
  if a.gsub || (s.ctx a.g).task != some a.u then s
  else s.modCtx a.g (fun c => { ((c.setP a.pb x).setP (a.pb + 1) y) with pend := c.pend.filter (fun p => p.2 != a.tok) })

/-- Compass answers a spawn: in the pool or WAITING, QUEUED, deferred, or rejected. -/
def State.spawnNow (s : State) (d : Nat) (a : Spawn) (t : Task) (g : Graph) (ws : List W64) : Io State :=
  let sysOk := t.sys
  (s.checkRecord d g.wset sysOk ws).bind (fun c => match c with
    | none => (s.graphFault d t.graph 1 a.ia).bind (fun s => .ok (s.answerSpawn a false true))
    | some card =>
      let pred := bits (wordN ws 1) 63 48
      let full := decide (2 ^ g.ovlog ≤ g.queue.length)
      if pred = 0 && (s.die d).compass.slotFor false = 0 && full then .ok (s.answerSpawn a false false)
      else
        let s := s.modCompass d (fun k => { k with tasks := k.tasks.filter (fun q => !(q.2.graph == t.graph && q.2.ia == a.ia && !q.2.isOpen && q.2.core.isNone)) })
        let (u, s) := s.addTask d (Task.enter a.ia t.graph ws card sysOk (some a.u))
        if pred != 0 then .ok (s.answerSpawn a true false)
        else (s.submit d u false).bind (fun r => match r.2.task? d u with
          | none => .ok r.2
          | some x => .ok (r.2.answerSpawn a true (x.st == 2))))

/-- A spawn waits for the accesses of its context before it: its loads have returned, its causal writes are acknowledged, and what they
depend on has been applied (R184; log 23). -/
def State.spawnHeld (s : State) (a : Spawn) : Bool :=
  let c := s.ctx a.g
  s.net.any (fun q => q.2.ownedBy a.g (some a.u) && decide (q.1 < a.tok) && q.2.kind.causal) || !a.ents.all s.covered ||
    (c.task == some a.u && (s.loadBefore a.g a.tok none || c.deps.any (fun x => decide (x.brought < a.tok) && !s.covered x.ent)))

/-- gsub reads its descriptor when Compass comes to it (R142; log 86). -/
def State.gsubLater (s : State) (ia : Nat) : State :=
  let (tok, t) := s.fresh
  t.modCompass s.myDie (fun k => { k with spawns := k.spawns ++ [⟨s.cur, s.pre.task.getD 0, 0, ia, s.pendingSet s.cur, tok, true, s.pre.pkr⟩] })

/-- The descriptor of a gsub is submitted; one that can no longer be read refuses nothing that has a status word (log 86). -/
def State.gsubNow (s : State) (d : Nat) (a : Spawn) (bs : List Byte) : Io State :=
  (s.submitGraph d (wordsOf 8 bs)).bind (fun s => .ok (s.answerSpawn a false false))

/-- The oldest spawn of a context is answered, or its gsub acts; its record is read with the entries of the issuing context. -/
def execSpawnAnswer (g : Nat) (s : State) : Host.Outcome State Fault Refusal :=
  onUnit (ctxOk g) (
    let d := dieOfCtx g
    match (s.die d).compass.spawns.find? (fun a => a.g == g) with
    | none => s
    | some a => if s.spawnHeld a then s else match s.task? d a.u with
      | none => s.answerSpawn a false true
      | some t => match s.graph? d t.graph with
        | none => s.answerSpawn a false true
        | some x => Io.orKeep (match s.readMany d .load a.ents (pagePieces 2 a.ia 64) with
          | .wait n => .wait n
          | .denied _ => if a.gsub then .ok (s.answerSpawn a false false) else s.spawnNow d a t x []
          | .ok bs key _ _ => if a.gsub then (if keyReads a.pkr key then s.gsubNow d a bs else .ok (s.answerSpawn a false false)) else s.spawnNow d a t x (wordsOf 8 bs)) s)

-- Suspension points (R140) ----------------------------------------------------------------------------------------------------

/-- suspend, yield and end act after their bundle commits; suspend and yield read s0 to s2, and wait for them (R20). -/
def State.stopPoint (s : State) (w : Stop) : State :=
  if w != .ended && s.pre.carryPending then s.stall
  else if s.bun.on then s.modBun (fun f => { f with stop := some w })
  else s.stopTask s.cur s.me.pc w

def execSuspend (s : State) : Host.Outcome State Fault Refusal := .next (s.stopPoint .suspend)
def execYield (s : State) : Host.Outcome State Fault Refusal := .next (s.stopPoint .yield)
def execEndTask (s : State) : Host.Outcome State Fault Refusal := .next (s.stopPoint .ended)

-- The live record (R142) ------------------------------------------------------------------------------------------------------

/-- tld: a word of the live record; the state of a running task is 4. -/
def execTld (w : BitVec 3) (x : BitVec 7) (s : State) : Host.Outcome State Fault Refusal :=
  .next (s.withDests [x.toNat] (match s.boundTask s.cur with
    | none => s.undefinedEncoding
    | some t => s.writeReg x (if w = 1 then w64 (setBitsN (t.word 1).toNat 47 44 4) else t.word w.toNat)))

/-- What tst leaves of word w. -/
def tstWord (old v : W64) (w : Nat) (sys : Bool) : W64 :=
  match w with
  | 1 => w64 (setBitsN (setBitsN old.toNat 63 48 (bits v 63 48)) 22 21 (bits v 22 21))
  | 2 => w64 (bits v 51 0)
  | 3 => w64 (bits v 51 0)
  | 7 => if sys then v else w64 (setBitsN old.toNat 63 40 (bits v 63 40))
  | _ => v

def execTst (w : BitVec 3) (x : BitVec 7) (s : State) : Host.Outcome State Fault Refusal :=
  .next (if w = 0 then s.undefinedEncoding
    else s.withSource x (fun v => match s.boundTask s.cur, s.me.task with
      | some t, some u =>
        if (w = 2 || w = 3) && v.toNat % 64 != 0 then s.raise 4 (w64 (bits v 56 0))
        else s.setTask s.myDie u { t with words := setAt w.toNat (tstWord (t.word w.toNat) v w.toNat t.sys) t.words }
      | _, _ => s.undefinedEncoding))

/-- The bundle in flight has issued a store, which leaves the core before its S0 slot acts (R43). -/
def State.storesNow (s : State) : Bool := s.bun.on && s.net.any (fun q => decide (s.bun.first ≤ q.1) && q.2.g == s.cur && q.2.kind != .read)

/-- Something stands before the reading of a gsub's descriptor: a store of its own bundle, or accesses of its context that are not over (R43, R142). -/
def State.gsubBehind (s : State) : Bool := s.storesNow || s.acquireOut s.cur || s.loadsOut s.cur || s.unnumbered s.cur

/-- gsub: the descriptor at a VA is read as a load reads it, and submitted (R119, R142). It never waits: what cannot be read or submitted now is left to
Compass (log 86). -/
def execGsub (x : BitVec 7) (s : State) : Host.Outcome State Fault Refusal :=
  .next (s.systemOnly (s.withSource x (fun v => s.globalCheck false v.toNat 64 64 (fun ia _ =>
    if s.gsubBehind then s.gsubLater ia
    else match s.readMany s.myDie .load (s.pendingSet s.cur) (pagePieces 3 ia 64) with
      | .wait _ => s.gsubLater ia
      | .denied w => s.raise (denialPoison false w ia).cause (denialPoison false w ia).info
      | .ok bs key st _ =>
        if !keyReads s.pre.pkr key then s.raise 7 (info07 ia key)
        else
          let ds := mergedDeps s.tick s.nextId s.me.deps st
          if 8 < ds.length then s.gsubLater ia
          else match ((s.modMe (fun c => { c with deps := ds })).learnAll s.myDie).submitGraph s.myDie (wordsOf 8 bs) with
            | .ok t => t
            | _ => s.gsubLater ia))))

end Sys2Proof.Machine
end

