-- ==== Sys2Proof/Machine/Shake.lean ====
section
/-! DEFINITION. SHAKE256 with 64 bytes of output, which the manual names for digests (R452), as FIPS 202 defines it (PRESUMED, log 10). -/

namespace Sys2Proof.Machine

/-- A 64-bit lane rotated left. -/
def rotl64 (x n : Nat) : Nat := (x * 2 ^ (n % 64) + x / 2 ^ (64 - n % 64)) % 2 ^ 64

/-- The round constants of Keccak-f[1600]. -/
def keccakRC : List Nat :=
  [0x0000000000000001, 0x0000000000008082, 0x800000000000808A, 0x8000000080008000, 0x000000000000808B, 0x0000000080000001, 0x8000000080008081,
   0x8000000000008009, 0x000000000000008A, 0x0000000000000088, 0x0000000080008009, 0x000000008000000A] ++
  [0x000000008000808B, 0x800000000000008B, 0x8000000000008089, 0x8000000000008003, 0x8000000000008002, 0x8000000000000080, 0x000000000000800A,
   0x800000008000000A, 0x8000000080008081, 0x8000000000008080, 0x0000000080000001, 0x8000000080008008]

/-- The rotation of lane x + 5y. -/
def keccakRot : List Nat := [0, 1, 62, 28, 27, 36, 44, 6, 55, 20, 3, 10, 43, 25, 39, 41, 45, 15, 21, 8, 18, 2, 61, 56, 14]

/-- One round on the 25 lanes. -/
def keccakRound (a : List Nat) (rc : Nat) : List Nat :=
  let lane := fun (l : List Nat) (x y : Nat) => l.getD (x % 5 + 5 * (y % 5)) 0
  let c := (upFrom 0 5).map (fun x => (upFrom 0 5).foldl (fun v y => v ^^^ lane a x y) 0)
  let d := (upFrom 0 5).map (fun x => c.getD ((x + 4) % 5) 0 ^^^ rotl64 (c.getD ((x + 1) % 5) 0) 1)
  let t := (upFrom 0 25).map (fun i => a.getD i 0 ^^^ d.getD (i % 5) 0)
  let b := (upFrom 0 25).map (fun i =>
    let (x, y) := (i % 5, i / 5)
    let x0 := (x + 3 * y) % 5
    rotl64 (lane t x0 x) (lane keccakRot x0 x))
  let e := (upFrom 0 25).map (fun i => let (x, y) := (i % 5, i / 5); lane b x y ^^^ ((2 ^ 64 - 1 - lane b (x + 1) y) &&& lane b (x + 2) y))
  setAt 0 (e.getD 0 0 ^^^ rc) e

def keccakF (a : List Nat) : List Nat := keccakRC.foldl keccakRound a

/-- The blocks of 136 bytes of a padded message. -/
def shakeBlocks : Nat → List Byte → List (List Byte)
  | 0, _ => []
  | n + 1, bs => bs.take 136 :: shakeBlocks n (bs.drop 136)

/-- The padded message: 0x1F, zeros, and the last bit. -/
def shakePad (bs : List Byte) : List Byte :=
  let n := bs.length % 136
  if n = 135 then bs ++ [0x9F] else bs ++ [0x1F] ++ List.replicate (134 - n) 0 ++ [0x80]

/-- SHAKE256 of bytes, 64 bytes out. -/
def shake256 (bs : List Byte) : List Byte :=
  let m := shakePad bs
  let absorb := fun (a : List Nat) (blk : List Byte) => keccakF ((upFrom 0 25).map (fun i => a.getD i 0 ^^^ (if i < 17 then ofBytes ((blk.drop (8 * i)).take 8) else 0)))
  (((shakeBlocks (m.length / 136) m).foldl absorb (List.replicate 25 0)).take 8).flatMap (bytesOf 8)

end Sys2Proof.Machine
end

