-- ==== Sys2Proof/Machine/HostIf.lean ====
section
/-! DEFINITION. The host interface and the management side (R436 to R454): access tables, registers, apertures, host rings, errors, power, boot and
the management controller. -/

namespace Sys2Proof.Machine

-- Access tables (R441) --------------------------------------------------------------------------------------------------------

/-- The masters that exist. -/
def masterOk (m : Nat) : Bool := decide (m ≤ 32) || (decide (40 ≤ m) && decide (m ≤ 43))

/-- An entry holds a request of n bytes at an address of a space. -/
def entryHolds (e sp a n : Nat) : Bool :=
  bitN e 63 && bitsN e 62 61 == sp && decide (bitsN e 60 12 * 4096 ≤ a) && decide (a + n ≤ bitsN e 60 12 * 4096 + bitsN e 88 64 * 4096)

/-- A die's table grants an access of a master: the first entry that holds it decides; before firmware has written the table, masters 0 and 32
are granted. A die in recovery serves the management controller alone (R452). -/
def State.granted (s : State) (d m sp a n : Nat) (wr : Bool) : Bool :=
  let k := s.die d
  masterOk m && (!k.recovery || m == 32) && (if !k.tableWritten then m == 0 || m == 32
    else match ((upFrom 0 256).map (fun i => getD i 0 k.access)).find? (fun e => entryHolds e sp a n) with
      | some e => bitN e ((if wr then 192 else 128) + m)
      | none => false)

/-- A denial is recorded (R441, R449). -/
def State.denied (s : State) (d m a : Nat) : State := s.errorRecord d 5 255 0 (w64 a) (w64 m) 0 0 0

/-- The denial of an error record's own entry is kept for the management controller; no further entry is sent, which would be denied in
turn (R441; log 62). -/
def State.deniedRecord (s : State) (d m a : Nat) : State := s.keepRecord d (s.errorWords d 5 255 0 (w64 a) (w64 m) 0 0 0)

-- Host rings (R443 to R446) ---------------------------------------------------------------------------------------------------

def Ring.init : Ring := ⟨0, 0, 0, 0, 0, 0, 0⟩
def Pkg.ring (p : Pkg) (r : Nat) : Ring := getD r Ring.init p.rings
def Pkg.setRing (p : Pkg) (r : Nat) (x : Ring) : Pkg := { p with rings := put r x p.rings }
def Ring.en (x : Ring) : Bool := bit x.cfg1 63
def Ring.open_ (x : Ring) : Bool := bit x.cfg1 62
def Ring.port (x : Ring) : Nat := bits x.cfg1 61 61
def Ring.lsz (x : Ring) : Nat := bits x.cfg1 60 56
def Ring.vec (x : Ring) : Nat := bits x.cfg1 55 45
def Ring.ccnt (x : Ring) : Nat := bits x.cfg1 44 37
def Ring.ctim (x : Ring) : Nat := bits x.cfg1 36 20

/-- A ring is full when t - h = 2^lsz (R445). -/
def Ring.full (x : Ring) : Bool := (x.tail + 2 ^ 32 - x.head) % 2 ^ 32 == 2 ^ x.lsz

/-- The ring's MSI-X message is sent (R446). -/
def Pkg.interrupt (p : Pkg) (r : Nat) : Pkg :=
  let x := p.ring r
  let k := 2 ^ 11 * x.port + x.vec
  { (p.setRing r { x with pending := 0 }) with msix := put k (getD k 0 p.msix + 1) p.msix }

/-- Words written to host memory from an address on. -/
def hostWords (a : Nat) (m : Map W64) (ws : List W64) : Map W64 := (ws.zip (upFrom 0 ws.length)).foldl (fun m w => put (a / 8 + w.2) w.1 m) m

/-- Where the next entry of a ring is written in host memory (R444). -/
def Ring.entryAt (x : Ring) : Nat := bits x.cfg0 63 12 * 4096 + 64 * (x.tail % 2 ^ x.lsz)

/-- An entry written: words 1 to 7, then word 0 with its phase; then the interrupt, if it is due (R444, R446). -/
def Pkg.writeEntry (p : Pkg) (tick : Nat) (e : RingEntry) : Pkg :=
  let x := p.ring e.ring
  let j := x.tail
  let a := x.entryAt
  let ph := (j / 2 ^ x.lsz + 1) % 2
  let ws := e.words.take 7 ++ List.replicate (7 - e.words.length) 0
  let p := { p with host := hostWords a (hostWords (a + 8) p.host ws) [w64 (ph * 2 ^ 63 + e.kind * 2 ^ 56 + e.die * 2 ^ 45)] }
  let x := { x with tail := (j + 1) % 2 ^ 32, pending := x.pending + 1, oldest := if x.pending = 0 then tick else x.oldest }
  let p := p.setRing e.ring x
  if x.ccnt + 1 ≤ x.pending || x.ctim = 0 then p.interrupt e.ring else p

/-- An entry dropped (R445). -/
def Pkg.dropEntry (p : Pkg) (r : Nat) : Pkg :=
  let x := p.ring r
  p.setRing r { x with ovf := Nat.min (x.ovf + 1) (2 ^ 32 - 1) }

/-- The die of the port that serves a ring, which checks the device's write to host memory (R441). -/
def State.ringDie (s : State) (pk r : Nat) : Nat := 4 * pk + 2 * ((s.pkg pk).ring r).port

/-- The DMA of an entry is granted to its die. -/
def State.entryGranted (s : State) (pk : Nat) (e : RingEntry) : Bool :=
  s.granted (s.ringDie pk e.ring) (40 + e.die % 4) 2 ((s.pkg pk).ring e.ring).entryAt 64 true

/-- The lease requests of a page-in that fails are refused (R359, R441). -/
def State.refusePageIn (s : State) (page : Nat) : State := s.answerHeld page (fun l => { l with stage := 3 })

/-- The next entry of ring r is written, dropped, or left to wait; a denied one is dropped, and what needed it fails (R441, R444, R445). -/
def execRingEntryWrite (pk r : Nat) (s : State) : Host.Outcome State Fault Refusal :=
  onUnit (pkgOk pk) (
    let p := s.pkg pk
    let x := p.ring r
    let ok := x.en && !x.full
    match p.waiting.find? (fun e => e.ring == r && (ok || decide (1024 ≤ r) || !(e.kind == 4 || e.kind == 6))) with
    | none => s
    | some e =>
      let s := s.modPkg pk (fun p => { p with waiting := p.waiting.erase e })
      if 1024 ≤ r then s
      else if !ok then s.modPkg pk (fun p => p.dropEntry r)
      else if !s.entryGranted pk e then
        let s := s.modPkg pk (fun p => p.dropEntry r)
        let s := if e.kind = 4 then s.refusePageIn ((e.words.headD 0).toNat / 65536) else s
        (if e.kind = 6 then State.deniedRecord else State.denied) s (s.ringDie pk r) (40 + e.die % 4) x.entryAt
      else s.modPkg pk (fun p => p.writeEntry s.tick e))

/-- The oldest pending entry has waited ctim ticks (R446). -/
def execRingCoalesceTimeout (pk r : Nat) (s : State) : Host.Outcome State Fault Refusal :=
  onUnit (pkgOk pk) (
    let x := (s.pkg pk).ring r
    if x.pending = 0 || decide (s.tick < x.oldest + x.ctim) then s else s.modPkg pk (fun p => p.interrupt r))

/-- A host command that names a ring: the code it ends with, 0 when it may proceed (R447). -/
def State.hostCode (s : State) (t : Task) (ringWord : W64) : Nat :=
  let x := (s.pkg (s.myDie / 4)).ring ringWord.toNat
  if bits ringWord 63 10 != 0 then 1 else if !x.en || (!t.sys && !x.open_) then 2 else 0

/-- A host command completes: 8 bytes are credited in every case, and l5 takes its status (R447). -/
def State.endHost (s : State) (tag : Tag) (code seq : Nat) : State := (s.credit tag 8).reportL5 tag (haStatus code seq)

/-- hnote (R447). -/
def execHnote (g : BitVec 4) (a b : BitVec 7) (h : BitVec 8) (s : State) : Host.Outcome State Fault Refusal :=
  .next (s.engineSlot g (fun t => s.with2 a b (fun av bv =>
    let pk := s.myDie / 4
    let code := s.hostCode t bv
    let x := (s.pkg pk).ring bv.toNat
    let e : RingEntry := ⟨bv.toNat, 3, s.dieId s.myDie, [av, s.ctxId s.cur, w64 t.ia]⟩
    s.issueCommand t h 8 0 (s.refusal6 h) (fun tag s =>
      if code != 0 then s.endHost tag code 0
      else if x.full then (s.modPkg pk (fun p => p.dropEntry bv.toNat)).endHost tag 3 0
      else if !s.entryGranted pk e then
        ((s.modPkg pk (fun p => p.dropEntry bv.toNat)).denied (s.ringDie pk bv.toNat) (40 + s.myDie % 4) x.entryAt).endHost tag 3 0
      else (s.modPkg pk (fun p => p.writeEntry s.tick e)).endHost tag 0 x.tail))))

/-- hintr (R447). -/
def execHintr (g : BitVec 4) (a : BitVec 7) (h : BitVec 8) (s : State) : Host.Outcome State Fault Refusal :=
  .next (s.engineSlot g (fun t => s.withSource a (fun av =>
    let pk := s.myDie / 4
    let code := s.hostCode t av
    s.issueCommand t h 8 0 (s.refusal6 h) (fun tag s =>
      if code != 0 then s.endHost tag code 0 else (s.modPkg pk (fun p => p.interrupt av.toNat)).endHost tag 0 0))))

-- Registers (R437, R438) ------------------------------------------------------------------------------------------------------

/-- The reserved bits of an access-table entry read zero (R441). -/
def maskEntry (e : Nat) : Nat := setBitsN (setBitsN e 127 89 0) 11 0 0

/-- A counter that writing 1 bits clears. -/
def clearOnes (x v : Nat) : Nat := x &&& (2 ^ 64 - 1 - v)

/-- A write of hr.cfg1 (R443). -/
def Ring.setCfg1 (x : Ring) (v : W64) : Ring :=
  if x.en then (if bit v 63 then x else { x with cfg1 := w64 (setBitsN x.cfg1.toNat 63 63 0) }) else { x with cfg1 := w64 (bits v 63 20 * 2 ^ 20) }

/-- The ring that hr.sel names. -/
def State.modSelRing (s : State) (pk : Nat) (f : Ring → Ring) : State :=
  s.modPkg pk (fun p => let r := p.hrSel.toNat; p.setRing r (f (p.ring r)))

-- What a host posts (R439, R442) ----------------------------------------------------------------------------------------------

/-- The die of a port of a package. -/
def portDie (pk port : Nat) : Nat := 4 * pk + 2 * (port % 2)

def State.answerHost (s : State) (pk : Nat) (a : Option (List Byte)) : State := s.modPkg pk (fun p => { p with answer := a })

/-- An access of function fn (0 to 31, as its master number) through BAR2: n bytes, for a write those of v (R439). Its writes are applied at
once in the order in which they arrive; a denied read is an Unsupported Request. It wakes the dies it reaches (R450). -/
def State.bar2Access (s : State) (pk fn x : Nat) (wr : Bool) (n v : Nat) : Io State :=
  let d := portDie pk (fn / 16)
  let ia := (getD (fn % 16) 0 (s.die d).apb * 2 ^ 36 + x) % 2 ^ 52
  let t := match s.homeRec? d ia with | some (_, r) => r.owner | none => d
  let s := (s.wake d).wake t
  if !s.granted t fn 1 ia n wr then (let s := s.denied t fn ia; .ok (if wr then s else s.answerHost pk none))
  else
    let deps := (getD fn [] (s.pkg pk).fnDeps).filter (fun e => !s.covered e)
    let ps := pagePieces (n / 65536 + 2) ia n
    if wr then match s.writeMany d (2 ^ 32 - 1) deps (ps.map (fun p => (p.1, (bytesOf n v).drop (p.1 - ia) |>.take p.2))) with
      | .ok s => .ok s
      | .wait n => .wait n
      | .rejected _ _ _ u => (Io.fail 2 ia u).orSkip s
    else match s.readMany d .load deps ps with
      | .wait n => .wait n
      | .denied _ => .ok (s.answerHost pk none)
      | .ok bs _ st _ => .ok ((s.modPkg pk (fun p => { p with fnDeps := put fn (st.foldl mergeEnt deps) p.fnDeps })).answerHost pk (some bs))

/-- What has been posted is done: a graph submitted as gsub does, a graph disabled (R142, R442), a group created (R407), or an access. -/
def State.runPosted (s : State) (pk : Nat) : Posted → Io State
  | .access fn x wr n v => s.bar2Access pk fn x wr n v
  | .submit d v => ((s.unitWords d (bits v 51 0) 8).bind (s.submitGraph d)).orSkip s
  | .disable d v => (s.disableGraph d (bits v 51 0)).orSkip s
  | .group d i map v => s.writeCgEnt d i map v

/-- The die whose host interface what is posted waits at: that of its port, or the die of its registers. -/
def Posted.die (pk : Nat) : Posted → Nat
  | .access fn _ _ _ _ => portDie pk (fn / 16)
  | .submit d _ | .disable d _ | .group d _ _ _ => d

/-- What is posted in one order: the accesses of a function, the register writes of a die. -/
def Posted.lane : Posted → Nat
  | .access fn _ _ _ _ => fn
  | .submit d _ | .disable d _ | .group d _ _ _ => 32 + d % 4

/-- What has been posted is done in its order, each that must wait holding back what follows in its lane; with the rest. -/
def State.drainList (s : State) (pk : Nat) (held : List Nat) : List Posted → State × List Posted
  | [] => (s, [])
  | p :: ps =>
    if held.contains p.lane then let r := s.drainList pk held ps; (r.1, p :: r.2)
    else match s.runPosted pk p with
      | .ok s => s.drainList pk held ps
      | .wait n => let r := (s.meet n).drainList pk (p.lane :: held) ps; (r.1, p :: r.2)
      | .fail _ _ _ => s.drainList pk held ps

def State.drainPosted (s : State) (pk : Nat) : State :=
  if (s.pkg pk).posted.isEmpty then s
  else let r := s.drainList pk [] (s.pkg pk).posted; r.1.modPkg pk (fun k => { k with posted := r.2 })

/-- The host posts an access or a write, which is done as soon as it can be. -/
def State.post (s : State) (pk : Nat) (p : Posted) : State := (s.modPkg pk (fun k => { k with posted := k.posted ++ [p] })).drainPosted pk

/-- A write of a register of the hi block. -/
def State.writeHi (s : State) (d off : Nat) (v : W64) : State :=
  let pk := d / 4
  let md := s.modDie d
  if 0x48 ≤ off && off < 0x68 then
    let w := (off - 0x48) / 8
    md (fun k => { k with access := put k.asel (maskEntry (setBitsN (getD k.asel 0 k.access) (64 * w + 63) (64 * w) v.toNat)) k.access, tableWritten := true })
  else if 0x80 ≤ off && off < 0x100 then (if d % 2 = 0 then md (fun k => { k with apb := put ((off - 0x80) / 8) (bits v 15 0) k.apb }) else s)
  else match off with
    | 0x00 => s.post pk (.submit d v)
    | 0x08 => s.post pk (.disable d v)
    | 0x10 => md (fun k => { k with hiFlag := w64 (bits v 15 0) })
    | 0x18 => md (fun k => { k with hiRmap := w64 (bits v 41 32 * 2 ^ 32 + bits v 25 16 * 2 ^ 16 + bits v 9 0) })
    | 0x20 => s.refusePageIn (bits v 51 16)
    | 0x28 => md (fun k => { k with hiEcc := clearOnes k.hiEcc (bits v 31 0) })
    | 0x30 => if d % 4 = 0 then s.modPkg pk (fun p => { p with ltr := bits v 31 0 }) else s
    | 0x40 => md (fun k => { k with asel := bits v 7 0 })
    | _ =>
      if d % 4 != 0 then s
      else match off with
        | 0x100 => s.modPkg pk (fun p => { p with hrSel := w64 (bits v 9 0) })
        | 0x108 => s.modSelRing pk (fun x => if x.en then x else { x with cfg0 := w64 (bits v 63 12 * 4096) })
        | 0x110 => s.modSelRing pk (fun x => x.setCfg1 v)
        | 0x120 => s.modSelRing pk (fun x => { x with head := bits v 31 0 })
        | 0x128 => s.modSelRing pk (fun x => { x with ovf := clearOnes x.ovf (bits v 31 0) })
        | _ => s

/-- A write of a register of the ha block (R357). -/
def State.writeHa (s : State) (d i : Nat) (v : W64) : State :=
  let md := s.modDie d
  match i with
  | 0 => (md (fun k => { k with haCtl := w64 (bits v 63 63 * 2 ^ 63) })).resumeRemovals
  | 1 => md (fun k => { k with haRoot := w64 (bits v 39 12 * 4096) })
  | 2 => md (fun k => { k with haHsel := w64 (bits v 11 0) })
  | 3 => md (fun k => if bit k.haCtl 63 then k else { k with htab := put k.haHsel.toNat (bits v 10 0) k.htab })
  | 4 => md (fun k => { k with haUia := w64 (bits v 51 16 * 65536) })
  | 5 => md (fun k => { k with haUval := v })
  | 6 => (match bits v 2 0 with
    | 1 => s.haWriteLeaf d
    | 2 => s.haCreate d
    | 3 => s.haRemove d
    | _ => s)
  | 7 => md (fun k => { k with haPool := w64 (bits v 63 48 * 2 ^ 48 + bits v 39 12 * 4096 + bits v 11 0), poolFront := 0, poolFrames := [], poolTables := [] })
  | _ => s

/-- A write of a register of the st block (R334, R344). -/
def State.writeSt (s : State) (d i : Nat) (v : W64) : State :=
  let md := s.modStore d
  match i with
  | 0 => md (fun x => x.setCtl v)
  | 1 => md (fun x => x.setBase v)
  | 2 => md (fun x => x.setSize v)
  | 4 => md (fun x => { x with wsel := w64 (bits v 15 0) })
  | 5 => md (fun x => x.setWatch v)
  | 6 => md (fun x => if bit v 63 then { x with whit := w64 (setBitsN x.whit.toNat 63 63 0) } else x)
  | _ => s

/-- A write of a register of the cg block (R406, R407). -/
def State.writeCg (s : State) (d off : Nat) (v : W64) : State :=
  if 0x100 ≤ off && off < 0x1C0 then
    s.modPort d ((off - 0x100) / 8) (fun p => { p with rty := clearOnes p.rty (bits v 31 16), err := clearOnes p.err (bits v 15 0) })
  else match off with
    | 0x00 => s.modColl d (fun c => { c with sel := w64 (bits v 15 0) })
    | 0x08 => let i := (s.die d).coll.sel.toNat; s.post (d / 4) (.group d i (bits (s.grp d i).map 51 0) v)
    | 0x10 => let i := (s.die d).coll.sel.toNat; s.setGrp d i { s.grp d i with map := w64 (bits v 51 0) }
    | _ => s

/-- A write of a register of a core's block (R147, R181, R442, R451). -/
def State.writeCoreReg (s : State) (c i : Nat) (v : W64) : State :=
  match i with
  | 0 => s.modCore c (fun k => { k with conf := w64 (clearOnes k.conf.toNat v.toNat) })
  | 1 => s.modCore c (fun k => { k with event := k.event ||| v })
  | 2 => s.modCore c (fun k => { k with event := w64 (clearOnes k.event.toNat v.toNat) })
  | 3 => (upFrom 0 4).foldl (fun s j => if bit v j then s.modCtx (4 * c + j) (fun x => { x with halted := false }) else s) s
  | 4 => s.modCore c (fun k => { k with droop := clearOnes k.droop (bits v 31 0) })
  | _ => s

/-- A write at an offset of a die's register block; one that holds no register ignores it (R437, R438). -/
def State.writeReg64 (s : State) (d off : Nat) (v : W64) : State :=
  if off % 8 != 0 then s
  else if off < 0x100000 then s.writeHi d off v
  else if off < 0x200000 then s.writeHa d ((off - 0x100000) / 8) v
  else if off < 0x300000 then s.writeSt d ((off - 0x200000) / 8) v
  else if off < 0x400000 then s.writeCg d (off - 0x300000) v
  else if 0x1000000 ≤ off && off < 0x1400000 then s.writeCoreReg (64 * d + (off - 0x1000000) / 65536) (off % 65536 / 8) v
  else s

/-- No context of the die is ACTIVE, no engine or agent has work or a request under way, and no pool record is READY (R450). The host interface has work
while what hosts have posted, or entries to a ring of its port, wait (R15). -/
def State.idle (s : State) (d : Nat) : Bool :=
  let k := s.die d
  s.ctxs.all (fun q => dieOfCtx q.1 != d || q.2.life != .active) &&
    s.cores.all (fun q => dieOfCore q.1 != d || (q.2.copy0.cmds.isEmpty && q.2.copy1.cmds.isEmpty && q.2.survey.isEmpty && q.2.array.queue.isEmpty &&
      q.2.index.queue.all (fun m => !m.2.runs) && q.2.tapRows.isEmpty && q.2.streams.all (fun x => x.2.rows.isEmpty))) &&
    k.copier.cmds.isEmpty && k.store.queue.isEmpty && k.coll.queue.isEmpty && s.migs.all (fun m => dieOfCtx m.2.tag.g != d && m.2.src != d && m.2.dst != d && s.homeOf (dieOfCtx m.2.tag.g) (m.2.pages.headD 0 * 65536) != d) && k.haPend.isNone &&
    k.compass.spawns.isEmpty && k.compass.releases.isEmpty && k.compass.tasks.all (fun t => t.2.st != 1 && t.2.st != 3 && t.2.st != 4 && t.2.stop.isNone && t.2.renews.isEmpty) &&
    (s.pkg (d / 4)).waiting.all (fun e => e.die != s.dieId d && s.ringDie (d / 4) e.ring != d) && (s.pkg (d / 4)).posted.all (fun p => p.die (d / 4) != d) &&
    s.net.all (fun q => q.2.origin != d && q.2.target != d) && s.resolutions.all (fun q => q.2.die != d) && s.qMsgs.all (fun q => q.2.dst != d) &&
    s.colMsgs.all (fun q => q.2.up || q.2.die != d)

/-- What a read at an offset of a die's register block gives; write-only registers and offsets without a register read 0 (R8, R437, R438). -/
def State.readReg64 (s : State) (d off : Nat) : W64 :=
  let k := s.die d
  let p := s.pkg (d / 4)
  let x := p.ring p.hrSel.toNat
  let at0 := fun (v : W64) => if d % 4 = 0 then v else 0
  if off % 8 != 0 then 0
  else if off < 0x100000 then
    if 0x48 ≤ off && off < 0x68 then let w := (off - 0x48) / 8; w64 (bitsN (getD k.asel 0 k.access) (64 * w + 63) (64 * w))
    else if 0x80 ≤ off && off < 0x100 then (if d % 2 = 0 then w64 (getD ((off - 0x80) / 8) 0 k.apb) else 0)
    else match off with
      | 0x10 => k.hiFlag
      | 0x18 => k.hiRmap
      | 0x28 => w64 k.hiEcc
      | 0x30 => at0 (w64 p.ltr)
      | 0x38 => if s.idle d then w64 k.pwState else 0
      | 0x40 => w64 k.asel
      | 0x100 => at0 p.hrSel
      | 0x108 => at0 x.cfg0
      | 0x110 => at0 x.cfg1
      | 0x118 => at0 (w64 x.tail)
      | 0x120 => at0 (w64 x.head)
      | 0x128 => at0 (w64 x.ovf)
      | _ => 0
  else if off < 0x200000 then [k.haCtl, k.haRoot, k.haHsel, w64 (getD k.haHsel.toNat 0 k.htab), k.haUia, k.haUval, k.haUop, k.haPool].getD ((off - 0x100000) / 8) 0
  else if off < 0x300000 then [k.store.ctl, k.store.base, k.store.size, w64 k.store.free, k.store.wsel, k.store.wpos, k.store.whit].getD ((off - 0x200000) / 8) 0
  else if off < 0x400000 then
    let o := off - 0x300000
    let g := s.grp d k.coll.sel.toNat
    if 0x100 ≤ o && o < 0x1C0 then (s.port d ((o - 0x100) / 8)).word else [k.coll.sel, g.ent, g.map].getD (o / 8) 0
  else if 0x1000000 ≤ off && off < 0x1400000 then
    let c := s.core (64 * d + (off - 0x1000000) / 65536)
    match off % 65536 / 8 with
    | 0 => c.conf
    | 4 => w64 c.droop
    | _ => 0
  else 0

/-- A register write by a master: checked by the die's access table, it wakes the die (R441, R450). -/
def State.hostWrite (s : State) (m d off : Nat) (v : W64) : State :=
  if !(s.pkg (d / 4)).on then s
  else if !s.granted d m 0 off 8 true then s.denied d m off
  else (s.wake d).writeReg64 d off v

/-- What the management controller has been answered (R454). -/
def State.answerMc (s : State) (pk : Nat) (ws : List W64) : State := s.modPkg pk (fun p => { p with mcOut := ws })

/-- A register read by a master, which wakes the die (R441, R450): a denied host read is an Unsupported Request, a denied sideband read gives
all ones. -/
def State.hostRead (s : State) (m d off : Nat) : State :=
  let pk := d / 4
  if !(s.pkg pk).on then s
  else if !s.granted d m 0 off 8 false then (let s := s.denied d m off; if m = 32 then s.answerMc pk [w64 (2 ^ 64 - 1)] else s.answerHost pk none)
  else if m = 32 then (s.wake d).answerMc pk [s.readReg64 d off]
  else (s.wake d).answerHost pk (some (bytes8 (s.readReg64 d off)))

/-- Accesses of a master to a register (R437). -/
def execRegisterWrite (m d off : Nat) (v : BitVec 64) (s : State) : Host.Outcome State Fault Refusal := onUnit (dieOk d) (s.hostWrite m d off v)
def execRegisterRead (m d off : Nat) (s : State) : Host.Outcome State Fault Refusal := onUnit (dieOk d) (s.hostRead m d off)
def execHostGraphSubmit (m d : Nat) (v : BitVec 64) (s : State) : Host.Outcome State Fault Refusal := onUnit (dieOk d) (s.hostWrite m d 0x00 v)
def execHostGraphDisable (m d : Nat) (v : BitVec 64) (s : State) : Host.Outcome State Fault Refusal := onUnit (dieOk d) (s.hostWrite m d 0x08 v)
def execPageInRefuse (m d : Nat) (v : BitVec 64) (s : State) : Host.Outcome State Fault Refusal := onUnit (dieOk d) (s.hostWrite m d 0x20 v)
def execHrCfg1Write (m d : Nat) (v : BitVec 64) (s : State) : Host.Outcome State Fault Refusal := onUnit (dieOk d) (s.hostWrite m d 0x110 v)
def execHrHeadWrite (m d : Nat) (v : BitVec 64) (s : State) : Host.Outcome State Fault Refusal := onUnit (dieOk d) (s.hostWrite m d 0x120 v)
def execHaUopWriteLeaf (m d : Nat) (s : State) : Host.Outcome State Fault Refusal := onUnit (dieOk d) (s.hostWrite m d 0x100030 1)
def execHaUopCreate (m d : Nat) (s : State) : Host.Outcome State Fault Refusal := onUnit (dieOk d) (s.hostWrite m d 0x100030 2)
def execHaUopRemove (m d : Nat) (s : State) : Host.Outcome State Fault Refusal := onUnit (dieOk d) (s.hostWrite m d 0x100030 3)
def execStWatchArm (m d : Nat) (v : BitVec 64) (s : State) : Host.Outcome State Fault Refusal :=
  onUnit (dieOk d) (s.hostWrite m d 0x200028 (w64 (setBitsN v.toNat 63 63 1)))
def execStWatchDisarm (m d : Nat) (v : BitVec 64) (s : State) : Host.Outcome State Fault Refusal :=
  onUnit (dieOk d) (s.hostWrite m d 0x200028 (w64 (setBitsN v.toNat 63 63 0)))
def execCgGroupCreate (m d : Nat) (v : BitVec 64) (s : State) : Host.Outcome State Fault Refusal :=
  onUnit (dieOk d) (s.hostWrite m d 0x300008 (w64 (setBitsN v.toNat 63 63 1)))
def execCgGroupDelete (m d : Nat) (v : BitVec 64) (s : State) : Host.Outcome State Fault Refusal :=
  onUnit (dieOk d) (s.hostWrite m d 0x300008 (w64 (setBitsN v.toNat 63 63 0)))

/-- The offset of register i of a core's block. -/
def coreOff (c i : Nat) : Nat := 0x1000000 + 65536 * (c % 64) + 8 * i

def execEventSetWrite (m c : Nat) (v : BitVec 64) (s : State) : Host.Outcome State Fault Refusal := onUnit (coreOk c) (s.hostWrite m (dieOfCore c) (coreOff c 1) v)
def execEventClrWrite (m c : Nat) (v : BitVec 64) (s : State) : Host.Outcome State Fault Refusal := onUnit (coreOk c) (s.hostWrite m (dieOfCore c) (coreOff c 2) v)
def execHostRunRequest (m c : Nat) (v : BitVec 64) (s : State) : Host.Outcome State Fault Refusal := onUnit (coreOk c) (s.hostWrite m (dieOfCore c) (coreOff c 3) v)

-- Apertures (R439, R440) ------------------------------------------------------------------------------------------------------

/-- An access through BAR2 (R439); one that must wait for its page stays posted. -/
def execBar2Access (pk fn x : Nat) (wr : Bool) (n v : Nat) (s : State) : Host.Outcome State Fault Refusal :=
  onUnit (pkgOk pk) (if !(s.pkg pk).on || decide (32 ≤ fn) || decide (2 ^ 36 < x + n) then s else s.post pk (.access fn x wr n v))

/-- An access of a port's physical function through BAR4: PA x[39:0] of die x[41:40] (R440). -/
def execBar4Access (pk port x : Nat) (wr : Bool) (n v : Nat) (s : State) : Host.Outcome State Fault Refusal :=
  onUnit (pkgOk pk) (
    let m := 16 * (port % 2)
    let t := 4 * pk + x / 2 ^ 40 % 4
    let s := if (s.pkg pk).on then s.wake t else s
    let pa := x % 2 ^ 40
    let inside := Nat.min n (hbmBytes - pa)
    if !(s.pkg pk).on || decide (2 ^ 42 < x + n) then s
    else if !s.granted t m 3 x n wr then (let s := s.denied t m x; if wr then s else s.answerHost pk none)
    else if wr then (s.writePA t pa ((bytesOf n v).take inside)).heal t pa inside
    else s.answerHost pk (some (s.readPA t pa inside ++ List.replicate (n - inside) 0xFF)))

-- Scratchpad hash, errors, power (R179, R448 to R451) -------------------------------------------------------------------------

/-- The pending hash is applied while the core holds no scratchpad allocation (R179). -/
def execSpadHashApply (c : Nat) (s : State) : Host.Outcome State Fault Refusal :=
  onUnit (coreOk c) (s.settleHash c)

/-- The engine whose memory an error address names, 0 when it is none's: the store, the array, or the index engine (R159, R449; log 62). -/
def errorEngine (src a : Nat) : Nat :=
  match src with
  | 2 => 5
  | 5 => 4
  | 6 => (match a / 2 ^ 24 with | 2 => 3 | 3 => 7 | _ => 0)
  | _ => 0

/-- The core whose memory an error address names, 255 when it is none's (R448, R449; log 62). -/
def errorCore (src a : Nat) : Nat :=
  match src with
  | 3 => a / 2 ^ 22 % 64
  | 4 => a / 2 ^ 18 % 64
  | 5 => a % 64
  | 6 => (match a / 2 ^ 24 with | 0 => a / 2 ^ 12 % 64 | 1 => a / 2 ^ 16 % 64 | 2 => a / 2 ^ 14 % 64 | _ => 255)
  | _ => 255

/-- A soft error is corrected in place, counted and recorded; its syndrome is open (R448, R449). -/
def execEccCorrected (d src a : Nat) (s : State) : Host.Outcome State Fault Refusal :=
  onUnit (dieOk d) (
    let s := s.modDie d (fun k => { k with hiEcc := Nat.min (k.hiEcc + 1) (2 ^ 32 - 1) })
    ({ s with free := s.free + 1 }).errorRecord d 1 (errorCore src a) (errorEngine src a) (w64 a) (Config.freeWord s.free) 0 0 0)

/-- A part of the array's storage marked (R300, R448): c0, c1, acc, x, t, the program store, the user table or a histogram tag. -/
def ArrayMarks.mark (b : ArrayMarks) (n : Nat) : ArrayMarks :=
  match n % 8 with
  | 0 => { b with c0 := true }
  | 1 => { b with c1 := true }
  | 2 => { b with acc := true }
  | 3 => { b with x := true }
  | 4 => { b with t := true }
  | 5 => { b with prog := true }
  | 6 => { b with table := true }
  | _ => { b with tags := insertNat (n / 8 % 16) b.tags }

/-- An uncorrectable error in the other SRAM (R448), an array in each 2^24 bytes (log 62): the register files, 1,024 bytes a context, whose word is the
register of that number; the read-only caches, 64 KiB a core, whose word is the sector in that place; the fault queues, 16 KiB a core, whose word is an
entry; the receive queues, 2 KiB a group, 32 words a queue. -/
def State.poisonSram (s : State) (d a : Nat) : State :=
  let w := a % 2 ^ 24
  match a / 2 ^ 24 with
  | 0 => if a % 2 ^ 10 / 8 < 86 then s.modCtx (256 * d + a / 2 ^ 10 % 256) (fun c => c.poisonReg (a % 2 ^ 10 / 8) ⟨0x16, info16 6 (a % 2 ^ 10)⟩) else s
  | 1 => s.modCore (64 * d + a / 2 ^ 16 % 64) (fun k => match k.roc[a % 2 ^ 16 / 32]? with
      | some q => { k with badRoc := put q.1 (2 ^ 24 + a % 2 ^ 16) k.badRoc }
      | none => k)
  | 2 => s.modCore (64 * d + a / 2 ^ 14 % 64) (fun k => { k with index := { k.index with parked := k.index.parked.map (fun p =>
      if p.1 = a % 2 ^ 14 / 16 then (p.1, { p.2 with bad := true }) else p) } })
  | 3 => s.modColl d (fun c => { c with grps := c.grps.map (fun q =>
      if q.1 = w / 2 ^ 11 && decide (w % 2 ^ 8 / 8 < (getD (w % 2 ^ 11 / 2 ^ 8) [] q.2.queues).length)
      then (q.1, { q.2 with spoilt := q.2.spoilt ++ [(w % 2 ^ 11 / 2 ^ 8, w % 2 ^ 8 / 8, 3 * 2 ^ 24 + w % 2 ^ 11)] }) else q) })
  | _ => s

/-- An uncorrectable error poisons its word (R36, R448): an HBM word by its PA (src 0, 1); a word of the state cache by its arena offset (2); a
scratchpad word (3) or a tile row (4) by 64 times its core's bytes, core by core; part a / 64 of the array of core a mod 64 (5); a word of the other
SRAM (6) (log 62). -/
def State.poisonWord (s : State) (d src a : Nat) : State :=
  match src with
  | 2 => s.modStore d (fun x => { x with bad := insertNat (a / 32) x.bad })
  | 3 => s.modCore (64 * d + a / 2 ^ 22 % 64) (fun k => { k with badSpad := insertNat (a % 2 ^ 22 / 32) k.badSpad })
  | 4 => s.modCore (64 * d + a / 2 ^ 18 % 64) (fun k => { k with rowPoison := put (a % 2 ^ 18 / 512) ⟨0x16, info16 4 (a % 2 ^ 18)⟩ k.rowPoison })
  | 5 => s.modCore (64 * d + a % 64) (fun k => { k with array := { k.array with bad := k.array.bad.mark (a / 64) } })
  | 6 => s.poisonSram d a
  | _ => if src < 2 then s.modDie d (fun k => { k with bad := put (a / 32) src k.bad }) else s

def execUncorrectableError (d src a : Nat) (s : State) : Host.Outcome State Fault Refusal :=
  onUnit (dieOk d) ((s.poisonWord d src a).errorRecord d 2 (errorCore src a) (errorEngine src a) (w64 a) 0x16 0 0 0)

/-- An idle die enters the deepest state whose exit latency hi.ltr allows (R450). -/
def execIdleEntry (d : Nat) (s : State) : Host.Outcome State Fault Refusal :=
  onUnit (dieOk d) (
    let t := (s.pkg (d / 4)).ltr
    if !s.idle d then s
    else s.modDie d (fun k => { k with pwState := if 200000 ≤ t then 3 else if 20000 ≤ t then 2 else if 2000 ≤ t then 1 else 0 }))

def execIdleWake (d : Nat) (s : State) : Host.Outcome State Fault Refusal := onUnit (dieOk d) (s.wake d)

/-- A sag stretches the core's clock and is counted; ticks go on (R451). -/
def execDroopStretch (c : Nat) (s : State) : Host.Outcome State Fault Refusal :=
  onUnit (coreOk c) (s.modCore c (fun k => { k with droop := Nat.min (k.droop + 1) (2 ^ 32 - 1), stretched := true }))
def execDroopRelease (c : Nat) (s : State) : Host.Outcome State Fault Refusal := onUnit (coreOk c) (s.modCore c (fun k => { k with stretched := false }))

-- Reset, boot and attestation (R9, R452, R453) --------------------------------------------------------------------------------

/-- The boot ROM of a die: the image's digest, and whether the image runs; a failure is reported to the management controller (R452; log 66). -/
def State.boot (s : State) (d : Nat) : State :=
  let img := (s.pkg (d / 4)).flash
  let s := s.modDie d (fun k => { k with firstStage := ofBytes (shake256 img), recovery := !Config.imageAccepted d img })
  if (s.die d).recovery then s.modPkg (d / 4) (fun p => { p with mcOut := p.mcOut ++ [w64 (2 ^ 63 + d % 4)] }) else s

/-- Every register of a package at its reset value (R9); what is outside the package stays, and so does its HBM (log 1). -/
def State.clearPkg (s : State) (pk : Nat) : State :=
  let p := s.pkg pk
  let s :=
    { s with
      ctxs := s.ctxs.filter (fun q => q.1 / 1024 != pk)
      cores := s.cores.filter (fun q => q.1 / 256 != pk)
      dies := s.dies.filter (fun q => q.1 / 4 != pk)
      net := s.net.filter (fun q => q.2.origin / 4 != pk)
      resolutions := s.resolutions.filter (fun q => q.2.origin / 4 != pk)
      migs := s.migs.filter (fun q => q.2.tag.g / 1024 != pk)
      colMsgs := s.colMsgs.filter (fun q => q.2.up || q.2.die / 4 != pk)
      qMsgs := s.qMsgs.filter (fun q => q.2.src / 4 != pk) }
  s.setPkg pk { Pkg.init with host := p.host, msix := p.msix, flash := p.flash, mcOut := p.mcOut, on := p.on }

/-- A package cold reset, with the boot of its four dies (R9, R452). -/
def State.coldReset (s : State) (pk : Nat) : State :=
  let s := (s.clearPkg pk).answerMc pk []
  (upFrom (4 * pk) 4).foldl (fun s d => (s.setDie d { Die.init with tickBase := s.tick }).boot d) s

def execColdReset (pk : Nat) (s : State) : Host.Outcome State Fault Refusal := onUnit (pkgOk pk) (if (s.pkg pk).on then s.coldReset pk else s)
def execMcColdReset (pk : Nat) (s : State) : Host.Outcome State Fault Refusal := onUnit (pkgOk pk) (if (s.pkg pk).on then s.coldReset pk else s)

/-- Power on: a cold reset of a package whose HBM holds nothing (R454, log 1). -/
def execMcPowerOn (pk : Nat) (s : State) : Host.Outcome State Fault Refusal :=
  onUnit (pkgOk pk) (if (s.pkg pk).on then s else
    let s := (upFrom (4 * pk) 4).foldl (fun s d => { s with mem := cellsClear s.mem (paKey d 0) (2 ^ 40) }) s
    (s.modPkg pk (fun p => { p with on := true })).coldReset pk)

/-- Power off: nothing of the package runs or answers any more (R454). -/
def execMcPowerOff (pk : Nat) (s : State) : Host.Outcome State Fault Refusal :=
  onUnit (pkgOk pk) ((s.clearPkg pk).modPkg pk (fun p => { p with on := false }))

/-- A later stage is measured before it runs (R452). -/
def execStageMeasurement (d i digest : Nat) (s : State) : Host.Outcome State Fault Refusal :=
  onUnit (dieOk d) (if 8 ≤ i then s else
    s.modDie d (fun k => { k with measure := put i (ofBytes (shake256 (bytesOf 64 (getD i 0 k.measure) ++ bytesOf 64 digest))) k.measure }))

/-- The report of a die for a nonce, signed with its identity key (R453). -/
def State.attest (s : State) (d nonce : Nat) : State :=
  let k := s.die d
  let ms := (upFrom 0 8).map (fun i => getD i 0 k.measure)
  let key := (Config.identityKey d).key (bytesOf 64 k.firstStage)
  let body := bytesOf 2 (s.dieId d) ++ ms.flatMap (bytesOf 64) ++ bytesOf 32 nonce ++ key
  ({ s with free := s.free + 1 }).modDie d (fun k => { k with report := some ⟨s.dieId d, ms, nonce % 2 ^ 256, key, Config.signature d k.firstStage body s.free⟩ })

/-- A host or the management controller asks for a report (R453); a die in recovery answers the latter alone. -/
def execAttestationRequest (m d nonce : Nat) (s : State) : Host.Outcome State Fault Refusal :=
  onUnit (dieOk d) (if (s.die d).recovery && m != 32 then s else s.attest d nonce)
def execMcAttestation (d nonce : Nat) (s : State) : Host.Outcome State Fault Refusal := onUnit (dieOk d) (s.attest d nonce)

-- The management controller (R454) --------------------------------------------------------------------------------------------

/-- The error records and hi.ecc of the package's dies, whose reads are those of master 32 (R441): each denied one gives all ones. -/
def execMcReadErrors (pk : Nat) (s : State) : Host.Outcome State Fault Refusal :=
  onUnit (pkgOk pk) (if !(s.pkg pk).on then s.answerMc pk [] else
    let records := (s.pkg pk).errors.flatten
    let r := (upFrom (4 * pk) 4).foldl (fun (r : State × List W64) d => let t := r.1.hostRead 32 d 0x28; (t, r.2 ++ (t.pkg pk).mcOut)) (s, [])
    r.1.answerMc pk (records ++ r.2))

/-- Temperature and power readings: open values. -/
def execMcReadSensors (pk : Nat) (s : State) : Host.Outcome State Fault Refusal :=
  onUnit (pkgOk pk) (({ s with free := s.free + 2 }).modPkg pk (fun p => { p with mcOut := [Config.freeWord s.free, Config.freeWord (s.free + 1)] }))

def execMcFirmwareUpdate (pk : Nat) (img : List (BitVec 8)) (s : State) : Host.Outcome State Fault Refusal :=
  onUnit (pkgOk pk) (s.modPkg pk (fun p => { p with flash := img }))

/-- The package number of ctx.id (R14, R454). -/
def execMcSetPackageNumber (pk n : Nat) (s : State) : Host.Outcome State Fault Refusal :=
  onUnit (pkgOk pk) (s.modPkg pk (fun p => { p with number := n % 512 }))

/-- One tick of the reference clock (R7); what hosts have posted is tried again. -/
def execReferenceTick (s : State) : Host.Outcome State Fault Refusal :=
  .next (s.pkgs.foldl (fun s q => s.drainPosted q.1) { s with tick := s.tick + 1, cyc := 0 })

end Sys2Proof.Machine
end

