-- ==== Sys2Proof/Machine/Scalar.lean ====
section
/-! DEFINITION. The S1 and S2 instructions (R169 to R173). -/

namespace Sys2Proof.Machine

/-- A two-source instruction with one scalar destination (R170). -/
def State.alu2 (s : State) (g : BitVec 4) (d a b : BitVec 7) (f : W64 → W64 → W64) : State :=
  s.toReg g d (s.with2 a b (fun x y => s.writeReg d (f x y)))

/-- A one-source instruction with one scalar destination (R170). -/
def State.alu1 (s : State) (g : BitVec 4) (d a : BitVec 7) (f : W64 → W64) : State :=
  s.toReg g d (s.withSource a (fun x => s.writeReg d (f x)))

/-- Division: zero raises cause 0x0B (R170). -/
def State.divide (s : State) (g : BitVec 4) (d a b : BitVec 7) (f : W64 → W64 → W64) : State :=
  s.toReg g d (s.with2 a b (fun x y => if y = 0 then s.raise 0x0B s.slotInfo else s.writeReg d (f x y)))

/-- An instruction that raises conditions (R172, R173). -/
def State.alu2f (s : State) (g : BitVec 4) (d a b : BitVec 7) (f : Nat → Nat → Nat × Cond) : State :=
  s.toReg g d (s.with2 a b (fun x y => let r := f x.toNat y.toNat; (s.raiseCond r.2).writeReg d (w64 r.1)))

def State.alu3f (s : State) (g : BitVec 4) (d a b : BitVec 7) (f : Nat → Nat → Nat → Nat × Cond) : State :=
  s.toReg g d (s.with3 a b d (fun x y z => let r := f x.toNat y.toNat z.toNat; (s.raiseCond r.2).writeReg d (w64 r.1)))

def State.compareF (s : State) (g : BitVec 4) (f : FloatFmt) (c : BitVec 4) (k : BitVec 3) (a b : BitVec 7) : State :=
  s.toPred g k (s.with2 a b (fun x y =>
    let u := f.decode x.toNat
    let v := f.decode y.toNat
    (s.raiseCond (fcmpCond c.toNat u v)).writePred k (fcmpHolds c.toNat u v)))

def addVal (a b : W64) : W64 := a + b
def subVal (a b : W64) : W64 := a - b
def mulVal (a b : W64) : W64 := a * b
def mulhVal (a b : W64) : W64 := BitVec.ofInt 64 (a.toInt * b.toInt / 2 ^ 64)
def mulhnVal (a b : W64) : W64 := w64 (a.toNat * b.toNat / 2 ^ 64)
/-- The quotient truncated toward zero; -2^63 / -1 gives -2^63 (R170). -/
def divVal (a b : W64) : W64 := BitVec.ofInt 64 (a.toInt.tdiv b.toInt)
def divnVal (a b : W64) : W64 := w64 (a.toNat / b.toNat)
def andVal (a b : W64) : W64 := a &&& b
def orVal (a b : W64) : W64 := a ||| b
def xorVal (a b : W64) : W64 := a ^^^ b
def andnVal (a b : W64) : W64 := a &&& ~~~b
/-- Shift amounts are b[5:0] (R170). -/
def shlVal (a b : W64) : W64 := w64 (a.toNat * 2 ^ bits b 5 0)
def shrVal (a b : W64) : W64 := w64 (a.toNat / 2 ^ bits b 5 0)
def sraVal (a b : W64) : W64 := BitVec.ofInt 64 (a.toInt / (2 ^ bits b 5 0 : Nat))
def minVal (a b : W64) : W64 := if a.toInt ≤ b.toInt then a else b
def maxVal (a b : W64) : W64 := if a.toInt ≤ b.toInt then b else a
def minnVal (a b : W64) : W64 := if a.toNat ≤ b.toNat then a else b
def maxnVal (a b : W64) : W64 := if a.toNat ≤ b.toNat then b else a
def addshVal (k : Nat) (a b : W64) : W64 := w64 (a.toNat + b.toNat * 2 ^ k)
def liVal (i : BitVec 14) : W64 := i.signExtend 64
def lihVal (d : W64) (i : BitVec 14) : W64 := w64 (d.toNat * 2 ^ 14 + i.toNat)
def clzVal (a : W64) : W64 := w64 (clzN 64 a.toNat)
def ctzVal (a : W64) : W64 := w64 (ctzN 64 a.toNat)
def popcVal (a : W64) : W64 := w64 (popcountN 64 a.toNat)
/-- The field of b[11:6] + 1 bits at b[5:0] (R170). -/
def bextVal (a b : W64) : W64 := w64 (a.toNat / 2 ^ bits b 5 0 % 2 ^ (bits b 11 6 + 1))
def binsVal (d a b : W64) : W64 :=
  let mk := w64 ((2 ^ (bits b 11 6 + 1) - 1) * 2 ^ bits b 5 0)
  (d &&& ~~~mk) ||| w64 (a.toNat % 2 ^ (bits b 11 6 + 1) * 2 ^ bits b 5 0)

def execNopScalar (s : State) : Host.Outcome State Fault Refusal := .next s
def execAdd (g : BitVec 4) (d a b : BitVec 7) (s : State) : Host.Outcome State Fault Refusal := .next (s.alu2 g d a b addVal)
def execSub (g : BitVec 4) (d a b : BitVec 7) (s : State) : Host.Outcome State Fault Refusal := .next (s.alu2 g d a b subVal)
def execMul (g : BitVec 4) (d a b : BitVec 7) (s : State) : Host.Outcome State Fault Refusal := .next (s.alu2 g d a b mulVal)
def execMulh (g : BitVec 4) (d a b : BitVec 7) (s : State) : Host.Outcome State Fault Refusal := .next (s.alu2 g d a b mulhVal)
def execMulhn (g : BitVec 4) (d a b : BitVec 7) (s : State) : Host.Outcome State Fault Refusal := .next (s.alu2 g d a b mulhnVal)
def execDiv (g : BitVec 4) (d a b : BitVec 7) (s : State) : Host.Outcome State Fault Refusal := .next (s.divide g d a b divVal)
def execDivn (g : BitVec 4) (d a b : BitVec 7) (s : State) : Host.Outcome State Fault Refusal := .next (s.divide g d a b divnVal)
def execAnd (g : BitVec 4) (d a b : BitVec 7) (s : State) : Host.Outcome State Fault Refusal := .next (s.alu2 g d a b andVal)
def execOr (g : BitVec 4) (d a b : BitVec 7) (s : State) : Host.Outcome State Fault Refusal := .next (s.alu2 g d a b orVal)
def execXor (g : BitVec 4) (d a b : BitVec 7) (s : State) : Host.Outcome State Fault Refusal := .next (s.alu2 g d a b xorVal)
def execAndn (g : BitVec 4) (d a b : BitVec 7) (s : State) : Host.Outcome State Fault Refusal := .next (s.alu2 g d a b andnVal)
def execShl (g : BitVec 4) (d a b : BitVec 7) (s : State) : Host.Outcome State Fault Refusal := .next (s.alu2 g d a b shlVal)
def execShr (g : BitVec 4) (d a b : BitVec 7) (s : State) : Host.Outcome State Fault Refusal := .next (s.alu2 g d a b shrVal)
def execSra (g : BitVec 4) (d a b : BitVec 7) (s : State) : Host.Outcome State Fault Refusal := .next (s.alu2 g d a b sraVal)
def execMin (g : BitVec 4) (d a b : BitVec 7) (s : State) : Host.Outcome State Fault Refusal := .next (s.alu2 g d a b minVal)
def execMax (g : BitVec 4) (d a b : BitVec 7) (s : State) : Host.Outcome State Fault Refusal := .next (s.alu2 g d a b maxVal)
def execMinn (g : BitVec 4) (d a b : BitVec 7) (s : State) : Host.Outcome State Fault Refusal := .next (s.alu2 g d a b minnVal)
def execMaxn (g : BitVec 4) (d a b : BitVec 7) (s : State) : Host.Outcome State Fault Refusal := .next (s.alu2 g d a b maxnVal)
def execAddsh1 (g : BitVec 4) (d a b : BitVec 7) (s : State) : Host.Outcome State Fault Refusal := .next (s.alu2 g d a b (addshVal 1))
def execAddsh2 (g : BitVec 4) (d a b : BitVec 7) (s : State) : Host.Outcome State Fault Refusal := .next (s.alu2 g d a b (addshVal 2))
def execAddsh3 (g : BitVec 4) (d a b : BitVec 7) (s : State) : Host.Outcome State Fault Refusal := .next (s.alu2 g d a b (addshVal 3))
def execAddsh5 (g : BitVec 4) (d a b : BitVec 7) (s : State) : Host.Outcome State Fault Refusal := .next (s.alu2 g d a b (addshVal 5))
def execBext (g : BitVec 4) (d a b : BitVec 7) (s : State) : Host.Outcome State Fault Refusal := .next (s.alu2 g d a b bextVal)
def execClz (g : BitVec 4) (d a : BitVec 7) (s : State) : Host.Outcome State Fault Refusal := .next (s.alu1 g d a clzVal)
def execCtz (g : BitVec 4) (d a : BitVec 7) (s : State) : Host.Outcome State Fault Refusal := .next (s.alu1 g d a ctzVal)
def execPopc (g : BitVec 4) (d a : BitVec 7) (s : State) : Host.Outcome State Fault Refusal := .next (s.alu1 g d a popcVal)
/-- bins reads its destination (R170). -/
def execBins (g : BitVec 4) (d a b : BitVec 7) (s : State) : Host.Outcome State Fault Refusal :=
  .next (s.toReg g d (s.with3 a b d (fun x y z => s.writeReg d (binsVal z x y))))
def execLi (g : BitVec 4) (d : BitVec 7) (i : BitVec 14) (s : State) : Host.Outcome State Fault Refusal :=
  .next (s.toReg g d (s.writeReg d (liVal i)))
/-- lih reads its destination (R170). -/
def execLih (g : BitVec 4) (d : BitVec 7) (i : BitVec 14) (s : State) : Host.Outcome State Fault Refusal :=
  .next (s.alu1 g d d (fun x => lihVal x i))
def execCmp (g : BitVec 4) (c : BitVec 4) (k : BitVec 3) (a b : BitVec 7) (s : State) : Host.Outcome State Fault Refusal :=
  .next (s.toPred g k (s.with2 a b (fun x y => s.writePred k (cmpHolds c.toNat x y))))
/-- sel always executes; its selector picks the operand (R62, R170). Only the operand slots' own waits hold it (R42). -/
def execSel (e : BitVec 4) (d a b : BitVec 7) (s : State) : Host.Outcome State Fault Refusal :=
  .next (match s.pre.guardValue e with
    | none => s.stall
    | some v => s.withDests [d.toNat] (s.with2 a b (fun x y => s.writeReg d (if v then x else y))))

/-- A predicate instruction reads predicates as they stood before the bundle (R171). -/
def State.predOp (s : State) (g : BitVec 4) (d a b : BitVec 3) (f : Bool → Bool → Bool) : State :=
  s.toPred g d
    (if s.pre.pending (128 + a.toNat) || s.pre.pending (128 + b.toNat) then s.stall
     else s.writePred d (f (s.pre.p a.toNat) (s.pre.p b.toNat)))
def execPand (g : BitVec 4) (d a b : BitVec 3) (s : State) : Host.Outcome State Fault Refusal := .next (s.predOp g d a b (fun x y => x && y))
def execPor (g : BitVec 4) (d a b : BitVec 3) (s : State) : Host.Outcome State Fault Refusal := .next (s.predOp g d a b (fun x y => x || y))
def execPnot (g : BitVec 4) (d a : BitVec 3) (s : State) : Host.Outcome State Fault Refusal := .next (s.predOp g d a a (fun x _ => !x))

/-- Scalar arithmetic rounds to nearest even with ovf = 1 (R98, R172). -/
def execFaddF32 (g : BitVec 4) (d a b : BitVec 7) (s : State) : Host.Outcome State Fault Refusal := .next (s.alu2f g d a b (fun x y => f32Fmt.addOp x y 0 true))
def execFsubF32 (g : BitVec 4) (d a b : BitVec 7) (s : State) : Host.Outcome State Fault Refusal := .next (s.alu2f g d a b (fun x y => f32Fmt.subOp x y 0 true))
def execFmulF32 (g : BitVec 4) (d a b : BitVec 7) (s : State) : Host.Outcome State Fault Refusal := .next (s.alu2f g d a b (fun x y => f32Fmt.mulOp x y 0 true))
def execFfmaF32 (g : BitVec 4) (d a b : BitVec 7) (s : State) : Host.Outcome State Fault Refusal := .next (s.alu3f g d a b (fun x y z => f32Fmt.fmaOp x y z 0 true))
def execFcmpF32 (g : BitVec 4) (c : BitVec 4) (k : BitVec 3) (a b : BitVec 7) (s : State) : Host.Outcome State Fault Refusal := .next (s.compareF g f32Fmt c k a b)
def execFaddF64 (g : BitVec 4) (d a b : BitVec 7) (s : State) : Host.Outcome State Fault Refusal := .next (s.alu2f g d a b (fun x y => f64Fmt.addOp x y 0 true))
def execFsubF64 (g : BitVec 4) (d a b : BitVec 7) (s : State) : Host.Outcome State Fault Refusal := .next (s.alu2f g d a b (fun x y => f64Fmt.subOp x y 0 true))
def execFmulF64 (g : BitVec 4) (d a b : BitVec 7) (s : State) : Host.Outcome State Fault Refusal := .next (s.alu2f g d a b (fun x y => f64Fmt.mulOp x y 0 true))
def execFfmaF64 (g : BitVec 4) (d a b : BitVec 7) (s : State) : Host.Outcome State Fault Refusal := .next (s.alu3f g d a b (fun x y z => f64Fmt.fmaOp x y z 0 true))
def execFcmpF64 (g : BitVec 4) (c : BitVec 4) (k : BitVec 3) (a b : BitVec 7) (s : State) : Host.Outcome State Fault Refusal := .next (s.compareF g f64Fmt c k a b)

/-- A conversion from a floating-point format to another. -/
def convertFF (f t : FloatFmt) (x rnd : Nat) : Nat × Cond := t.result [f.decode x] (f.decode x) rnd true

/-- A conversion to an integer type. -/
def convertFI (f : FloatFmt) (w : Nat) (sg : Bool) (x rnd : Nat) : Nat × Cond := encodeInt w sg (f.decode x) rnd 0

/-- A conversion from an integer type. -/
def convertIF (w : Nat) (sg : Bool) (t : FloatFmt) (x rnd : Nat) : Nat × Cond := t.encode ((Fmt.int w sg).decode x) rnd true 0

/-- f64 to an integral f64 value (R173, code 15). -/
def convertIntegral (x rnd : Nat) : Nat × Cond :=
  match decF64 x with
  | .nan => (f64Fmt.nanCode, {})
  | .inf n => (f64Fmt.infCode n, {})
  | .fin n m e =>
    let r := XReal.roundInt n m e rnd 0
    (encF64 (.fin n r.1.natAbs 0), { nx := !r.2 })

/-- An i32 result is written sign-extended (R173). -/
def sext32 (r : Nat × Cond) : Nat × Cond := (wrapN 64 (signedN 32 r.1), r.2)

/-- fcvt by its conversion code (R173). -/
def fcvtVal (code rnd x : Nat) : Nat × Cond :=
  match code with
  | 0 => convertFF f32Fmt f64Fmt x 0
  | 1 => convertFF f64Fmt f32Fmt x rnd
  | 2 => convertFF f32Fmt bf16Fmt x rnd
  | 3 => convertFF f32Fmt f16Fmt x rnd
  | 4 => convertFF bf16Fmt f32Fmt x 0
  | 5 => convertFF f16Fmt f32Fmt x 0
  | 6 => convertFI f64Fmt 64 true x rnd
  | 7 => convertFI f64Fmt 64 false x rnd
  | 8 => convertIF 64 true f64Fmt x rnd
  | 9 => convertIF 64 false f64Fmt x rnd
  | 10 => sext32 (convertFI f32Fmt 32 true x rnd)
  | 11 => convertIF 32 true f32Fmt x rnd
  | 12 => sext32 (convertFI f64Fmt 32 true x rnd)
  | 13 => convertIF 64 true f32Fmt x rnd
  | 14 => convertIF 64 false f32Fmt x rnd
  | _ => convertIntegral x rnd

def execFcvt (g : BitVec 4) (d a : BitVec 7) (r : BitVec 3) (c : BitVec 4) (s : State) : Host.Outcome State Fault Refusal :=
  .next (s.toReg g d (s.withSource a (fun x =>
    let v := fcvtVal c.toNat r.toNat x.toNat
    (s.raiseCond v.2).writeReg d (w64 v.1))))

end Sys2Proof.Machine
end

