-- ==== Sys2Proof/Machine/Wait.lean ====
section
/-! DEFINITION. wait: its descriptor (R159), its conditions, and its completion and timeout (R160, R161). -/

namespace Sys2Proof.Machine

/-- Word j of wait descriptor n (R159). -/
def Ctx.waitWord (c : Ctx) (n j : Nat) : W64 := getD (8 * n + j) 0 c.wd

/-- The fields of a wait control word (R159). -/
def waitSusp (w : W64) : Bool := bit w 39
def waitTrp (w : W64) : Bool := bit w 38
def waitAll (w : W64) : Bool := bit w 37
def waitPt (w : W64) : Nat := bits w 36 34
def waitCnt (w : W64) : Nat := bits w 33 32 + 1
def waitTmo (w : W64) : Nat := bits w 31 0

/-- The conditions of descriptor n that count. -/
def Ctx.waitConds (c : Ctx) (n : Nat) : List W64 := (upFrom 1 (waitCnt (c.waitWord n 0))).map (c.waitWord n)

/-- A condition word whose kind and arguments have a meaning and whose reserved bits are 0 (R159, R160). -/
def waitCondOk (w : W64) : Bool :=
  match bits w 63 61 with
  | 0 => bits w 60 9 == 0 && bits w 7 0 != 255
  | 1 => bits w 57 54 == 0
  | 2 => bits w 60 3 == 0
  | 3 => bits w 60 4 == 0 && decide (bits w 3 0 ≤ 8)
  | 4 => bits w 60 7 == 0
  | 5 => bits w 60 5 == 0
  | _ => false

/-- The descriptor is defined (R160). -/
def Ctx.waitOk (c : Ctx) (n : Nat) : Bool :=
  let w := c.waitWord n 0
  bits w 63 40 == 0 && !(waitSusp w && waitTrp w) && (c.waitConds n).all waitCondOk

/-- The first scratchpad offset of the conditions that is misaligned or not in usable scratchpad (R160). -/
def State.waitBadOffset (s : State) (g n : Nat) : Option Nat :=
  (((s.ctx g).waitConds n).filter (fun w => bits w 63 61 == 1)).findSome? (fun w =>
    let a := bits w 53 32
    match s.boundTask g with
    | none => some a
    | some t => if a % 4 == 0 && t.usable a 4 then none else some a)

/-- The scratchpad bytes that a condition samples: a barrier object, or a word. -/
def waitSampled (w : W64) : Option (Nat × Nat) :=
  match bits w 63 61 with
  | 0 => some (16 * bits w 7 0, 16)
  | 1 => some (bits w 53 32, 4)
  | _ => none

/-- The first sampled bytes of a wait that have an uncorrectable error (R36, R448). -/
def State.waitBadData (s : State) (g n : Nat) : Option Nat :=
  match s.boundTask g with
  | none => none
  | some t => (((s.ctx g).waitConds n).filterMap waitSampled).findSome? (fun x => if s.spadBad (coreOfCtx g) t x.1 x.2 then some x.1 else none)

/-- The comparison of a scratchpad condition (R159). -/
def waitCompare (op w v : Nat) : Bool :=
  match op with
  | 0 => w == v
  | 1 => w != v
  | 2 => decide (signedN 32 w < signedN 32 v)
  | 3 => decide (signedN 32 v ≤ signedN 32 w)
  | 4 => decide (w < v)
  | 5 => decide (v ≤ w)
  | 6 => w &&& v != 0
  | _ => w &&& v == 0

/-- No command that the context issued to engine `e` is incomplete (R159); a parked element keeps the index engine busy. -/
def State.engineIdle (s : State) (g e : Nat) : Bool :=
  let k := s.core (coreOfCtx g)
  let d := s.die (dieOfCtx g)
  let u := (s.ctx g).task
  let mine := fun (t : Tag) => t.g == g && some t.u == u
  match e with
  | 0 => !k.copy0.cmds.any (fun q => mine q.2.tag)
  | 1 => !k.copy1.cmds.any (fun q => mine q.2.tag)
  | 2 => !k.survey.any (fun q => mine q.2.tag)
  | 3 => !k.index.queue.any (fun q => mine q.2.tag) && !k.index.parked.any (fun q => some q.2.u == u)
  | 4 => !k.array.queue.any (fun q => mine q.2.tag)
  | 5 => !d.store.queue.any (fun q => mine q.2.tag)
  | 6 => !s.migs.any (fun q => mine q.2.tag) && (match s.boundTask g with | none => true | some t => !t.renews.any (fun r => mine r.1))
  | 7 => !d.coll.queue.any (fun q => mine q.2.tag && !q.2.node) && !k.streams.any (fun q => mine q.2.tag)
  | _ => true

/-- A condition is true now (R159). -/
def State.waitTrue (s : State) (g : Nat) (w : W64) : Bool :=
  let c := coreOfCtx g
  match bits w 63 61 with
  | 0 => (match s.boundTask g with | none => false | some t => (s.barrier c t (bits w 7 0)).ph == bit w 8)
  | 1 => (match s.boundTask g with | none => false | some t => waitCompare (bits w 60 58) (ofBytes (s.spadRead c t (bits w 53 32) 4)) (bits w 31 0))
  | 2 => !(s.latch g (bits w 2 0)).isEmpty
  | 3 => s.engineIdle g (bits w 3 0)
  | 4 => bit (s.core c).event (bits w 5 0)
  | _ => bit (s.die (dieOfCtx g)).hiFlag (bits w 3 0) == bit w 4

/-- An event condition that consumes a bit which a lower-numbered context takes (R161). -/
def waitTakenFrom (taken : Nat) (w : W64) : Bool := bits w 63 61 == 4 && bit w 6 && bitN taken (bits w 5 0)

/-- One consideration of the wait on descriptor n: all its conditions are sampled at once (R160); an event bit that a lower-numbered context
takes counts as false (R161). -/
def State.sampleWait (s : State) (g n taken : Nat) : WaitSt :=
  let c := s.ctx g
  let now := (((c.waitConds n).zip (upFrom 0 4)).map (fun p => b2n (s.waitTrue g p.1 && !waitTakenFrom taken p.1) * 2 ^ p.2)).foldl (· + ·) 0
  match c.wait with
  | none => ⟨s.tick, now⟩
  | some w => ⟨w.t0, w.seen ||| now⟩

/-- The conditions seen satisfy the descriptor (R160). -/
def Ctx.waitDone (c : Ctx) (n : Nat) (st : WaitSt) : Bool :=
  let w := c.waitWord n 0
  if waitAll w then st.seen == 2 ^ waitCnt w - 1 else st.seen != 0

/-- The timeout has come (R160). -/
def Ctx.waitExpired (c : Ctx) (n tick : Nat) (st : WaitSt) : Bool :=
  let t := waitTmo (c.waitWord n 0)
  t != 2 ^ 32 - 1 && decide (st.t0 + t ≤ tick)

/-- The event bits that the completing wait consumes (R160). -/
def Ctx.waitConsumes (c : Ctx) (n : Nat) (event : W64) : Nat :=
  (c.waitConds n).foldl (fun m w => if bits w 63 61 = 4 && bit w 6 && bit event (bits w 5 0) then m ||| 2 ^ bits w 5 0 else m) 0

/-- The status predicate of a wait (R159). -/
def State.waitStatus (s : State) (n : Nat) (v : Bool) : State :=
  let pt := waitPt (s.pre.waitWord n 0)
  if pt = 0 then s else s.modMe (fun c => c.setP pt v)

/-- A wait bundle issues: the read-only cache is invalidated (R196). Run alone, the slot leaves no wait behind. -/
def State.waitOver (s : State) : State :=
  let s := s.dropRoc s.myCore
  if s.bun.on then s else s.modMe (fun c => { c with wait := none })

/-- A wait that goes on: its bundle stalls, and what has been seen stands (R160). -/
def State.waitOn (s : State) (st : WaitSt) : State := if s.bun.on then s.hold else s.modMe (fun c => { c with wait := some st })

def execWait (w : BitVec 3) (s : State) : Host.Outcome State Fault Refusal :=
  .next (
    let n := w.toNat
    let ctl := s.pre.waitWord n 0
    let pt := waitPt ctl
    if !s.pre.waitOk n then s.undefinedEncoding
    else match s.waitBadOffset s.cur n with
      | some a => s.raise 0x17 (spadInfoAt 0 a)
      | none =>
        if pt != 0 && s.pre.pending (128 + pt) then s.stall
        else match s.waitBadData s.cur n with
        | some a => s.raise 0x16 (info16 3 a)
        | none =>
          let st := if s.bun.on then s.bun.wait.getD ⟨s.tick, 0⟩ else s.sampleWait s.cur n 0
          if s.pre.waitDone n st then
            let used := s.pre.waitConsumes n ((s.core s.myCore).event &&& ~~~(w64 s.bun.taken))
            ((s.modCore s.myCore (fun k => { k with event := w64 (k.event.toNat &&& (2 ^ 64 - 1 - used)) })).waitStatus n true).waitOver
          else if s.pre.waitExpired n s.tick st then
            if waitTrp ctl then s.raise 0x0C (w64 (n * 256 + st.seen))
            else if waitSusp ctl then s.waitOver.stopPoint .suspend
            else (s.waitStatus n false).waitOver
          else s.waitOn st)

end Sys2Proof.Machine
end

