-- ==== Sys2Proof/Machine/Slots.lean ====
section
/-! DEFINITION. What the slots of a bundle name: destinations (R19, R51), scalar sources (R50), guards (R49), stage gates (R58), and the
effect of a slot's instruction. -/

namespace Sys2Proof.Machine

/-- The state an outcome gives, or another one when it gives none. -/
def stateOr (o : Host.Outcome State Fault Refusal) (s : State) : State := match o with | .next t => t | _ => s

/-- The destinations an instruction names, for R19: registers by specifier, predicates by 128 + k, masks by 136 + k and vector
registers by 256 + k. A destination of l5 in S7 is named by its handle and is not listed (R26). -/
def destinations : Instr → List Nat
  | .call _ => [59]
  | .calli _ => [59]
  | .spawn b _ => [128 + b.toNat, 129 + b.toNat]
  | .tld _ d => [d.toNat]
  | .sysr _ d => [d.toNat]
  | .add _ d _ _ => [d.toNat]
  | .sub _ d _ _ => [d.toNat]
  | .mul _ d _ _ => [d.toNat]
  | .mulh _ d _ _ => [d.toNat]
  | .mulhn _ d _ _ => [d.toNat]
  | .div _ d _ _ => [d.toNat]
  | .divn _ d _ _ => [d.toNat]
  | .and _ d _ _ => [d.toNat]
  | .or _ d _ _ => [d.toNat]
  | .xor _ d _ _ => [d.toNat]
  | .andn _ d _ _ => [d.toNat]
  | .shl _ d _ _ => [d.toNat]
  | .shr _ d _ _ => [d.toNat]
  | .sra _ d _ _ => [d.toNat]
  | .min _ d _ _ => [d.toNat]
  | .max _ d _ _ => [d.toNat]
  | .minn _ d _ _ => [d.toNat]
  | .maxn _ d _ _ => [d.toNat]
  | .cmp _ _ k _ _ => [128 + k.toNat]
  | .sel _ d _ _ => [d.toNat]
  | .li _ d _ => [d.toNat]
  | .lih _ d _ => [d.toNat]
  | .clz _ d _ => [d.toNat]
  | .ctz _ d _ => [d.toNat]
  | .popc _ d _ => [d.toNat]
  | .bext _ d _ _ => [d.toNat]
  | .bins _ d _ _ => [d.toNat]
  | .addsh1 _ d _ _ => [d.toNat]
  | .addsh2 _ d _ _ => [d.toNat]
  | .addsh3 _ d _ _ => [d.toNat]
  | .addsh5 _ d _ _ => [d.toNat]
  | .pand _ d _ _ => [128 + d.toNat]
  | .por _ d _ _ => [128 + d.toNat]
  | .pnot _ d _ => [128 + d.toNat]
  | .faddF32 _ d _ _ => [d.toNat]
  | .fsubF32 _ d _ _ => [d.toNat]
  | .fmulF32 _ d _ _ => [d.toNat]
  | .ffmaF32 _ d _ _ => [d.toNat]
  | .fcmpF32 _ _ k _ _ => [128 + k.toNat]
  | .fcvt _ d _ _ _ => [d.toNat]
  | .faddF64 _ d _ _ => [d.toNat]
  | .fsubF64 _ d _ _ => [d.toNat]
  | .fmulF64 _ d _ _ => [d.toNat]
  | .ffmaF64 _ d _ _ => [d.toNat]
  | .fcmpF64 _ _ k _ _ => [128 + k.toNat]
  | .ldB _ d _ _ => [d.toNat]
  | .ldH _ d _ _ => [d.toNat]
  | .ldW _ d _ _ => [d.toNat]
  | .ldD _ d _ _ => [d.toNat]
  | .ldQ _ d _ _ => groupRegs d 2
  | .ldO _ d _ _ => groupRegs d 4
  | .ldnB _ d _ _ => [d.toNat]
  | .ldnH _ d _ _ => [d.toNat]
  | .ldnW _ d _ _ => [d.toNat]
  | .ldWAcq _ d _ _ => [d.toNat]
  | .ldDAcq _ d _ _ => [d.toNat]
  | .ldroW _ d _ _ => [d.toNat]
  | .ldroD _ d _ _ => [d.toNat]
  | .ldroQ _ d _ _ => groupRegs d 2
  | .ldroO _ d _ _ => groupRegs d 4
  | .lds _ d _ z _ => loadRegs d (spadSize z)
  | .vld _ v _ _ _ _ => [256 + v.toNat]
  | .vlds _ v _ _ => [256 + v.toNat]
  | .amoW _ d _ _ _ _ => [d.toNat]
  | .amoD _ d _ _ _ _ => [d.toNat]
  | .casW _ d _ _ _ => groupRegs d 2
  | .casD _ d _ _ _ => groupRegs d 2
  | .xget _ d _ r => (if r = 1 then groupRegs d 8 else [d.toNat])
  | .probe _ d => [d.toNat]
  | .vadd _ _ d _ _ => [256 + d.toNat]
  | .vsub _ _ d _ _ => [256 + d.toNat]
  | .vmul _ _ d _ _ => [256 + d.toNat]
  | .vfma _ _ d _ _ => [256 + d.toNat]
  | .vfms _ _ d _ _ => [256 + d.toNat]
  | .vmin _ _ d _ _ => [256 + d.toNat]
  | .vmax _ _ d _ _ => [256 + d.toNat]
  | .vabs _ _ d _ => [256 + d.toNat]
  | .vneg _ _ d _ => [256 + d.toNat]
  | .vclamp _ _ d _ _ => [256 + d.toNat]
  | .vand _ _ d _ _ => [256 + d.toNat]
  | .vor _ _ d _ _ => [256 + d.toNat]
  | .vxor _ _ d _ _ => [256 + d.toNat]
  | .vshl _ _ d _ _ => [256 + d.toNat]
  | .vshr _ _ d _ _ => [256 + d.toNat]
  | .vsra _ _ d _ _ => [256 + d.toNat]
  | .vcmp _ _ _ q _ _ => [136 + q.toNat]
  | .vsel _ _ d _ _ => [256 + d.toNat]
  | .vmov _ _ d _ => [256 + d.toNat]
  | .vbcs _ _ d _ => [256 + d.toNat]
  | .vlane _ _ d => [256 + d.toNat]
  | .vaddS _ _ d _ _ => [256 + d.toNat]
  | .vsubS _ _ d _ _ => [256 + d.toNat]
  | .vmulS _ _ d _ _ => [256 + d.toNat]
  | .vfmaS _ _ d _ _ => [256 + d.toNat]
  | .vfmsS _ _ d _ _ => [256 + d.toNat]
  | .vminS _ _ d _ _ => [256 + d.toNat]
  | .vmaxS _ _ d _ _ => [256 + d.toNat]
  | .vclampS _ _ d _ _ => [256 + d.toNat]
  | .vandS _ _ d _ _ => [256 + d.toNat]
  | .vorS _ _ d _ _ => [256 + d.toNat]
  | .vxorS _ _ d _ _ => [256 + d.toNat]
  | .vshlS _ _ d _ _ => [256 + d.toNat]
  | .vshrS _ _ d _ _ => [256 + d.toNat]
  | .vsraS _ _ d _ _ => [256 + d.toNat]
  | .vcmpS _ _ _ q _ _ => [136 + q.toNat]
  | .vselS _ _ d _ _ => [256 + d.toNat]
  | .vexp _ _ d _ => [256 + d.toNat]
  | .vlog _ _ d _ => [256 + d.toNat]
  | .vtanh _ _ d _ => [256 + d.toNat]
  | .vsig _ _ d _ => [256 + d.toNat]
  | .vgelu _ _ d _ => [256 + d.toNat]
  | .vsilu _ _ d _ => [256 + d.toNat]
  | .vrsqrt _ _ d _ => [256 + d.toNat]
  | .vsqrt _ _ d _ => [256 + d.toNat]
  | .vrcp _ _ d _ => [256 + d.toNat]
  | .vrcpe _ _ d _ => [256 + d.toNat]
  | .vrcpn _ _ d _ _ => [256 + d.toNat]
  | .vrsqe _ _ d _ => [256 + d.toNat]
  | .vrsqn _ _ d _ _ => [256 + d.toNat]
  | .vcvt _ _ d _ _ _ => [256 + d.toNat]
  | .vperm _ _ d _ _ => [256 + d.toNat]
  | .vslide _ _ d _ _ => [256 + d.toNat]
  | .vsort _ _ d _ => [256 + d.toNat]
  | .vred _ _ d _ => groupRegs d 4
  | .mset _ t q _ => (if t = 1 then [] else [136 + q.toNat])
  | .mget _ d _ _ => [256 + d.toNat]
  | .vslideS _ _ d _ _ => [256 + d.toNat]
  | .mst _ a => [a.toNat]
  | .ret => [59]
  | _ => []

/-- The scalar source specifiers of an instruction (R50). -/
def sources : Instr → List (BitVec 7)
  | .jmpi x => [x]
  | .jmpt _ i => [i]
  | .calli x => [x]
  | .spawn _ x => [x]
  | .tst _ x => [x]
  | .sysw _ x => [x]
  | .gsub x => [x]
  | .add _ _ a b => [a, b]
  | .sub _ _ a b => [a, b]
  | .mul _ _ a b => [a, b]
  | .mulh _ _ a b => [a, b]
  | .mulhn _ _ a b => [a, b]
  | .div _ _ a b => [a, b]
  | .divn _ _ a b => [a, b]
  | .and _ _ a b => [a, b]
  | .or _ _ a b => [a, b]
  | .xor _ _ a b => [a, b]
  | .andn _ _ a b => [a, b]
  | .shl _ _ a b => [a, b]
  | .shr _ _ a b => [a, b]
  | .sra _ _ a b => [a, b]
  | .min _ _ a b => [a, b]
  | .max _ _ a b => [a, b]
  | .minn _ _ a b => [a, b]
  | .maxn _ _ a b => [a, b]
  | .cmp _ _ _ a b => [a, b]
  | .sel _ _ a b => [a, b]
  | .clz _ _ a => [a]
  | .ctz _ _ a => [a]
  | .popc _ _ a => [a]
  | .bext _ _ a b => [a, b]
  | .bins _ _ a b => [a, b]
  | .addsh1 _ _ a b => [a, b]
  | .addsh2 _ _ a b => [a, b]
  | .addsh3 _ _ a b => [a, b]
  | .addsh5 _ _ a b => [a, b]
  | .faddF32 _ _ a b => [a, b]
  | .fsubF32 _ _ a b => [a, b]
  | .fmulF32 _ _ a b => [a, b]
  | .ffmaF32 _ _ a b => [a, b]
  | .fcmpF32 _ _ _ a b => [a, b]
  | .fcvt _ _ a _ _ => [a]
  | .faddF64 _ _ a b => [a, b]
  | .fsubF64 _ _ a b => [a, b]
  | .fmulF64 _ _ a b => [a, b]
  | .ffmaF64 _ _ a b => [a, b]
  | .fcmpF64 _ _ _ a b => [a, b]
  | .ldB _ _ b _ => [b]
  | .ldH _ _ b _ => [b]
  | .ldW _ _ b _ => [b]
  | .ldD _ _ b _ => [b]
  | .ldQ _ _ b _ => [b]
  | .ldO _ _ b _ => [b]
  | .ldnB _ _ b _ => [b]
  | .ldnH _ _ b _ => [b]
  | .ldnW _ _ b _ => [b]
  | .ldWAcq _ _ b _ => [b]
  | .ldDAcq _ _ b _ => [b]
  | .stB _ d b _ => [d, b]
  | .stH _ d b _ => [d, b]
  | .stW _ d b _ => [d, b]
  | .stD _ d b _ => [d, b]
  | .stQ _ _ b _ => [b]
  | .stO _ _ b _ => [b]
  | .stWRel _ d b _ => [d, b]
  | .stDRel _ d b _ => [d, b]
  | .ldroW _ _ b _ => [b]
  | .ldroD _ _ b _ => [b]
  | .ldroQ _ _ b _ => [b]
  | .ldroO _ _ b _ => [b]
  | .stncD _ d b _ => [d, b]
  | .stncQ _ _ b _ => [b]
  | .stncO _ _ b _ => [b]
  | .lds _ _ b _ _ => [b]
  | .sts _ d b _ _ => [d, b]
  | .vld _ _ b _ _ _ => [b]
  | .vst _ _ b _ _ _ => [b]
  | .vlds _ _ b _ => [b]
  | .vsts _ _ b _ => [b]
  | .amoW _ d b _ _ _ => [b, d]
  | .amoD _ d b _ _ _ => [b, d]
  | .casW _ _ b _ _ => [b]
  | .casD _ _ b _ _ => [b]
  | .xadd _ d b _ => [d, b]
  | .xget _ _ b _ => [b]
  | .prf _ b _ => [b]
  | .vbcs _ _ _ b => [b]
  | .vaddS _ _ _ _ b => [b]
  | .vsubS _ _ _ _ b => [b]
  | .vmulS _ _ _ _ b => [b]
  | .vfmaS _ _ _ _ b => [b]
  | .vfmsS _ _ _ _ b => [b]
  | .vminS _ _ _ _ b => [b]
  | .vmaxS _ _ _ _ b => [b]
  | .vclampS _ _ _ _ b => [b]
  | .vandS _ _ _ _ b => [b]
  | .vorS _ _ _ _ b => [b]
  | .vxorS _ _ _ _ b => [b]
  | .vshlS _ _ _ _ b => [b]
  | .vshrS _ _ _ _ b => [b]
  | .vsraS _ _ _ _ b => [b]
  | .vcmpS _ _ _ _ _ b => [b]
  | .vselS _ _ _ _ b => [b]
  | .vslideS _ _ _ _ b => [b]
  | .mcfg _ a b => [a, b]
  | .cpl _ a _ => [a]
  | .mld _ a _ => [a]
  | .mmk _ a b _ => [a, b]
  | .mmc _ a b _ => [a, b]
  | .msp _ a b _ _ => [a, b]
  | .mdp _ a => [a]
  | .mdr _ a b _ => [a, b]
  | .mstr _ a b _ => [a, b]
  | .mtab _ a b => [a, b]
  | .mhist _ a b _ _ _ => [a, b]
  | .mbind _ a _ _ => [a]
  | .cpy _ a b _ => [a, b]
  | .cpyt _ a b _ => [a, b]
  | .cpyx _ a b _ => [a, b]
  | .cpyc _ a b _ => [a, b]
  | .barm _ a b _ => [a, b]
  | .barr _ a _ => [a]
  | .bq _ a => [a]
  | .qinit _ a b _ => [a, b]
  | .qadd _ a b _ => [a, b]
  | .qmerge _ a b _ => [a, b]
  | .qmergeat _ a b _ => [a, b]
  | .qquery _ a b _ => [a, b]
  | .mmerge _ a b _ => [a, b]
  | .hinit _ a _ => [a]
  | .hadd _ a b _ => [a, b]
  | .hmerge _ a b _ => [a, b]
  | .htop _ a b _ => [a, b]
  | .dinit _ a b _ => [a, b]
  | .dadd _ a b _ => [a, b]
  | .dmerge _ a b _ => [a, b]
  | .dest _ a _ => [a]
  | .stopen _ a b _ => [a, b]
  | .stld _ a b _ => [a, b]
  | .stst _ a b _ => [a, b]
  | .stmark _ a _ => [a]
  | .stback _ a b _ => [a, b]
  | .stfork _ a b _ => [a, b]
  | .stpin _ a b _ => [a, b]
  | .stclose _ a _ => [a]
  | .stq _ a b => [a, b]
  | .mig _ a b _ => [a, b]
  | .pkset _ a b => [a, b]
  | .own _ a => [a]
  | .ocinv _ a b _ => [a, b]
  | .hnote _ a b _ => [a, b]
  | .hintr _ a _ => [a]
  | .gath _ a _ => [a]
  | .scat _ a _ => [a]
  | .scata _ a _ => [a]
  | .fqread _ a b _ => [a, b]
  | .frep _ a => [a]
  | .fdrop _ a b => [a, b]
  | .wlnew _ a b _ => [a, b]
  | .wlpush _ a _ => [a]
  | .wlpop _ a _ => [a]
  | .wlins _ a b _ => [a, b]
  | .wlstat _ a => [a]
  | .cqsend _ a b _ => [a, b]
  | .cst _ a b => [a, b]
  | .copen _ a b _ => [a, b]
  | .cput _ a _ => [a]
  | .cget _ a _ => [a]
  | .cred _ a _ => [a]
  | .cxf _ a _ => [a]
  | .cbar _ a _ => [a]
  | .csmp _ a _ => [a]
  | .cstr _ a b _ => [a, b]
  | _ => []

/-- The guard of an instruction (R49). -/
def guardOf : Instr → Option (BitVec 4)
  | .add g _ _ _ => some g
  | .sub g _ _ _ => some g
  | .mul g _ _ _ => some g
  | .mulh g _ _ _ => some g
  | .mulhn g _ _ _ => some g
  | .div g _ _ _ => some g
  | .divn g _ _ _ => some g
  | .and g _ _ _ => some g
  | .or g _ _ _ => some g
  | .xor g _ _ _ => some g
  | .andn g _ _ _ => some g
  | .shl g _ _ _ => some g
  | .shr g _ _ _ => some g
  | .sra g _ _ _ => some g
  | .min g _ _ _ => some g
  | .max g _ _ _ => some g
  | .minn g _ _ _ => some g
  | .maxn g _ _ _ => some g
  | .cmp g _ _ _ _ => some g
  | .li g _ _ => some g
  | .lih g _ _ => some g
  | .clz g _ _ => some g
  | .ctz g _ _ => some g
  | .popc g _ _ => some g
  | .bext g _ _ _ => some g
  | .bins g _ _ _ => some g
  | .addsh1 g _ _ _ => some g
  | .addsh2 g _ _ _ => some g
  | .addsh3 g _ _ _ => some g
  | .addsh5 g _ _ _ => some g
  | .pand g _ _ _ => some g
  | .por g _ _ _ => some g
  | .pnot g _ _ => some g
  | .faddF32 g _ _ _ => some g
  | .fsubF32 g _ _ _ => some g
  | .fmulF32 g _ _ _ => some g
  | .ffmaF32 g _ _ _ => some g
  | .fcmpF32 g _ _ _ _ => some g
  | .fcvt g _ _ _ _ => some g
  | .faddF64 g _ _ _ => some g
  | .fsubF64 g _ _ _ => some g
  | .fmulF64 g _ _ _ => some g
  | .ffmaF64 g _ _ _ => some g
  | .fcmpF64 g _ _ _ _ => some g
  | .ldB g _ _ _ => some g
  | .ldH g _ _ _ => some g
  | .ldW g _ _ _ => some g
  | .ldD g _ _ _ => some g
  | .ldQ g _ _ _ => some g
  | .ldO g _ _ _ => some g
  | .ldnB g _ _ _ => some g
  | .ldnH g _ _ _ => some g
  | .ldnW g _ _ _ => some g
  | .ldWAcq g _ _ _ => some g
  | .ldDAcq g _ _ _ => some g
  | .stB g _ _ _ => some g
  | .stH g _ _ _ => some g
  | .stW g _ _ _ => some g
  | .stD g _ _ _ => some g
  | .stQ g _ _ _ => some g
  | .stO g _ _ _ => some g
  | .stWRel g _ _ _ => some g
  | .stDRel g _ _ _ => some g
  | .ldroW g _ _ _ => some g
  | .ldroD g _ _ _ => some g
  | .ldroQ g _ _ _ => some g
  | .ldroO g _ _ _ => some g
  | .stncD g _ _ _ => some g
  | .stncQ g _ _ _ => some g
  | .stncO g _ _ _ => some g
  | .lds g _ _ _ _ => some g
  | .sts g _ _ _ _ => some g
  | .vld g _ _ _ _ _ => some g
  | .vst g _ _ _ _ _ => some g
  | .vlds g _ _ _ => some g
  | .vsts g _ _ _ => some g
  | .amoW g _ _ _ _ _ => some g
  | .amoD g _ _ _ _ _ => some g
  | .casW g _ _ _ _ => some g
  | .casD g _ _ _ _ => some g
  | .xadd g _ _ _ => some g
  | .xget g _ _ _ => some g
  | .fence g _ _ => some g
  | .prf g _ _ => some g
  | .probe g _ => some g
  | .mcfg g _ _ => some g
  | .cpl g _ _ => some g
  | .mld g _ _ => some g
  | .mmk g _ _ _ => some g
  | .mmc g _ _ _ => some g
  | .msp g _ _ _ _ => some g
  | .mdp g _ => some g
  | .mdr g _ _ _ => some g
  | .mstr g _ _ _ => some g
  | .mzero g => some g
  | .mtab g _ _ => some g
  | .mhist g _ _ _ _ _ => some g
  | .mbind g _ _ _ => some g
  | .mst g _ => some g
  | .mfence g => some g
  | .cpy g _ _ _ => some g
  | .cpyt g _ _ _ => some g
  | .cpyx g _ _ _ => some g
  | .cpyc g _ _ _ => some g
  | .barm g _ _ _ => some g
  | .barr g _ _ => some g
  | .bq g _ => some g
  | .qinit g _ _ _ => some g
  | .qadd g _ _ _ => some g
  | .qmerge g _ _ _ => some g
  | .qmergeat g _ _ _ => some g
  | .qquery g _ _ _ => some g
  | .mmerge g _ _ _ => some g
  | .hinit g _ _ => some g
  | .hadd g _ _ _ => some g
  | .hmerge g _ _ _ => some g
  | .htop g _ _ _ => some g
  | .dinit g _ _ _ => some g
  | .dadd g _ _ _ => some g
  | .dmerge g _ _ _ => some g
  | .dest g _ _ => some g
  | .stopen g _ _ _ => some g
  | .stld g _ _ _ => some g
  | .stst g _ _ _ => some g
  | .stmark g _ _ => some g
  | .stback g _ _ _ => some g
  | .stfork g _ _ _ => some g
  | .stpin g _ _ _ => some g
  | .stclose g _ _ => some g
  | .stq g _ _ => some g
  | .mig g _ _ _ => some g
  | .pkset g _ _ => some g
  | .own g _ => some g
  | .ocinv g _ _ _ => some g
  | .lrenew g _ => some g
  | .hnote g _ _ _ => some g
  | .hintr g _ _ => some g
  | .gath g _ _ => some g
  | .scat g _ _ => some g
  | .scata g _ _ => some g
  | .fqread g _ _ _ => some g
  | .frep g _ => some g
  | .fdrop g _ _ => some g
  | .wlnew g _ _ _ => some g
  | .wlpush g _ _ => some g
  | .wlpop g _ _ => some g
  | .wlins g _ _ _ => some g
  | .wlstat g _ => some g
  | .cqsend g _ _ _ => some g
  | .cst g _ _ => some g
  | .copen g _ _ _ => some g
  | .cput g _ _ => some g
  | .cget g _ _ => some g
  | .cred g _ _ => some g
  | .cxf g _ _ => some g
  | .cbar g _ _ => some g
  | .csmp g _ _ => some g
  | .cstr g _ _ _ => some g
  | _ => none

/-- The stage gate of an instruction (R58). -/
def stageOf : Instr → Option (BitVec 2)
  | .vadd _ g _ _ _ => some g
  | .vsub _ g _ _ _ => some g
  | .vmul _ g _ _ _ => some g
  | .vfma _ g _ _ _ => some g
  | .vfms _ g _ _ _ => some g
  | .vmin _ g _ _ _ => some g
  | .vmax _ g _ _ _ => some g
  | .vabs _ g _ _ => some g
  | .vneg _ g _ _ => some g
  | .vclamp _ g _ _ _ => some g
  | .vand _ g _ _ _ => some g
  | .vor _ g _ _ _ => some g
  | .vxor _ g _ _ _ => some g
  | .vshl _ g _ _ _ => some g
  | .vshr _ g _ _ _ => some g
  | .vsra _ g _ _ _ => some g
  | .vcmp _ g _ _ _ _ => some g
  | .vsel _ g _ _ _ => some g
  | .vmov _ g _ _ => some g
  | .vbcs _ g _ _ => some g
  | .vlane _ g _ => some g
  | .vaddS _ g _ _ _ => some g
  | .vsubS _ g _ _ _ => some g
  | .vmulS _ g _ _ _ => some g
  | .vfmaS _ g _ _ _ => some g
  | .vfmsS _ g _ _ _ => some g
  | .vminS _ g _ _ _ => some g
  | .vmaxS _ g _ _ _ => some g
  | .vclampS _ g _ _ _ => some g
  | .vandS _ g _ _ _ => some g
  | .vorS _ g _ _ _ => some g
  | .vxorS _ g _ _ _ => some g
  | .vshlS _ g _ _ _ => some g
  | .vshrS _ g _ _ _ => some g
  | .vsraS _ g _ _ _ => some g
  | .vcmpS _ g _ _ _ _ => some g
  | .vselS _ g _ _ _ => some g
  | .vexp _ g _ _ => some g
  | .vlog _ g _ _ => some g
  | .vtanh _ g _ _ => some g
  | .vsig _ g _ _ => some g
  | .vgelu _ g _ _ => some g
  | .vsilu _ g _ _ => some g
  | .vrsqrt _ g _ _ => some g
  | .vsqrt _ g _ _ => some g
  | .vrcp _ g _ _ => some g
  | .vrcpe _ g _ _ => some g
  | .vrcpn _ g _ _ _ => some g
  | .vrsqe _ g _ _ => some g
  | .vrsqn _ g _ _ _ => some g
  | .vcvt _ g _ _ _ _ => some g
  | .vperm _ g _ _ _ => some g
  | .vslide _ g _ _ _ => some g
  | .vsort _ g _ _ => some g
  | .vred _ g _ _ => some g
  | .mpush g _ => some g
  | .minv g => some g
  | .mpop g => some g
  | .mset g _ _ _ => some g
  | .mget g _ _ _ => some g
  | .vslideS _ g _ _ _ => some g
  | _ => none

/-- The effect of a slot instruction for the context `s.cur`; an event is none. -/
def State.runSlot (s : State) : Instr → State
  | .jmp j => stateOr (execJmp j s) s
  | .jmpc q j => stateOr (execJmpc q j s) s
  | .jmpi x => stateOr (execJmpi x s) s
  | .jmpt t i => stateOr (execJmpt t i s) s
  | .jmpm j => stateOr (execJmpm j s) s
  | .call j => stateOr (execCall j s) s
  | .calli x => stateOr (execCalli x s) s
  | .loop x n c b => stateOr (execLoop x n c b s) s
  | .loopi x n c b => stateOr (execLoopi x n c b s) s
  | .lbrk n => stateOr (execLbrk n s) s
  | .wait w => stateOr (execWait w s) s
  | .trap k => stateOr (execTrap k s) s
  | .brk k => stateOr (execBrk k s) s
  | .spawn b x => stateOr (execSpawn b x s) s
  | .tld w d => stateOr (execTld w d s) s
  | .tst w x => stateOr (execTst w x s) s
  | .sysr r d => stateOr (execSysr r d s) s
  | .sysw r x => stateOr (execSysw r x s) s
  | .gsub x => stateOr (execGsub x s) s
  | .add g d a b => stateOr (execAdd g d a b s) s
  | .sub g d a b => stateOr (execSub g d a b s) s
  | .mul g d a b => stateOr (execMul g d a b s) s
  | .mulh g d a b => stateOr (execMulh g d a b s) s
  | .mulhn g d a b => stateOr (execMulhn g d a b s) s
  | .div g d a b => stateOr (execDiv g d a b s) s
  | .divn g d a b => stateOr (execDivn g d a b s) s
  | .and g d a b => stateOr (execAnd g d a b s) s
  | .or g d a b => stateOr (execOr g d a b s) s
  | .xor g d a b => stateOr (execXor g d a b s) s
  | .andn g d a b => stateOr (execAndn g d a b s) s
  | .shl g d a b => stateOr (execShl g d a b s) s
  | .shr g d a b => stateOr (execShr g d a b s) s
  | .sra g d a b => stateOr (execSra g d a b s) s
  | .min g d a b => stateOr (execMin g d a b s) s
  | .max g d a b => stateOr (execMax g d a b s) s
  | .minn g d a b => stateOr (execMinn g d a b s) s
  | .maxn g d a b => stateOr (execMaxn g d a b s) s
  | .cmp g c k a b => stateOr (execCmp g c k a b s) s
  | .sel x d a b => stateOr (execSel x d a b s) s
  | .li g d i => stateOr (execLi g d i s) s
  | .lih g d i => stateOr (execLih g d i s) s
  | .clz g d a => stateOr (execClz g d a s) s
  | .ctz g d a => stateOr (execCtz g d a s) s
  | .popc g d a => stateOr (execPopc g d a s) s
  | .bext g d a b => stateOr (execBext g d a b s) s
  | .bins g d a b => stateOr (execBins g d a b s) s
  | .addsh1 g d a b => stateOr (execAddsh1 g d a b s) s
  | .addsh2 g d a b => stateOr (execAddsh2 g d a b s) s
  | .addsh3 g d a b => stateOr (execAddsh3 g d a b s) s
  | .addsh5 g d a b => stateOr (execAddsh5 g d a b s) s
  | .pand g d a b => stateOr (execPand g d a b s) s
  | .por g d a b => stateOr (execPor g d a b s) s
  | .pnot g d a => stateOr (execPnot g d a s) s
  | .faddF32 g d a b => stateOr (execFaddF32 g d a b s) s
  | .fsubF32 g d a b => stateOr (execFsubF32 g d a b s) s
  | .fmulF32 g d a b => stateOr (execFmulF32 g d a b s) s
  | .ffmaF32 g d a b => stateOr (execFfmaF32 g d a b s) s
  | .fcmpF32 g c k a b => stateOr (execFcmpF32 g c k a b s) s
  | .fcvt g d a r c => stateOr (execFcvt g d a r c s) s
  | .faddF64 g d a b => stateOr (execFaddF64 g d a b s) s
  | .fsubF64 g d a b => stateOr (execFsubF64 g d a b s) s
  | .fmulF64 g d a b => stateOr (execFmulF64 g d a b s) s
  | .ffmaF64 g d a b => stateOr (execFfmaF64 g d a b s) s
  | .fcmpF64 g c k a b => stateOr (execFcmpF64 g c k a b s) s
  | .ldB g d b o => stateOr (execLdB g d b o s) s
  | .ldH g d b o => stateOr (execLdH g d b o s) s
  | .ldW g d b o => stateOr (execLdW g d b o s) s
  | .ldD g d b o => stateOr (execLdD g d b o s) s
  | .ldQ g d b o => stateOr (execLdQ g d b o s) s
  | .ldO g d b o => stateOr (execLdO g d b o s) s
  | .ldnB g d b o => stateOr (execLdnB g d b o s) s
  | .ldnH g d b o => stateOr (execLdnH g d b o s) s
  | .ldnW g d b o => stateOr (execLdnW g d b o s) s
  | .ldWAcq g d b o => stateOr (execLdWAcq g d b o s) s
  | .ldDAcq g d b o => stateOr (execLdDAcq g d b o s) s
  | .stB g d b o => stateOr (execStB g d b o s) s
  | .stH g d b o => stateOr (execStH g d b o s) s
  | .stW g d b o => stateOr (execStW g d b o s) s
  | .stD g d b o => stateOr (execStD g d b o s) s
  | .stQ g d b o => stateOr (execStQ g d b o s) s
  | .stO g d b o => stateOr (execStO g d b o s) s
  | .stWRel g d b o => stateOr (execStWRel g d b o s) s
  | .stDRel g d b o => stateOr (execStDRel g d b o s) s
  | .ldroW g d b o => stateOr (execLdroW g d b o s) s
  | .ldroD g d b o => stateOr (execLdroD g d b o s) s
  | .ldroQ g d b o => stateOr (execLdroQ g d b o s) s
  | .ldroO g d b o => stateOr (execLdroO g d b o s) s
  | .stncD g d b o => stateOr (execStncD g d b o s) s
  | .stncQ g d b o => stateOr (execStncQ g d b o s) s
  | .stncO g d b o => stateOr (execStncO g d b o s) s
  | .lds g d b z o => stateOr (execLds g d b z o s) s
  | .sts g d b z o => stateOr (execSts g d b z o s) s
  | .vld g v b r f o => stateOr (execVld g v b r f o s) s
  | .vst g v b r f o => stateOr (execVst g v b r f o s) s
  | .vlds g v b o => stateOr (execVlds g v b o s) s
  | .vsts g v b o => stateOr (execVsts g v b o s) s
  | .amoW g d b c o x => stateOr (execAmoW g d b c o x s) s
  | .amoD g d b c o x => stateOr (execAmoD g d b c o x s) s
  | .casW g d b o x => stateOr (execCasW g d b o x s) s
  | .casD g d b o x => stateOr (execCasD g d b o x s) s
  | .xadd g d b w => stateOr (execXadd g d b w s) s
  | .xget g d b r => stateOr (execXget g d b r s) s
  | .fence g k x => stateOr (execFence g k x s) s
  | .prf g b o => stateOr (execPrf g b o s) s
  | .probe g d => stateOr (execProbe g d s) s
  | .vadd k g d a b => stateOr (execVadd k g d a b s) s
  | .vsub k g d a b => stateOr (execVsub k g d a b s) s
  | .vmul k g d a b => stateOr (execVmul k g d a b s) s
  | .vfma k g d a b => stateOr (execVfma k g d a b s) s
  | .vfms k g d a b => stateOr (execVfms k g d a b s) s
  | .vmin k g d a b => stateOr (execVmin k g d a b s) s
  | .vmax k g d a b => stateOr (execVmax k g d a b s) s
  | .vabs k g d a => stateOr (execVabs k g d a s) s
  | .vneg k g d a => stateOr (execVneg k g d a s) s
  | .vclamp k g d a b => stateOr (execVclamp k g d a b s) s
  | .vand k g d a b => stateOr (execVand k g d a b s) s
  | .vor k g d a b => stateOr (execVor k g d a b s) s
  | .vxor k g d a b => stateOr (execVxor k g d a b s) s
  | .vshl k g d a b => stateOr (execVshl k g d a b s) s
  | .vshr k g d a b => stateOr (execVshr k g d a b s) s
  | .vsra k g d a b => stateOr (execVsra k g d a b s) s
  | .vcmp k g c q a b => stateOr (execVcmp k g c q a b s) s
  | .vsel k g d a b => stateOr (execVsel k g d a b s) s
  | .vmov k g d a => stateOr (execVmov k g d a s) s
  | .vbcs k g d b => stateOr (execVbcs k g d b s) s
  | .vlane k g d => stateOr (execVlane k g d s) s
  | .vaddS k g d a b => stateOr (execVaddS k g d a b s) s
  | .vsubS k g d a b => stateOr (execVsubS k g d a b s) s
  | .vmulS k g d a b => stateOr (execVmulS k g d a b s) s
  | .vfmaS k g d a b => stateOr (execVfmaS k g d a b s) s
  | .vfmsS k g d a b => stateOr (execVfmsS k g d a b s) s
  | .vminS k g d a b => stateOr (execVminS k g d a b s) s
  | .vmaxS k g d a b => stateOr (execVmaxS k g d a b s) s
  | .vclampS k g d a b => stateOr (execVclampS k g d a b s) s
  | .vandS k g d a b => stateOr (execVandS k g d a b s) s
  | .vorS k g d a b => stateOr (execVorS k g d a b s) s
  | .vxorS k g d a b => stateOr (execVxorS k g d a b s) s
  | .vshlS k g d a b => stateOr (execVshlS k g d a b s) s
  | .vshrS k g d a b => stateOr (execVshrS k g d a b s) s
  | .vsraS k g d a b => stateOr (execVsraS k g d a b s) s
  | .vcmpS k g c q a b => stateOr (execVcmpS k g c q a b s) s
  | .vselS k g d a b => stateOr (execVselS k g d a b s) s
  | .vexp k g d a => stateOr (execVexp k g d a s) s
  | .vlog k g d a => stateOr (execVlog k g d a s) s
  | .vtanh k g d a => stateOr (execVtanh k g d a s) s
  | .vsig k g d a => stateOr (execVsig k g d a s) s
  | .vgelu k g d a => stateOr (execVgelu k g d a s) s
  | .vsilu k g d a => stateOr (execVsilu k g d a s) s
  | .vrsqrt k g d a => stateOr (execVrsqrt k g d a s) s
  | .vsqrt k g d a => stateOr (execVsqrt k g d a s) s
  | .vrcp k g d a => stateOr (execVrcp k g d a s) s
  | .vrcpe k g d a => stateOr (execVrcpe k g d a s) s
  | .vrcpn k g d a b => stateOr (execVrcpn k g d a b s) s
  | .vrsqe k g d a => stateOr (execVrsqe k g d a s) s
  | .vrsqn k g d a b => stateOr (execVrsqn k g d a b s) s
  | .vcvt k g d a r u => stateOr (execVcvt k g d a r u s) s
  | .vperm k g d a b => stateOr (execVperm k g d a b s) s
  | .vslide k g d a b => stateOr (execVslide k g d a b s) s
  | .vsort k g d a => stateOr (execVsort k g d a s) s
  | .vred k g d a => stateOr (execVred k g d a s) s
  | .mpush g q => stateOr (execMpush g q s) s
  | .minv g => stateOr (execMinv g s) s
  | .mpop g => stateOr (execMpop g s) s
  | .mset g t q a => stateOr (execMset g t q a s) s
  | .mget g d t q => stateOr (execMget g d t q s) s
  | .vslideS k g d a b => stateOr (execVslideS k g d a b s) s
  | .mcfg g a b => stateOr (execMcfg g a b s) s
  | .cpl g a l => stateOr (execCpl g a l s) s
  | .mld g a c => stateOr (execMld g a c s) s
  | .mmk g a b z => stateOr (execMmk g a b z s) s
  | .mmc g a b z => stateOr (execMmc g a b z s) s
  | .msp g a b z n => stateOr (execMsp g a b z n s) s
  | .mdp g a => stateOr (execMdp g a s) s
  | .mdr g a b x => stateOr (execMdr g a b x s) s
  | .mstr g a b x => stateOr (execMstr g a b x s) s
  | .mzero g => stateOr (execMzero g s) s
  | .mtab g a b => stateOr (execMtab g a b s) s
  | .mhist g a b r c l => stateOr (execMhist g a b r c l s) s
  | .mbind g a t y => stateOr (execMbind g a t y s) s
  | .mst g a => stateOr (execMst g a s) s
  | .mfence g => stateOr (execMfence g s) s
  | .cpy g a b h => stateOr (execCpy g a b h s) s
  | .cpyt g a b h => stateOr (execCpyt g a b h s) s
  | .cpyx g a b h => stateOr (execCpyx g a b h s) s
  | .cpyc g a b h => stateOr (execCpyc g a b h s) s
  | .barm g a b h => stateOr (execBarm g a b h s) s
  | .barr g a h => stateOr (execBarr g a h s) s
  | .bq g a => stateOr (execBq g a s) s
  | .qinit g a b h => stateOr (execQinit g a b h s) s
  | .qadd g a b h => stateOr (execQadd g a b h s) s
  | .qmerge g a b h => stateOr (execQmerge g a b h s) s
  | .qmergeat g a b h => stateOr (execQmergeat g a b h s) s
  | .qquery g a b h => stateOr (execQquery g a b h s) s
  | .mmerge g a b h => stateOr (execMmerge g a b h s) s
  | .hinit g a h => stateOr (execHinit g a h s) s
  | .hadd g a b h => stateOr (execHadd g a b h s) s
  | .hmerge g a b h => stateOr (execHmerge g a b h s) s
  | .htop g a b h => stateOr (execHtop g a b h s) s
  | .dinit g a b h => stateOr (execDinit g a b h s) s
  | .dadd g a b h => stateOr (execDadd g a b h s) s
  | .dmerge g a b h => stateOr (execDmerge g a b h s) s
  | .dest g a h => stateOr (execDest g a h s) s
  | .stopen g a b h => stateOr (execStopen g a b h s) s
  | .stld g a b h => stateOr (execStld g a b h s) s
  | .stst g a b h => stateOr (execStst g a b h s) s
  | .stmark g a h => stateOr (execStmark g a h s) s
  | .stback g a b h => stateOr (execStback g a b h s) s
  | .stfork g a b h => stateOr (execStfork g a b h s) s
  | .stpin g a b h => stateOr (execStpin g a b h s) s
  | .stclose g a h => stateOr (execStclose g a h s) s
  | .stq g a b => stateOr (execStq g a b s) s
  | .mig g a b h => stateOr (execMig g a b h s) s
  | .pkset g a b => stateOr (execPkset g a b s) s
  | .own g a => stateOr (execOwn g a s) s
  | .ocinv g a b h => stateOr (execOcinv g a b h s) s
  | .lrenew g h => stateOr (execLrenew g h s) s
  | .hnote g a b h => stateOr (execHnote g a b h s) s
  | .hintr g a h => stateOr (execHintr g a h s) s
  | .gath g a h => stateOr (execGath g a h s) s
  | .scat g a h => stateOr (execScat g a h s) s
  | .scata g a h => stateOr (execScata g a h s) s
  | .fqread g a b h => stateOr (execFqread g a b h s) s
  | .frep g a => stateOr (execFrep g a s) s
  | .fdrop g a b => stateOr (execFdrop g a b s) s
  | .wlnew g a b h => stateOr (execWlnew g a b h s) s
  | .wlpush g a h => stateOr (execWlpush g a h s) s
  | .wlpop g a h => stateOr (execWlpop g a h s) s
  | .wlins g a b h => stateOr (execWlins g a b h s) s
  | .wlstat g a => stateOr (execWlstat g a s) s
  | .cqsend g a b h => stateOr (execCqsend g a b h s) s
  | .cst g a b => stateOr (execCst g a b s) s
  | .copen g a b h => stateOr (execCopen g a b h s) s
  | .cput g a h => stateOr (execCput g a h s) s
  | .cget g a h => stateOr (execCget g a h s) s
  | .cred g a h => stateOr (execCred g a h s) s
  | .cxf g a h => stateOr (execCxf g a h s) s
  | .cbar g a h => stateOr (execCbar g a h s) s
  | .csmp g a h => stateOr (execCsmp g a h s) s
  | .cstr g a b h => stateOr (execCstr g a b h s) s
  | .nop => stateOr (execNop s) s
  | .ret => stateOr (execRet s) s
  | .suspend => stateOr (execSuspend s) s
  | .yield => stateOr (execYield s) s
  | .endTask => stateOr (execEndTask s) s
  | .eret => stateOr (execEret s) s
  | .halt => stateOr (execHalt s) s
  | .nopScalar => stateOr (execNopScalar s) s
  | .nopMemory => stateOr (execNopMemory s) s
  | .nopVector0 => stateOr (execNopVector0 s) s
  | .nopVector1 => stateOr (execNopVector1 s) s
  | .nopArray => stateOr (execNopArray s) s
  | .nopEngine => stateOr (execNopEngine s) s
  | _ => s

end Sys2Proof.Machine
end

