-- ==== Sys2Proof/Machine/Bundle.lean ====
section
/-! DEFINITION. Bundles: fetch (R45, R148, R373), issue as a whole (R19, R42 to R44), the choice among causes (R47), issue modes (R55), pops
(R53, R54), the next PC (R148, R150), and the issue selector's record (R128). -/

namespace Sys2Proof.Machine

-- Fetch -----------------------------------------------------------------------------------------------------------------------

/-- The x that the task's lease on a code page recorded at its grant (R373). -/
def State.leasedX (s : State) (g ia : Nat) : Bool :=
  let p := ia / 65536
  let big := match s.homeRec? (dieOfCtx g) ia with | none => false | some (_, r) => r.big
  match s.boundTask g with
  | none => false
  | some t => t.leases.any (fun l => l.stage == 2 && l.x && (l.page == p || (big && l.page == p - p % 512)))

/-- The fetch of the bundle at a VA (R148); while the owner cannot answer, what it needs. It is ordered after the dependency entries of the
context, but not after its own stores (R45). -/
def State.fetchAt (s : State) (g va : Nat) : Except Need Fetched :=
  let c := s.ctx g
  match translate c.wnd va 32 with
  | none => .ok (.failed 5 (vaInfo false va))
  | some (ia, _) => match footprintMiss (s.card g) false ia 32 with
    | some x => .ok (.failed 6 (fpInfo false x))
    | none => match s.readOne (dieOfCtx g) ia 32 (.fetch (s.leasedX g ia)) (c.deps.map Dep.ent) with
      | .wait n => .error n
      | .denied w => .ok (.failed (denialPoison true w ia).cause (denialPoison true w ia).info)
      | .ok bs key _ _ => .ok (.bytes bs key ia)

/-- The bundle at the PC: as fetched ahead, or fetched now. -/
def State.bundleAt (s : State) (g : Nat) : Except Need Fetched :=
  let c := s.ctx g
  match c.fetched with
  | some (va, f) => if va = c.pc then .ok f else s.fetchAt g c.pc.toNat
  | none => s.fetchAt g c.pc.toNat

/-- A context that could issue: bound, not halted, not about to leave its task, with no request that takes effect at its boundary (R130, R133, R166). -/
def Ctx.issuable (c : Ctx) : Bool := c.life == .active && !c.halted && c.preempt.isNone && c.task.isSome && c.stopping.isNone

/-- The sequencer fetches the bundle at the PC ahead of its issue (R148). -/
def execBundleFetch (g : Nat) (s : State) : Host.Outcome State Fault Refusal :=
  onUnit (ctxOk g) (
    let c := s.ctx g
    if !c.issuable || (match c.fetched with | some (va, _) => va == c.pc | none => false) then s
    else match s.fetchAt g c.pc.toNat with
      | .error n => s.meet n
      | .ok f => s.modCtx g (fun c => { c with fetched := some (c.pc, f) }))

-- The slots of a bundle -------------------------------------------------------------------------------------------------------

/-- A slot of a fetched bundle: its word and what it decodes to. -/
structure SlotWord where
  slot : Sys2Proof.Slot
  word : BitVec 32
  dec : Except DecodeError Instr

/-- The eight slots in slot order. -/
def slotsOf (bs : List Byte) : List SlotWord := (bundleWords bs).map (fun p => ⟨p.1, p.2, decodeWord p.1 p.2⟩)

/-- The instruction of a slot, if it has one. -/
def SlotWord.instr? (x : SlotWord) : Option Instr := match x.dec with | .ok i => some i | .error _ => none

/-- trap.info of causes 0x01 and 0x02 (R48). -/
def SlotWord.info (x : SlotWord) : W64 := w64 (x.slot.num * 2 ^ 32 + x.word.toNat)

/-- A cause found in a slot, with trap.info. -/
structure Found where
  slot : Nat
  cause : Nat
  info : W64
deriving DecidableEq, Repr

/-- The causes of R46. -/
def staticCauses (xs : List SlotWord) : List Found :=
  xs.filterMap (fun x => match x.dec with
    | .ok _ => none
    | .error .undefinedEncoding => some ⟨x.slot.num, 1, x.info⟩
    | .error .reservedField => some ⟨x.slot.num, 2, x.info⟩)

/-- The instruction whose destinations a slot names: a word with a reserved field that is not 0 names those of its opcode too (R19, R46). -/
def SlotWord.named? (x : SlotWord) : Option Instr :=
  match x.dec with
  | .ok i => some i
  | .error .reservedField => opcodeOf x.slot.space x.word
  | .error .undefinedEncoding => none

/-- The destinations a slot of a context names: a wait names its status predicate (R19, R159). -/
def SlotWord.dests (x : SlotWord) (c : Ctx) : List Nat :=
  match x.named? with
  | none => []
  | some (.wait n) => (match waitPt (c.waitWord n.toNat 0) with | 0 => [] | k => [128 + k])
  | some i => destinations i

/-- The slots that name a destination of a lower-numbered slot (R19, R47). -/
def repeatedDests (c : Ctx) : List Nat → List SlotWord → List Found
  | _, [] => []
  | seen, x :: xs =>
    let ds := x.dests c
    let rest := repeatedDests c (ds ++ seen) xs
    if ds.any seen.contains then ⟨x.slot.num, 1, x.info⟩ :: rest else rest

/-- The S0 slot. -/
def s0Of (xs : List SlotWord) : SlotWord := xs.headD ⟨.s0, 0, .ok .nop⟩

/-- The issue mode suppresses the bundle (R55); loop and loopi always issue. -/
def Ctx.suppresses (c : Ctx) (x : SlotWord) : Bool :=
  let h := match opcodeOf .control x.word with | some i => headerIn .s0 i x.word | none => headerOf x.word
  h.legal && !c.issues h.mode.toNat h.level.toNat

/-- The guard and the stage gate of a slot let it act, or cannot be told yet (R49, R58). -/
def Ctx.acts (c : Ctx) (i : Instr) : Option Bool :=
  match guardOf i, stageOf i with
  | some g, _ => c.guardValue g
  | none, some g => some (c.gateLive g.toNat)
  | none, none => some true

/-- An issuing slot reads source specifier k, as far as can be told. -/
def readsSource (c : Ctx) (xs : List SlotWord) (k : Nat) : Bool :=
  xs.any (fun x => match x.instr? with
    | none => false
    | some i => (sources i).any (fun y => y.toNat == k) && c.acts i != some false)

/-- The bundle carries an instruction that makes it a synchronisation bundle (R34). -/
def carriesSync (c : Ctx) (xs : List SlotWord) : Bool :=
  xs.any (fun x => match x.instr? with
    | some (.wait _) => true
    | some .suspend => true
    | some .yield => true
    | some .endTask => true
    | some (.fence g _ _) => c.guardValue g == some true
    | some (.mfence g) => c.guardValue g == some true
    | _ => false)

/-- An issuing slot reads the l5 that a faulting command writes (R34). -/
def readsFaultedL5 (c : Ctx) (xs : List SlotWord) : Bool := c.deferred.any (fun d => d.2.l5 == some c.l5.tok) && readsSource c xs 85

/-- What the slots of a bundle have come to. -/
structure Plan where
  s : State
  found : List Found
  stall : Bool
  busy : Bool
  need : Need
  probe : Bool
  refill : Bool
  sync : Bool

/-- A slot's instruction run on what the earlier slots left. -/
def Plan.after (p : Plan) (x : SlotWord) (i : Instr) : State :=
  ({ p.s with bun := { p.s.bun with slot := x.slot.num, word := x.word, trap := none, stall := false, busy := false, need := none, probe := false, refill := false, sync := false } } : State).runSlot i

/-- One slot runs on what the earlier ones left; a slot that waits or raises a cause leaves no trace. Of a word with a reserved field the 0x01 that its
instruction finds at issue is reported too (R47). -/
def Plan.run (p : Plan) (x : SlotWord) : Plan :=
  match x.instr? with
  | none => (match x.named? with
    | none => p
    | some i => match (p.after x i).bun.trap with
      | some (1, info) => { p with found := p.found ++ [⟨x.slot.num, 1, info⟩] }
      | _ => p)
  | some i =>
    let s1 := p.after x i
    match s1.bun.trap with
    | some (cause, info) => { p with found := p.found ++ [⟨x.slot.num, cause, info⟩] }
    | none =>
      if s1.bun.stall || s1.bun.busy then
        { p with stall := p.stall || s1.bun.stall, busy := p.busy || s1.bun.busy, need := p.need.or s1.bun.need, probe := p.probe || s1.bun.probe, refill := p.refill || s1.bun.refill,
                 sync := p.sync || s1.bun.sync }
      else { p with s := s1 }

/-- The order in which slots run: effects leave in slot order, S0 last (R43). -/
def runOrder (xs : List SlotWord) : List SlotWord := xs.drop 1 ++ xs.take 1

/-- The frame of a bundle of a context (R19). -/
def State.frame (s : State) (g : Nat) (w : Option WaitSt) (taken : Nat) : State :=
  { s with cur := g, bun := { Frame.none with on := true, pre := s.ctx g, rows := (s.core (coreOfCtx g)).rows, marks := (s.core (coreOfCtx g)).rowPoison,
                                              latches := s.latches g, first := s.nextId, wait := w, taken := taken } }

/-- The wait of a bundle is considered (R160), event bits that other contexts take left out (R161). -/
def State.considerWait (s : State) (g taken : Nat) (x : SlotWord) : Option WaitSt :=
  match x.instr? with
  | some (.wait n) => if (s.ctx g).waitOk n.toNat && (s.waitBadOffset g n.toNat).isNone then some (s.sampleWait g n.toNat taken) else none
  | _ => none

-- The choice among causes (R47) -----------------------------------------------------------------------------------------------

/-- The cause of the lowest slot; within one slot the lower code. -/
def lowestSlot (fs : List Found) : Option Found :=
  fs.foldl (fun m f => match m with
    | none => some f
    | some x => if f.slot < x.slot || (f.slot == x.slot && decide (f.cause < x.cause)) then some f else m) none

/-- The queues of a pop mask that are empty and that no issuing slot reads (R54). -/
def State.emptyPops (s : State) (g : Nat) (xs : List SlotWord) (pop : Nat) : List Nat :=
  (upFrom 0 8).filter (fun k => bitN pop k && (s.latch g k).isEmpty && !readsSource (s.ctx g) xs (88 + k))

/-- The cause 0x18 of a bundle (R54): its trap.info shows every queue that the pop mask named and that was empty (R48). -/
def State.popCause (s : State) (g : Nat) (xs : List SlotWord) : Option Found :=
  let x := s0Of xs
  let pop := (headerOf x.word).pop.toNat
  if (s.emptyPops g xs pop).isEmpty then none
  else some ⟨0, 0x18, w64 (x.word.toNat + (((upFrom 0 8).filter (fun k => bitN pop k && (s.latch g k).isEmpty)).map (fun k => 2 ^ (35 + k))).foldl (· + ·) 0)⟩

/-- The causes of steps 2 to 4 of R47. -/
def State.urgent (s : State) (g : Nat) (xs : List SlotWord) (fs : List Found) : Option Found :=
  match lowestSlot (fs.filter (fun f => f.cause == 1 || f.cause == 2)) with
  | some f => some f
  | none => match lowestSlot (fs.filter (fun f => f.cause == 3)) with
    | some f => some f
    | none => s.popCause g xs

-- Commit ----------------------------------------------------------------------------------------------------------------------

/-- The next PC and the loop nest after a bundle at the PC of `pre` that takes no jump (R150). -/
def Ctx.afterBundle (c pre : Ctx) : Ctx := if bit pre.trap.cause 8 then { c with pc := w64 (pre.pc.toNat + 32) } else c.endOfBody pre.pc.toNat

/-- A context has issued: the record of the selector (R128), and the model's count of issues. One that has left its task, or that stops issuing,
has ended its turn. -/
def State.issued (s : State) (g : Nat) : State :=
  let go := (s.ctx g).issuable
  let s := s.modCore (coreOfCtx g) (fun k =>
    { k with sel := ⟨g % 4, if !go then 0 else if k.sel.last = g % 4 && !k.sel.yielding then k.sel.count + 1 else 1, !go⟩ })
  { s with cur := g, bun := Frame.none, cyc := s.cyc + 1 }

/-- A bundle raises a cause: it commits nothing (R19). A pending deferred trap is taken first, and the cause recurs when the bundle issues again
(R34, R47). -/
def State.bundleTrap (s : State) (g cause : Nat) (info : W64) : State :=
  if !(s.ctx g).deferred.isEmpty then ((s.modCtx g (fun c => { c with fetched := none })).takeDeferred g).issued g
  else
  let s := if cause = 7 || cause = 8 || cause = 0x16 then s.markRaised g cause info else s
  ((s.modCtx g (fun c => { c with fetched := none })).takeTrap g cause (s.ctx g).pc info).issued g

/-- The bundle's next PC is checked (R148), after every other cause and every hold of its slots (log 75), and it commits: `s` is the state before it,
`t` what its slots left. -/
def State.commit (s t : State) (g pop : Nat) : State :=
  let pre := s.ctx g
  let t := (if t.bun.jumped then t else t.modCtx g (fun c => c.afterBundle pre)).popQueues (dieOfCtx g) (t.bun.latches.map (fun q => q.1)) pop
  let npc := (t.ctx g).pc
  if bits npc 63 57 != 0 then s.bundleTrap g 5 npc
  else
    let u := t.modCtx g (fun c => { c with wait := none, fetched := none, halted := c.halted || t.bun.halt })
    let u := match t.bun.stop with
      | none => u
      | some w => if w != Stop.ended && (u.ctx g).carryPending then u.modCtx g (fun c => { c with stopping := some (pre.pc, w) }) else u.stopTask g pre.pc w
    u.issued g

/-- The shadow stack of a context moved: an empty one refilled, a full one spilled (R156, R157). -/
def State.shadowMoved (s : State) (g : Nat) (refill : Bool) : Option State :=
  match s.boundTask g with
  | none => none
  | some t =>
    let top := (s.ctx g).shadowTop
    let u := { s with cur := g }
    if (shadowDep top == 0) != refill then none
    else match (if refill then u.refill t (shadowBlk top) else u.spill t (shadowBlk top)) with
      | .ok u => some { u with cur := s.cur }
      | _ => none

/-- A bundle that stalls changes nothing but what its wait has seen, the probes and the owners it waits for, and a refill of the shadow stack, which stands
whatever the bundle then does (R157). A wait whose timeout has come while the bundle still stalls is sampled again with it (R160; log 71). -/
def State.stalled (s : State) (g : Nat) (w : Option WaitSt) (p : Plan) : State :=
  let s := if w.isSome then s.modCtx g (fun c => { c with wait := w }) else s
  let s := if p.probe then s.probeAll g else s
  let s := s.meet p.need
  if p.refill then (s.shadowMoved g true).getD s else s

/-- A suppressed bundle (R55): only the next PC is formed. -/
def State.suppressed (s : State) (g : Nat) : State := s.commit ((s.frame g none 0).modCtx g id) g 0

/-- The slots of a bundle run in their order on a state of its context. -/
def State.plan (s : State) (g taken : Nat) (w : Option WaitSt) (static : List Found) (xs : List SlotWord) : Plan :=
  (runOrder xs).foldl Plan.run ⟨s.frame g w taken, static, false, false, none, false, false, false⟩

/-- What a bundle without an urgent cause comes to, by what its slots have found: a cause, a stall, or its commit; `s` is the state before it. -/
def State.resolveBundle (s : State) (g : Nat) (w : Option WaitSt) (p : Plan) (pop : Nat) : State :=
  if p.stall then s.stalled g w p
  else match lowestSlot p.found with
    | some f => s.bundleTrap g f.cause f.info
    | none => if p.busy then s.stalled g w p else s.commit p.s g pop

/-- A bundle whose call has to spill is considered again with the spill made: the spill stands if the bundle commits, and is undone with it if not
(R19, R156; log 95). -/
def Plan.spilled (p : Plan) (s : State) (g taken : Nat) (w : Option WaitSt) (static : List Found) (xs : List SlotWord) : Plan :=
  if p.stall || !p.found.isEmpty || !p.refill then p
  else match s.shadowMoved g false with
    | none => p
    | some u => { (u.plan g taken w static xs) with refill := false }

/-- A fetched bundle is considered: it issues, raises a cause, or stalls (R42, R47). Causes are raised once its operands are ready; a slot that
waits for an engine or for accesses holds only its commit. -/
def State.runBundle (s : State) (g taken : Nat) (xs : List SlotWord) : State :=
  let c := s.ctx g
  let x0 := s0Of xs
  let static := staticCauses xs ++ repeatedDests c [] xs
  if c.suppresses x0 then (match lowestSlot static with
    | some f => s.bundleTrap g f.cause f.info
    | none => s.suppressed g)
  else
    let w := s.considerWait g taken x0
    let p := (s.plan g taken w static xs).spilled s g taken w static xs
    if (carriesSync c xs || readsFaultedL5 c xs || p.sync) && (s.lowestPending g).isSome then
      ((s.modCtx g (fun c => { c with fetched := none })).takePending g).issued g
    else match s.urgent g xs p.found with
      | some f => s.bundleTrap g f.cause f.info
      | none => s.resolveBundle g w p (headerOf x0.word).pop.toNat

/-- The bundle at the PC of a context is considered, event bits that other contexts take left out (R42, R148, R161). -/
def State.considerWith (s : State) (taken g : Nat) : State :=
  let c := s.ctx g
  if !c.issuable then s
  else match s.bundleAt g with
    | .error n => s.meet n
    | .ok (.failed cause info) => s.bundleTrap g cause info
    | .ok (.bytes bs key ia) => if !keyReads c.pkr key then s.bundleTrap g 7 (info07 ia key) else s.runBundle g taken (slotsOf bs)

-- Waits -----------------------------------------------------------------------------------------------------------------------

/-- The descriptor that the bundle at the PC waits on, with what its consideration now gives, event bits that other contexts take left out. -/
def State.waitWith (s : State) (taken g : Nat) : Option (Nat × WaitSt) :=
  match s.bundleAt g with
  | .ok (.bytes bs _ _) =>
    let x := s0Of (slotsOf bs)
    if (s.ctx g).suppresses x then none
    else match x.instr? with
      | some (.wait n) => (s.considerWait g taken x).map (fun w => (n.toNat, w))
      | _ => none
  | _ => none

/-- The event bits that the contexts listed, in their order, consume by waits that would complete now (R161). -/
def State.takenBy (s : State) : List Nat → Nat → Nat
  | [], m => m
  | h :: hs, m =>
    let c := s.ctx h
    let used := if c.wait.isNone || !c.issuable then 0
      else match s.waitWith m h with
        | none => 0
        | some (n, w) => if c.waitDone n w && (s.considerWith m h).cyc != s.cyc then c.waitConsumes n ((s.core (coreOfCtx h)).event &&& ~~~(w64 m)) else 0
    s.takenBy hs (m ||| used)

/-- The event bits that waits of the lower-numbered contexts of the core would consume now (R161). -/
def State.taken (s : State) (g : Nat) : Nat := s.takenBy ((upFrom 0 (g % 4)).map (fun k => 4 * (g / 4) + k)) 0

/-- The bundle at the PC of a context is considered (R42, R148). -/
def State.considerBundle (s : State) (g : Nat) : State := s.considerWith (s.taken g) g

/-- The descriptor that the bundle at the PC waits on, with what its consideration now gives. -/
def State.waitNow (s : State) (g : Nat) : Option (Nat × WaitSt) := s.waitWith (s.taken g) g

-- The issue selector (R128) ---------------------------------------------------------------------------------------------------

/-- The priority of the task of a context. -/
def State.prioOf (s : State) (g : Nat) : Nat := match s.boundTask g with | none => 0 | some t => t.prio

/-- A context is ready: its bundle would issue or raise a cause. -/
def State.ready (s : State) (g : Nat) : Bool := (s.considerBundle g).cyc != s.cyc

/-- The contexts of a core in round-robin order, the one that issued last first unless its turn is over. -/
def State.turns (s : State) (c : Nat) : List Nat :=
  let sel := (s.core c).sel
  let after := (upFrom 1 3).map (fun k => 4 * c + (sel.last + k) % 4)
  if sel.yielding then after ++ [4 * c + sel.last] else (4 * c + sel.last) :: after

/-- The context the selector takes: the first ready one of the highest priority. -/
def State.selected (s : State) (c : Nat) : Option Nat :=
  let rs := (s.turns c).filter (fun g => (s.ctx g).issuable && s.ready g)
  let top := (rs.map s.prioOf).foldl Nat.max 0
  rs.find? (fun g => s.prioOf g == top)

/-- The context that issued last is not ready: its turn ends (R128). -/
def State.noteStall (s : State) (c : Nat) : State :=
  let g := 4 * c + (s.core c).sel.last
  if (s.ctx g).issuable && s.ready g then s else s.endTurn g

/-- A context has the cycle: its bundle issues or raises a cause if the selector takes it; one that is not ready stalls, and the cycle is another's
(R42, R128). -/
def State.issueTurn (s : State) (g : Nat) : State :=
  if s.ready g then (if (s.noteStall (g / 4)).selected (g / 4) = some g then (s.noteStall (g / 4)).considerBundle g else s)
  else (s.considerBundle g).noteStall (g / 4)

/-- A context's bundle issues when none of its issuing slots is stalled and it is the context's turn. -/
def execBundleIssue (g : Nat) (s : State) : Host.Outcome State Fault Refusal := onUnit (ctxOk g) (s.issueTurn g)

/-- The wait of a context completes, and its bundle issues (R160). -/
def execWaitComplete (g : Nat) (s : State) : Host.Outcome State Fault Refusal :=
  onUnit (ctxOk g) (match s.waitNow g with
    | none => s
    | some (n, w) => if (s.ctx g).waitDone n w then s.issueTurn g else s)

/-- The wait of a context times out (R160); completion comes first. -/
def execWaitTimeout (g : Nat) (s : State) : Host.Outcome State Fault Refusal :=
  onUnit (ctxOk g) (match s.waitNow g with
    | none => s
    | some (n, w) => if !(s.ctx g).waitDone n w && (s.ctx g).waitExpired n s.tick w then s.issueTurn g else s)

/-- A context that has issued 4,096 times in a row yields the next pick to a ready one of equal priority (R128). -/
def execFairnessBound (c : Nat) (s : State) : Host.Outcome State Fault Refusal :=
  onUnit (coreOk c) (
    let sel := (s.core c).sel
    let g := 4 * c + sel.last
    if 4096 ≤ sel.count && !sel.yielding && (s.turns c).any (fun h => h != g && (s.ctx h).issuable && s.prioOf h == s.prioOf g && s.ready h)
    then s.modCore c (fun k => { k with sel := { k.sel with yielding := true } }) else s)

end Sys2Proof.Machine
end

