-- ==== Sys2Proof/Machine/Turns.lean ====
section
/-! DEFINITION. The updates that an owner serves in the turns of R198 beside those of the index engine: the atomics of the memory ports
(R197, R210) and the merges of sketches (R326). -/

namespace Sys2Proof.Machine

/-- An atomic update performed at the owner as one indivisible update (R197, R198); a page that rejects it returns the old value and
changes nothing (R210). It has read what it replaces, so that the stamp of its write keeps that of the old bytes (R184, R186, R189). -/
def execAtomicUpdateServe (id : Nat) (s : State) : Host.Outcome State Fault Refusal :=
  .next (s.onMsg id (fun s m => match m.kind with
    | .atomic a =>
      if !s.servable m || !s.inSequence m || !s.myTurn m.target m.ia m.origin id then s
      else
        let rd := s.redirectFor m
        let (c, rej, key) := s.writeCheck m
        let (old, st) := match s.walk m.target m.ia with
          | .leaf _ big e => (s.readPA m.target (leafPA big e m.ia) m.n, s.stampsOf m.ia m.n)
          | _ => (bytesOf m.n (Config.freeWord s.free).toNat, [])
        let new := a.newValue (ofBytes old)
        let (past, seen) := (s.pastOf m, s.applied)
        let bad := match c with
          | .ok pa _ => s.badAt m.target pa m.n
          | .denied _ => none
        let s := if bad.isSome then s else match c with
          | .denied _ => { s with free := s.free + 1 }
          | .ok pa _ => if a.fails (ofBytes old) then s else s.applyAt { m with stamp := st.foldl mergeEnt m.stamp } pa m.ia (bytesOf m.n new)
        let s := s.servedTurn m.target m.ia m.origin
        let s := s.resolveAll m
        s.modMsg id (fun m => { m with stage := .served, ans := ⟨old, st, key, bad.map (fun x => 8 + x), rej, none, false, rd, false, past, seen⟩ })
    | _ => s))

/-- The owner merges a sketch into the destination as one causal write, on its turn (R198, R326). -/
def execQmergeatOwnerApply (id : Nat) (s : State) : Host.Outcome State Fault Refusal :=
  .next (match s.sentSurvey id with
    | none => s
    | some (c, m) =>
      let d := dieOfCore c
      let answer := fun (s : State) (a : Option Nat) => s.modCore c (fun q => { q with survey := put id { m with answer := some a } q.survey })
      let ents := s.cmdEnts m.tag
      if m.answer.isSome then s
      else match s.placeOf d m.ia ents with
        | .wait n => s.meet n
        | .denied _ => answer s (some 3)
        | .at_ t =>
          let refuse := fun (sub : Nat) => answer ((s.use (some (d, t))).servedTurn t m.ia d) (some sub)
          if !s.canUpdate t d m.ia ents || !s.myTurn t m.ia d id then s
          else match s.checkAt t m.ia .store with
            | .denied _ => refuse 3
            | .ok pa e =>
              let old := s.readPA t pa 4096
              if !bitN m.tag.wen (leafKey e) then refuse 3
              else if (s.badAt t pa 4096).isSome then refuse 4
              else if !sketchOk old then refuse 1
              else
                let q := (sketchOf old s.free).merge (sketchOf (m.sent.getD []) 0)
                match s.writeOne d m.ia q.image .store m.tag.wen ents with
                | .wait _ => s
                | .rejected _ _ _ u => answer ((s.use u).servedTurn t m.ia d) (some 3)
                | .ok s => answer ({ s with free := q.free }.servedTurn t m.ia d) none)

end Sys2Proof.Machine
end

