-- ==== Sys2Proof/Machine/Dispatch.lean ====
section
/-! DEFINITION. One arm per instruction and event. A slot instruction acts for the context `s.cur`; `.bundleIssue g` runs a whole
bundle. -/

namespace Sys2Proof.Machine

/-- What an instruction or an event does. -/
def exec (i : Instr) (s : State) : Host.Outcome State Fault Refusal :=
  match i with
  | .jmp j => Sys2Proof.Machine.execJmp j s
  | .jmpc q j => Sys2Proof.Machine.execJmpc q j s
  | .jmpi x => Sys2Proof.Machine.execJmpi x s
  | .jmpt t ix => Sys2Proof.Machine.execJmpt t ix s
  | .jmpm j => Sys2Proof.Machine.execJmpm j s
  | .call j => Sys2Proof.Machine.execCall j s
  | .calli x => Sys2Proof.Machine.execCalli x s
  | .loop x n c b => Sys2Proof.Machine.execLoop x n c b s
  | .loopi x n c b => Sys2Proof.Machine.execLoopi x n c b s
  | .lbrk n => Sys2Proof.Machine.execLbrk n s
  | .wait w => Sys2Proof.Machine.execWait w s
  | .trap k => Sys2Proof.Machine.execTrap k s
  | .brk k => Sys2Proof.Machine.execBrk k s
  | .spawn b x => Sys2Proof.Machine.execSpawn b x s
  | .tld w d => Sys2Proof.Machine.execTld w d s
  | .tst w x => Sys2Proof.Machine.execTst w x s
  | .sysr r d => Sys2Proof.Machine.execSysr r d s
  | .sysw r x => Sys2Proof.Machine.execSysw r x s
  | .gsub x => Sys2Proof.Machine.execGsub x s
  | .add g d a b => Sys2Proof.Machine.execAdd g d a b s
  | .sub g d a b => Sys2Proof.Machine.execSub g d a b s
  | .mul g d a b => Sys2Proof.Machine.execMul g d a b s
  | .mulh g d a b => Sys2Proof.Machine.execMulh g d a b s
  | .mulhn g d a b => Sys2Proof.Machine.execMulhn g d a b s
  | .div g d a b => Sys2Proof.Machine.execDiv g d a b s
  | .divn g d a b => Sys2Proof.Machine.execDivn g d a b s
  | .and g d a b => Sys2Proof.Machine.execAnd g d a b s
  | .or g d a b => Sys2Proof.Machine.execOr g d a b s
  | .xor g d a b => Sys2Proof.Machine.execXor g d a b s
  | .andn g d a b => Sys2Proof.Machine.execAndn g d a b s
  | .shl g d a b => Sys2Proof.Machine.execShl g d a b s
  | .shr g d a b => Sys2Proof.Machine.execShr g d a b s
  | .sra g d a b => Sys2Proof.Machine.execSra g d a b s
  | .min g d a b => Sys2Proof.Machine.execMin g d a b s
  | .max g d a b => Sys2Proof.Machine.execMax g d a b s
  | .minn g d a b => Sys2Proof.Machine.execMinn g d a b s
  | .maxn g d a b => Sys2Proof.Machine.execMaxn g d a b s
  | .cmp g c k a b => Sys2Proof.Machine.execCmp g c k a b s
  | .sel x d a b => Sys2Proof.Machine.execSel x d a b s
  | .li g d ix => Sys2Proof.Machine.execLi g d ix s
  | .lih g d ix => Sys2Proof.Machine.execLih g d ix s
  | .clz g d a => Sys2Proof.Machine.execClz g d a s
  | .ctz g d a => Sys2Proof.Machine.execCtz g d a s
  | .popc g d a => Sys2Proof.Machine.execPopc g d a s
  | .bext g d a b => Sys2Proof.Machine.execBext g d a b s
  | .bins g d a b => Sys2Proof.Machine.execBins g d a b s
  | .addsh1 g d a b => Sys2Proof.Machine.execAddsh1 g d a b s
  | .addsh2 g d a b => Sys2Proof.Machine.execAddsh2 g d a b s
  | .addsh3 g d a b => Sys2Proof.Machine.execAddsh3 g d a b s
  | .addsh5 g d a b => Sys2Proof.Machine.execAddsh5 g d a b s
  | .pand g d a b => Sys2Proof.Machine.execPand g d a b s
  | .por g d a b => Sys2Proof.Machine.execPor g d a b s
  | .pnot g d a => Sys2Proof.Machine.execPnot g d a s
  | .faddF32 g d a b => Sys2Proof.Machine.execFaddF32 g d a b s
  | .fsubF32 g d a b => Sys2Proof.Machine.execFsubF32 g d a b s
  | .fmulF32 g d a b => Sys2Proof.Machine.execFmulF32 g d a b s
  | .ffmaF32 g d a b => Sys2Proof.Machine.execFfmaF32 g d a b s
  | .fcmpF32 g c k a b => Sys2Proof.Machine.execFcmpF32 g c k a b s
  | .fcvt g d a r c => Sys2Proof.Machine.execFcvt g d a r c s
  | .faddF64 g d a b => Sys2Proof.Machine.execFaddF64 g d a b s
  | .fsubF64 g d a b => Sys2Proof.Machine.execFsubF64 g d a b s
  | .fmulF64 g d a b => Sys2Proof.Machine.execFmulF64 g d a b s
  | .ffmaF64 g d a b => Sys2Proof.Machine.execFfmaF64 g d a b s
  | .fcmpF64 g c k a b => Sys2Proof.Machine.execFcmpF64 g c k a b s
  | .ldB g d b o => Sys2Proof.Machine.execLdB g d b o s
  | .ldH g d b o => Sys2Proof.Machine.execLdH g d b o s
  | .ldW g d b o => Sys2Proof.Machine.execLdW g d b o s
  | .ldD g d b o => Sys2Proof.Machine.execLdD g d b o s
  | .ldQ g d b o => Sys2Proof.Machine.execLdQ g d b o s
  | .ldO g d b o => Sys2Proof.Machine.execLdO g d b o s
  | .ldnB g d b o => Sys2Proof.Machine.execLdnB g d b o s
  | .ldnH g d b o => Sys2Proof.Machine.execLdnH g d b o s
  | .ldnW g d b o => Sys2Proof.Machine.execLdnW g d b o s
  | .ldWAcq g d b o => Sys2Proof.Machine.execLdWAcq g d b o s
  | .ldDAcq g d b o => Sys2Proof.Machine.execLdDAcq g d b o s
  | .stB g d b o => Sys2Proof.Machine.execStB g d b o s
  | .stH g d b o => Sys2Proof.Machine.execStH g d b o s
  | .stW g d b o => Sys2Proof.Machine.execStW g d b o s
  | .stD g d b o => Sys2Proof.Machine.execStD g d b o s
  | .stQ g d b o => Sys2Proof.Machine.execStQ g d b o s
  | .stO g d b o => Sys2Proof.Machine.execStO g d b o s
  | .stWRel g d b o => Sys2Proof.Machine.execStWRel g d b o s
  | .stDRel g d b o => Sys2Proof.Machine.execStDRel g d b o s
  | .ldroW g d b o => Sys2Proof.Machine.execLdroW g d b o s
  | .ldroD g d b o => Sys2Proof.Machine.execLdroD g d b o s
  | .ldroQ g d b o => Sys2Proof.Machine.execLdroQ g d b o s
  | .ldroO g d b o => Sys2Proof.Machine.execLdroO g d b o s
  | .stncD g d b o => Sys2Proof.Machine.execStncD g d b o s
  | .stncQ g d b o => Sys2Proof.Machine.execStncQ g d b o s
  | .stncO g d b o => Sys2Proof.Machine.execStncO g d b o s
  | .lds g d b z o => Sys2Proof.Machine.execLds g d b z o s
  | .sts g d b z o => Sys2Proof.Machine.execSts g d b z o s
  | .vld g v b r f o => Sys2Proof.Machine.execVld g v b r f o s
  | .vst g v b r f o => Sys2Proof.Machine.execVst g v b r f o s
  | .vlds g v b o => Sys2Proof.Machine.execVlds g v b o s
  | .vsts g v b o => Sys2Proof.Machine.execVsts g v b o s
  | .amoW g d b c o x => Sys2Proof.Machine.execAmoW g d b c o x s
  | .amoD g d b c o x => Sys2Proof.Machine.execAmoD g d b c o x s
  | .casW g d b o x => Sys2Proof.Machine.execCasW g d b o x s
  | .casD g d b o x => Sys2Proof.Machine.execCasD g d b o x s
  | .xadd g d b w => Sys2Proof.Machine.execXadd g d b w s
  | .xget g d b r => Sys2Proof.Machine.execXget g d b r s
  | .fence g k x => Sys2Proof.Machine.execFence g k x s
  | .prf g b o => Sys2Proof.Machine.execPrf g b o s
  | .probe g d => Sys2Proof.Machine.execProbe g d s
  | .vadd k g d a b => Sys2Proof.Machine.execVadd k g d a b s
  | .vsub k g d a b => Sys2Proof.Machine.execVsub k g d a b s
  | .vmul k g d a b => Sys2Proof.Machine.execVmul k g d a b s
  | .vfma k g d a b => Sys2Proof.Machine.execVfma k g d a b s
  | .vfms k g d a b => Sys2Proof.Machine.execVfms k g d a b s
  | .vmin k g d a b => Sys2Proof.Machine.execVmin k g d a b s
  | .vmax k g d a b => Sys2Proof.Machine.execVmax k g d a b s
  | .vabs k g d a => Sys2Proof.Machine.execVabs k g d a s
  | .vneg k g d a => Sys2Proof.Machine.execVneg k g d a s
  | .vclamp k g d a b => Sys2Proof.Machine.execVclamp k g d a b s
  | .vand k g d a b => Sys2Proof.Machine.execVand k g d a b s
  | .vor k g d a b => Sys2Proof.Machine.execVor k g d a b s
  | .vxor k g d a b => Sys2Proof.Machine.execVxor k g d a b s
  | .vshl k g d a b => Sys2Proof.Machine.execVshl k g d a b s
  | .vshr k g d a b => Sys2Proof.Machine.execVshr k g d a b s
  | .vsra k g d a b => Sys2Proof.Machine.execVsra k g d a b s
  | .vcmp k g c q a b => Sys2Proof.Machine.execVcmp k g c q a b s
  | .vsel k g d a b => Sys2Proof.Machine.execVsel k g d a b s
  | .vmov k g d a => Sys2Proof.Machine.execVmov k g d a s
  | .vbcs k g d b => Sys2Proof.Machine.execVbcs k g d b s
  | .vlane k g d => Sys2Proof.Machine.execVlane k g d s
  | .vaddS k g d a b => Sys2Proof.Machine.execVaddS k g d a b s
  | .vsubS k g d a b => Sys2Proof.Machine.execVsubS k g d a b s
  | .vmulS k g d a b => Sys2Proof.Machine.execVmulS k g d a b s
  | .vfmaS k g d a b => Sys2Proof.Machine.execVfmaS k g d a b s
  | .vfmsS k g d a b => Sys2Proof.Machine.execVfmsS k g d a b s
  | .vminS k g d a b => Sys2Proof.Machine.execVminS k g d a b s
  | .vmaxS k g d a b => Sys2Proof.Machine.execVmaxS k g d a b s
  | .vclampS k g d a b => Sys2Proof.Machine.execVclampS k g d a b s
  | .vandS k g d a b => Sys2Proof.Machine.execVandS k g d a b s
  | .vorS k g d a b => Sys2Proof.Machine.execVorS k g d a b s
  | .vxorS k g d a b => Sys2Proof.Machine.execVxorS k g d a b s
  | .vshlS k g d a b => Sys2Proof.Machine.execVshlS k g d a b s
  | .vshrS k g d a b => Sys2Proof.Machine.execVshrS k g d a b s
  | .vsraS k g d a b => Sys2Proof.Machine.execVsraS k g d a b s
  | .vcmpS k g c q a b => Sys2Proof.Machine.execVcmpS k g c q a b s
  | .vselS k g d a b => Sys2Proof.Machine.execVselS k g d a b s
  | .vexp k g d a => Sys2Proof.Machine.execVexp k g d a s
  | .vlog k g d a => Sys2Proof.Machine.execVlog k g d a s
  | .vtanh k g d a => Sys2Proof.Machine.execVtanh k g d a s
  | .vsig k g d a => Sys2Proof.Machine.execVsig k g d a s
  | .vgelu k g d a => Sys2Proof.Machine.execVgelu k g d a s
  | .vsilu k g d a => Sys2Proof.Machine.execVsilu k g d a s
  | .vrsqrt k g d a => Sys2Proof.Machine.execVrsqrt k g d a s
  | .vsqrt k g d a => Sys2Proof.Machine.execVsqrt k g d a s
  | .vrcp k g d a => Sys2Proof.Machine.execVrcp k g d a s
  | .vrcpe k g d a => Sys2Proof.Machine.execVrcpe k g d a s
  | .vrcpn k g d a b => Sys2Proof.Machine.execVrcpn k g d a b s
  | .vrsqe k g d a => Sys2Proof.Machine.execVrsqe k g d a s
  | .vrsqn k g d a b => Sys2Proof.Machine.execVrsqn k g d a b s
  | .vcvt k g d a r u => Sys2Proof.Machine.execVcvt k g d a r u s
  | .vperm k g d a b => Sys2Proof.Machine.execVperm k g d a b s
  | .vslide k g d a b => Sys2Proof.Machine.execVslide k g d a b s
  | .vsort k g d a => Sys2Proof.Machine.execVsort k g d a s
  | .vred k g d a => Sys2Proof.Machine.execVred k g d a s
  | .mpush g q => Sys2Proof.Machine.execMpush g q s
  | .minv g => Sys2Proof.Machine.execMinv g s
  | .mpop g => Sys2Proof.Machine.execMpop g s
  | .mset g t q a => Sys2Proof.Machine.execMset g t q a s
  | .mget g d t q => Sys2Proof.Machine.execMget g d t q s
  | .vslideS k g d a b => Sys2Proof.Machine.execVslideS k g d a b s
  | .mcfg g a b => Sys2Proof.Machine.execMcfg g a b s
  | .cpl g a l => Sys2Proof.Machine.execCpl g a l s
  | .mld g a c => Sys2Proof.Machine.execMld g a c s
  | .mmk g a b z => Sys2Proof.Machine.execMmk g a b z s
  | .mmc g a b z => Sys2Proof.Machine.execMmc g a b z s
  | .msp g a b z n => Sys2Proof.Machine.execMsp g a b z n s
  | .mdp g a => Sys2Proof.Machine.execMdp g a s
  | .mdr g a b x => Sys2Proof.Machine.execMdr g a b x s
  | .mstr g a b x => Sys2Proof.Machine.execMstr g a b x s
  | .mzero g => Sys2Proof.Machine.execMzero g s
  | .mtab g a b => Sys2Proof.Machine.execMtab g a b s
  | .mhist g a b r c l => Sys2Proof.Machine.execMhist g a b r c l s
  | .mbind g a t y => Sys2Proof.Machine.execMbind g a t y s
  | .mst g a => Sys2Proof.Machine.execMst g a s
  | .mfence g => Sys2Proof.Machine.execMfence g s
  | .cpy g a b h => Sys2Proof.Machine.execCpy g a b h s
  | .cpyt g a b h => Sys2Proof.Machine.execCpyt g a b h s
  | .cpyx g a b h => Sys2Proof.Machine.execCpyx g a b h s
  | .cpyc g a b h => Sys2Proof.Machine.execCpyc g a b h s
  | .barm g a b h => Sys2Proof.Machine.execBarm g a b h s
  | .barr g a h => Sys2Proof.Machine.execBarr g a h s
  | .bq g a => Sys2Proof.Machine.execBq g a s
  | .qinit g a b h => Sys2Proof.Machine.execQinit g a b h s
  | .qadd g a b h => Sys2Proof.Machine.execQadd g a b h s
  | .qmerge g a b h => Sys2Proof.Machine.execQmerge g a b h s
  | .qmergeat g a b h => Sys2Proof.Machine.execQmergeat g a b h s
  | .qquery g a b h => Sys2Proof.Machine.execQquery g a b h s
  | .mmerge g a b h => Sys2Proof.Machine.execMmerge g a b h s
  | .hinit g a h => Sys2Proof.Machine.execHinit g a h s
  | .hadd g a b h => Sys2Proof.Machine.execHadd g a b h s
  | .hmerge g a b h => Sys2Proof.Machine.execHmerge g a b h s
  | .htop g a b h => Sys2Proof.Machine.execHtop g a b h s
  | .dinit g a b h => Sys2Proof.Machine.execDinit g a b h s
  | .dadd g a b h => Sys2Proof.Machine.execDadd g a b h s
  | .dmerge g a b h => Sys2Proof.Machine.execDmerge g a b h s
  | .dest g a h => Sys2Proof.Machine.execDest g a h s
  | .stopen g a b h => Sys2Proof.Machine.execStopen g a b h s
  | .stld g a b h => Sys2Proof.Machine.execStld g a b h s
  | .stst g a b h => Sys2Proof.Machine.execStst g a b h s
  | .stmark g a h => Sys2Proof.Machine.execStmark g a h s
  | .stback g a b h => Sys2Proof.Machine.execStback g a b h s
  | .stfork g a b h => Sys2Proof.Machine.execStfork g a b h s
  | .stpin g a b h => Sys2Proof.Machine.execStpin g a b h s
  | .stclose g a h => Sys2Proof.Machine.execStclose g a h s
  | .stq g a b => Sys2Proof.Machine.execStq g a b s
  | .mig g a b h => Sys2Proof.Machine.execMig g a b h s
  | .pkset g a b => Sys2Proof.Machine.execPkset g a b s
  | .own g a => Sys2Proof.Machine.execOwn g a s
  | .ocinv g a b h => Sys2Proof.Machine.execOcinv g a b h s
  | .lrenew g h => Sys2Proof.Machine.execLrenew g h s
  | .hnote g a b h => Sys2Proof.Machine.execHnote g a b h s
  | .hintr g a h => Sys2Proof.Machine.execHintr g a h s
  | .gath g a h => Sys2Proof.Machine.execGath g a h s
  | .scat g a h => Sys2Proof.Machine.execScat g a h s
  | .scata g a h => Sys2Proof.Machine.execScata g a h s
  | .fqread g a b h => Sys2Proof.Machine.execFqread g a b h s
  | .frep g a => Sys2Proof.Machine.execFrep g a s
  | .fdrop g a b => Sys2Proof.Machine.execFdrop g a b s
  | .wlnew g a b h => Sys2Proof.Machine.execWlnew g a b h s
  | .wlpush g a h => Sys2Proof.Machine.execWlpush g a h s
  | .wlpop g a h => Sys2Proof.Machine.execWlpop g a h s
  | .wlins g a b h => Sys2Proof.Machine.execWlins g a b h s
  | .wlstat g a => Sys2Proof.Machine.execWlstat g a s
  | .cqsend g a b h => Sys2Proof.Machine.execCqsend g a b h s
  | .cst g a b => Sys2Proof.Machine.execCst g a b s
  | .copen g a b h => Sys2Proof.Machine.execCopen g a b h s
  | .cput g a h => Sys2Proof.Machine.execCput g a h s
  | .cget g a h => Sys2Proof.Machine.execCget g a h s
  | .cred g a h => Sys2Proof.Machine.execCred g a h s
  | .cxf g a h => Sys2Proof.Machine.execCxf g a h s
  | .cbar g a h => Sys2Proof.Machine.execCbar g a h s
  | .csmp g a h => Sys2Proof.Machine.execCsmp g a h s
  | .cstr g a b h => Sys2Proof.Machine.execCstr g a b h s
  | .nop => Sys2Proof.Machine.execNop s
  | .ret => Sys2Proof.Machine.execRet s
  | .suspend => Sys2Proof.Machine.execSuspend s
  | .yield => Sys2Proof.Machine.execYield s
  | .endTask => Sys2Proof.Machine.execEndTask s
  | .eret => Sys2Proof.Machine.execEret s
  | .halt => Sys2Proof.Machine.execHalt s
  | .nopScalar => Sys2Proof.Machine.execNopScalar s
  | .nopMemory => Sys2Proof.Machine.execNopMemory s
  | .nopVector0 => Sys2Proof.Machine.execNopVector0 s
  | .nopVector1 => Sys2Proof.Machine.execNopVector1 s
  | .nopArray => Sys2Proof.Machine.execNopArray s
  | .nopEngine => Sys2Proof.Machine.execNopEngine s
  | .bundleIssue g => Sys2Proof.Machine.execBundleIssue g s
  | .bundleFetch g => Sys2Proof.Machine.execBundleFetch g s
  | .fairnessBound c => Sys2Proof.Machine.execFairnessBound c s
  | .loadAnswer id => Sys2Proof.Machine.execLoadAnswer id s
  | .writeAcknowledgement id => Sys2Proof.Machine.execWriteAcknowledgement id s
  | .storeRejection id => Sys2Proof.Machine.execStoreRejection id s
  | .probeAnswer id => Sys2Proof.Machine.execProbeAnswer id s
  | .dependencyEntryAgeProbe g j => Sys2Proof.Machine.execDependencyEntryAgeProbe g j s
  | .causalWriteApply id => Sys2Proof.Machine.execCausalWriteApply id s
  | .readRequestServe id => Sys2Proof.Machine.execReadRequestServe id s
  | .probeRequestServe id => Sys2Proof.Machine.execProbeRequestServe id s
  | .atomicUpdateServe id => Sys2Proof.Machine.execAtomicUpdateServe id s
  | .writeResendTimeout id => Sys2Proof.Machine.execWriteResendTimeout id s
  | .targetUnreachable id => Sys2Proof.Machine.execTargetUnreachable id s
  | .gazetteerEntryExpiry d p => Sys2Proof.Machine.execGazetteerEntryExpiry d p s
  | .homeOwnerQuery id => Sys2Proof.Machine.execHomeOwnerQuery id s
  | .homeOwnerAnswer id => Sys2Proof.Machine.execHomeOwnerAnswer id s
  | .redirect id => Sys2Proof.Machine.execRedirect id s
  | .notHere id => Sys2Proof.Machine.execNotHere id s
  | .signpostRelay id => Sys2Proof.Machine.execSignpostRelay id s
  | .writeResolution id => Sys2Proof.Machine.execWriteResolution id s
  | .lineageFrontierReport d p t => Sys2Proof.Machine.execLineageFrontierReport d p t s
  | .signpostRetirement d p => Sys2Proof.Machine.execSignpostRetirement d p s
  | .lineageDrop d p => Sys2Proof.Machine.execLineageDrop d p s
  | .signpostRemove d p => Sys2Proof.Machine.execSignpostRemove d p s
  | .migrationRequest k => Sys2Proof.Machine.execMigrationRequest k s
  | .migrationCopyRound k => Sys2Proof.Machine.execMigrationCopyRound k s
  | .migrationFreeze k => Sys2Proof.Machine.execMigrationFreeze k s
  | .freezeTimeout k => Sys2Proof.Machine.execFreezeTimeout k s
  | .migrationCutover k => Sys2Proof.Machine.execMigrationCutover k s
  | .migrationComplete k => Sys2Proof.Machine.execMigrationComplete k s
  | .leaseRequest d u p => Sys2Proof.Machine.execLeaseRequest d u p s
  | .leaseRelease d u p => Sys2Proof.Machine.execLeaseRelease d u p s
  | .haUopWriteLeaf m d => Sys2Proof.Machine.execHaUopWriteLeaf m d s
  | .haUopCreate m d => Sys2Proof.Machine.execHaUopCreate m d s
  | .haUopRemove m d => Sys2Proof.Machine.execHaUopRemove m d s
  | .homeRecordCreate d => Sys2Proof.Machine.execHomeRecordCreate d s
  | .hostGraphSubmit m d v => Sys2Proof.Machine.execHostGraphSubmit m d v s
  | .hostGraphDisable m d v => Sys2Proof.Machine.execHostGraphDisable m d v s
  | .taskPlacement d u => Sys2Proof.Machine.execTaskPlacement d u s
  | .passedOverReservation d u => Sys2Proof.Machine.execPassedOverReservation d u s
  | .taskLaunch d u => Sys2Proof.Machine.execTaskLaunch d u s
  | .residencyRefused d u => Sys2Proof.Machine.execResidencyRefused d u s
  | .recordWriteBack d u => Sys2Proof.Machine.execRecordWriteBack d u s
  | .overflowQueueRefill d => Sys2Proof.Machine.execOverflowQueueRefill d s
  | .conditionalNodeRun d u => Sys2Proof.Machine.execConditionalNodeRun d u s
  | .copyNodeRun d u => Sys2Proof.Machine.execCopyNodeRun d u s
  | .collectiveNodeRun d u => Sys2Proof.Machine.execCollectiveNodeRun d u s
  | .notifyNodeRun d u => Sys2Proof.Machine.execNotifyNodeRun d u s
  | .joinNodeEnd d u => Sys2Proof.Machine.execJoinNodeEnd d u s
  | .quantumExpiry d u => Sys2Proof.Machine.execQuantumExpiry d u s
  | .hostPreemptionRequest d u drain => Sys2Proof.Machine.execHostPreemptionRequest d u drain s
  | .preemptionTakeEffect g => Sys2Proof.Machine.execPreemptionTakeEffect g s
  | .saveComplete g => Sys2Proof.Machine.execSaveComplete g s
  | .spawnAnswer g => Sys2Proof.Machine.execSpawnAnswer g s
  | .waitComplete g => Sys2Proof.Machine.execWaitComplete g s
  | .waitTimeout g => Sys2Proof.Machine.execWaitTimeout g s
  | .copyCommandStart c ch => Sys2Proof.Machine.execCopyCommandStart c ch s
  | .copyUnitCredit c ch k => Sys2Proof.Machine.execCopyUnitCredit c ch k s
  | .copyFault c ch k => Sys2Proof.Machine.execCopyFault c ch k s
  | .copyCommandLeave c ch k => Sys2Proof.Machine.execCopyCommandLeave c ch k s
  | .surveyCommandRun c => Sys2Proof.Machine.execSurveyCommandRun c s
  | .qmergeatOwnerApply id => Sys2Proof.Machine.execQmergeatOwnerApply id s
  | .qmergeatAck id => Sys2Proof.Machine.execQmergeatAck id s
  | .tapRowInsert c => Sys2Proof.Machine.execTapRowInsert c s
  | .arrayInstructionStart c => Sys2Proof.Machine.execArrayInstructionStart c s
  | .arrayPassInterrupt c => Sys2Proof.Machine.execArrayPassInterrupt c s
  | .arrayInstructionComplete c => Sys2Proof.Machine.execArrayInstructionComplete c s
  | .arrayRelease c => Sys2Proof.Machine.execArrayRelease c s
  | .streamRowCredit c k => Sys2Proof.Machine.execStreamRowCredit c k s
  | .stateCommandApply d => Sys2Proof.Machine.execStateCommandApply d s
  | .stWatchArm m d v => Sys2Proof.Machine.execStWatchArm m d v s
  | .stWatchDisarm m d v => Sys2Proof.Machine.execStWatchDisarm m d v s
  | .indexElementIssue c k => Sys2Proof.Machine.execIndexElementIssue c k s
  | .indexElementArrival c k e => Sys2Proof.Machine.execIndexElementArrival c k e s
  | .elementPark c k e => Sys2Proof.Machine.execElementPark c k e s
  | .bitmapTestAndSet c k e => Sys2Proof.Machine.execBitmapTestAndSet c k e s
  | .contributionSend d k => Sys2Proof.Machine.execContributionSend d k s
  | .slotContributionArrival id => Sys2Proof.Machine.execSlotContributionArrival id s
  | .contributionRefusedResend id => Sys2Proof.Machine.execContributionRefusedResend id s
  | .slotTimeout ix => Sys2Proof.Machine.execSlotTimeout ix s
  | .lateWindowEnd ix => Sys2Proof.Machine.execLateWindowEnd ix s
  | .resultDelivery id => Sys2Proof.Machine.execResultDelivery id s
  | .collectiveComplete d k => Sys2Proof.Machine.execCollectiveComplete d k s
  | .queueMessageArrival id => Sys2Proof.Machine.execQueueMessageArrival id s
  | .queueMessageResend id => Sys2Proof.Machine.execQueueMessageResend id s
  | .cgGroupCreate m d v => Sys2Proof.Machine.execCgGroupCreate m d v s
  | .cgGroupDelete m d v => Sys2Proof.Machine.execCgGroupDelete m d v s
  | .portLinkDown d k => Sys2Proof.Machine.execPortLinkDown d k s
  | .portLinkUp d k => Sys2Proof.Machine.execPortLinkUp d k s
  | .bar2Access pk fn x wr n v => Sys2Proof.Machine.execBar2Access pk fn x wr n v s
  | .bar4Access pk port x wr n v => Sys2Proof.Machine.execBar4Access pk port x wr n v s
  | .registerWrite m d off v => Sys2Proof.Machine.execRegisterWrite m d off v s
  | .registerRead m d off => Sys2Proof.Machine.execRegisterRead m d off s
  | .hostRunRequest m c v => Sys2Proof.Machine.execHostRunRequest m c v s
  | .eventSetWrite m c v => Sys2Proof.Machine.execEventSetWrite m c v s
  | .eventClrWrite m c v => Sys2Proof.Machine.execEventClrWrite m c v s
  | .pageInRefuse m d v => Sys2Proof.Machine.execPageInRefuse m d v s
  | .hrCfg1Write m d v => Sys2Proof.Machine.execHrCfg1Write m d v s
  | .hrHeadWrite m d v => Sys2Proof.Machine.execHrHeadWrite m d v s
  | .ringEntryWrite pk r => Sys2Proof.Machine.execRingEntryWrite pk r s
  | .ringCoalesceTimeout pk r => Sys2Proof.Machine.execRingCoalesceTimeout pk r s
  | .spadHashApply c => Sys2Proof.Machine.execSpadHashApply c s
  | .eccCorrected d src a => Sys2Proof.Machine.execEccCorrected d src a s
  | .uncorrectableError d src a => Sys2Proof.Machine.execUncorrectableError d src a s
  | .idleEntry d => Sys2Proof.Machine.execIdleEntry d s
  | .idleWake d => Sys2Proof.Machine.execIdleWake d s
  | .droopStretch c => Sys2Proof.Machine.execDroopStretch c s
  | .droopRelease c => Sys2Proof.Machine.execDroopRelease c s
  | .coldReset pk => Sys2Proof.Machine.execColdReset pk s
  | .stageMeasurement d ix digest => Sys2Proof.Machine.execStageMeasurement d ix digest s
  | .attestationRequest m d nonce => Sys2Proof.Machine.execAttestationRequest m d nonce s
  | .mcPowerOn pk => Sys2Proof.Machine.execMcPowerOn pk s
  | .mcPowerOff pk => Sys2Proof.Machine.execMcPowerOff pk s
  | .mcColdReset pk => Sys2Proof.Machine.execMcColdReset pk s
  | .mcReadErrors pk => Sys2Proof.Machine.execMcReadErrors pk s
  | .mcReadSensors pk => Sys2Proof.Machine.execMcReadSensors pk s
  | .mcAttestation d nonce => Sys2Proof.Machine.execMcAttestation d nonce s
  | .mcFirmwareUpdate pk img => Sys2Proof.Machine.execMcFirmwareUpdate pk img s
  | .mcSetPackageNumber pk n => Sys2Proof.Machine.execMcSetPackageNumber pk n s
  | .referenceTick => Sys2Proof.Machine.execReferenceTick s
  | .indexCommandApply c k => Sys2Proof.Machine.execIndexCommandApply c k s
  | .testAndSetAnswer c k e => Sys2Proof.Machine.execTestAndSetAnswer c k e s
  | .transferUnitCredit d k => Sys2Proof.Machine.execTransferUnitCredit d k s
  | .collectiveCommandStart d => Sys2Proof.Machine.execCollectiveCommandStart d s
  | .leaseRenewalComplete d u => Sys2Proof.Machine.execLeaseRenewalComplete d u s
  | .gazetteerEntryReplacement d p => Sys2Proof.Machine.execGazetteerEntryReplacement d p s
  | .flitReceiveError d k => Sys2Proof.Machine.execFlitReceiveError d k s

end Sys2Proof.Machine
end

