-- ==== Sys2Proof/Machine/Sched.lean ====
section
/-! DEFINITION. The order of events while the agenda is empty: the model's own (log 3). The first event that changes the state occurs; else
a context issues, as the issue selector picks; else a reference tick passes. A tick also passes after ten issues. -/

namespace Sys2Proof.Machine

/-- A possible step. -/
abbrev Try := State → Host.Outcome State Fault Refusal

/-- The state an event gives when it changes something. -/
def changes (s : State) (f : Try) : Option State :=
  match f s with
  | .next t => if t = s then none else some t
  | _ => none

/-- The numbers a map lists. -/
def listed {α : Type} (m : Map α) : List Nat := m.map (fun q => q.1)

/-- What may happen to a request (R187 to R191, R363 to R371). -/
def msgTries (id : Nat) : List Try :=
  [execHomeOwnerQuery id, execHomeOwnerAnswer id, execReadRequestServe id, execCausalWriteApply id, execAtomicUpdateServe id, execProbeRequestServe id,
   execSignpostRelay id, execRedirect id, execNotHere id, execLoadAnswer id, execStoreRejection id, execWriteAcknowledgement id, execProbeAnswer id,
   execTargetUnreachable id, execWriteResendTimeout id]

/-- What may happen to a record (R116 to R142). -/
def taskTries (d u : Nat) (t : Task) : List Try :=
  (if t.stop.isSome || t.st = 5 then [execRecordWriteBack d u] else []) ++
  (if t.st = 3 then (t.leases.filter (fun l => l.stage == 0)).map (fun l => execLeaseRequest d u l.page) ++ [execResidencyRefused d u, execTaskLaunch d u] else []) ++
  (if t.renews.isEmpty then [] else (t.newLeases.filter (fun l => l.stage == 0)).map (fun l => execLeaseRequest d u l.page) ++
    [execLeaseRenewalComplete d u]) ++
  (if t.st = 4 && t.kind != 0 && t.stop.isNone then
    [execJoinNodeEnd d u, execNotifyNodeRun d u, execConditionalNodeRun d u, execCopyNodeRun d u, execCollectiveNodeRun d u] else []) ++
  (if t.st = 1 || t.st = 5 then [execTaskPlacement d u] ++ (if t.passed.isSome then [execPassedOverReservation d u] else []) else []) ++
  (if t.preemptible && t.ctx.isSome then [execQuantumExpiry d u] else [])

/-- What may happen at Compass of a die. -/
def compassTries (d : Nat) (k : Compass) : List Try :=
  k.releases.map (fun r => execLeaseRelease d r.1 r.2.1) ++ k.spawns.map (fun a => execSpawnAnswer a.g) ++
    (k.tasks.map (fun q => taskTries d q.1 q.2)).flatten ++
    (if k.graphs.any (fun q => !q.2.queue.isEmpty || !q.2.blocked.isEmpty) then [execOverflowQueueRefill d] else [])

/-- What may happen at the home agent of a die. -/
def homeTries (d : Nat) (k : Die) : List Try :=
  (if k.haPend.isSome then [execHomeRecordCreate d] else []) ++
    (listed k.gaz).map (execGazetteerEntryExpiry d) ++
    (k.pages.map (fun q => q.2.lineage.map (fun l => execLineageFrontierReport d q.1 l.die))).flatten ++
    ((listed k.signs).map (fun p => [execSignpostRetirement d p, execLineageDrop d p, execSignpostRemove d p])).flatten

/-- What may happen at the engines of a die and in its collectives. -/
def dieTries (d : Nat) (k : Die) : List Try :=
  (if k.store.queue.isEmpty then [] else [execStateCommandApply d]) ++
    (if k.coll.queue.isEmpty then [] else [execCollectiveCommandStart d]) ++
    ((listed k.coll.queue).map (fun q => [execContributionSend d q, execTransferUnitCredit d q, execCollectiveComplete d q])).flatten ++
    (if k.copier.cmds.isEmpty then [] else [execCopyCommandStart (64 * d) 2]) ++
    ((listed k.copier.cmds).map (fun q => [execCopyUnitCredit (64 * d) 2 q, execCopyFault (64 * d) 2 q, execCopyCommandLeave (64 * d) 2 q])).flatten

/-- What may happen to the commands of a copy channel (R213). -/
def channelTries (c ch : Nat) (x : Channel) : List Try :=
  if x.cmds.isEmpty then []
  else execCopyCommandStart c ch :: ((listed x.cmds).map (fun q => [execCopyUnitCredit c ch q, execCopyFault c ch q, execCopyCommandLeave c ch q])).flatten

/-- What may happen at a core. -/
def coreTries (c : Nat) (k : Core) : List Try :=
  channelTries c 0 k.copy0 ++ channelTries c 1 k.copy1 ++
    (if k.tapRows.isEmpty then [] else [execTapRowInsert c]) ++
    (if k.survey.isEmpty then [] else [execSurveyCommandRun c]) ++
    ((listed k.survey).map (fun q => [execQmergeatOwnerApply q, execQmergeatAck q])).flatten ++
    (if k.array.queue.isEmpty then [] else [execArrayInstructionStart c, execArrayInstructionComplete c, execArrayPassInterrupt c]) ++
    (if k.array.rel then [execArrayRelease c] else []) ++
    (listed k.streams).map (execStreamRowCredit c) ++
    ((k.index.queue.map (fun q => [execIndexElementIssue c q.1] ++
      ((listed q.2.els).map (fun e => [execIndexElementArrival c q.1 e, execElementPark c q.1 e, execBitmapTestAndSet c q.1 e, execTestAndSetAnswer c q.1 e])).flatten ++
      [execIndexCommandApply c q.1]))).flatten ++
    (if k.hashPend.isSome then [execSpadHashApply c] else []) ++
    (if 4096 ≤ k.sel.count then [execFairnessBound c] else [])

/-- What may happen to a context apart from its bundles. -/
def ctxTries (g : Nat) (c : Ctx) : List Try :=
  (if c.wait.isSome then [execWaitComplete g] else []) ++
    (if c.preempt.isSome && c.life == .active then [execPreemptionTakeEffect g] else []) ++
    (if c.life == .saving then [execSaveComplete g] else []) ++
    (upFrom 0 c.deps.length).map (execDependencyEntryAgeProbe g)

/-- What may happen at a package (R443 to R446). -/
def pkgTries (k : Nat) (p : Pkg) : List Try :=
  p.waiting.map (fun e => execRingEntryWrite k e.ring) ++ (p.rings.filter (fun r => r.2.pending != 0)).map (fun r => execRingCoalesceTimeout k r.1)

/-- What may happen to migrations, reduction slots and messages of the fabric. -/
def fabricTries (s : State) : List Try :=
  ((listed s.migs).map (fun k => [execMigrationRequest k, execMigrationComplete k, execMigrationCutover k, execFreezeTimeout k, execMigrationFreeze k, execMigrationCopyRound k])).flatten ++
    (listed s.resolutions).map execWriteResolution ++
    ((listed s.colMsgs).map (fun q => [execSlotContributionArrival q, execResultDelivery q, execContributionRefusedResend q])).flatten ++
    ((listed s.slots).map (fun q => [execSlotTimeout q, execLateWindowEnd q])).flatten ++
    ((listed s.qMsgs).map (fun q => [execQueueMessageArrival q, execQueueMessageResend q])).flatten

/-- Every step that may happen apart from bundles and ticks, in the model's order. -/
def eventTries (s : State) : List Try :=
  (s.ctxs.map (fun q => ctxTries q.1 q.2)).flatten ++ ((listed s.net).map msgTries).flatten ++
    (s.cores.map (fun q => coreTries q.1 q.2)).flatten ++ (s.dies.map (fun q => dieTries q.1 q.2)).flatten ++
    (s.dies.map (fun q => compassTries q.1 q.2.compass)).flatten ++ (s.dies.map (fun q => homeTries q.1 q.2)).flatten ++
    fabricTries s ++ (s.pkgs.map (fun q => pkgTries q.1 q.2)).flatten

/-- The cores with a context that could issue, those after the core that issued last first. -/
def State.busyCores (s : State) : List Nat :=
  let cs := (s.ctxs.filter (fun q => q.2.issuable)).map (fun q => coreOfCtx q.1)
  let one := cs.foldl (fun m c => insertNat c m) []
  one.filter (fun c => decide (coreOfCtx s.cur < c)) ++ one.filter (fun c => decide (c ≤ coreOfCtx s.cur))

/-- What the contexts of a core do next: a turn that ends, a wait that sees something, or a stall that sends probes; else the selected bundle
(R128). -/
def State.coreNext (s : State) (c : Nat) : Option State :=
  if ((s.noteStall c).core c).sel != (s.core c).sel then some (s.noteStall c)
  else
  let outs := ((s.turns c).filter (fun g => (s.ctx g).issuable)).map (fun g => (g, s.considerBundle g))
  match outs.find? (fun p => p.2.cyc == s.cyc && p.2 != s) with
  | some p => some p.2
  | none =>
    let rs := outs.filter (fun p => p.2.cyc != s.cyc)
    let top := (rs.map (fun p => s.prioOf p.1)).foldl Nat.max 0
    (rs.find? (fun p => s.prioOf p.1 == top)).map (fun p => p.2)

/-- The next step with an empty agenda. -/
def State.quiet (s : State) : State :=
  match (eventTries s).findSome? (changes s) with
  | some t => t
  | none =>
    if 10 ≤ s.cyc then stateOr (execReferenceTick s) s
    else match s.busyCores.findSome? s.coreNext with
      | some t => t
      | none => stateOr (execReferenceTick s) s

end Sys2Proof.Machine
end

