-- ==== Sys2Proof/Machine/Place.lean ====
section
/-! DEFINITION. A machine on which a given bundle is the next one to issue (log 13): a running system task with one page of code. -/

namespace Sys2Proof.Machine

/-- The page table of the placed page: three levels of pointers and a leaf, in the first frames of die 0 (R355). -/
def placedTables : List (Nat × Nat) :=
  [(0x1000, 2 ^ 63 + 0x2000), (0x2000, 2 ^ 63 + 0x3000), (0x3000, 2 ^ 63 + 0x4000), (0x4000, 2 ^ 63 + 7 * 2 ^ 60 + 0x10000)]

/-- The VA of the placed bundle. -/
def placedPC : Nat := 0x100

/-- The task of the placed bundle: kind 0, sys, its footprint, its lease, four scratchpad units. -/
def placedTask : Task :=
  { ia := 0xF000, graph := 0, words := [w64 placedPC, w64 (2 ^ 33 + 4 * 2 ^ 26 + 2 ^ 23), 0, 0, 0, 0, 0, 0], st := 4, subm := some 0, order := 0, spawner := none,
    slot := 1, suspended := false, core := some 0, ctx := some 0, units := [0, 1, 2, 3], tiles := [0], card := [⟨3, 0, 65536⟩], leases := [⟨0, true, 2⟩],
    renews := [], newCard := [], newLeases := [], bound := 0, passed := none, reserved := none, restore := false, drained := false, stop := none,
    closing := false, faults := [], loadFaults := false, deps := [], sysOk := true, quantum := 0, l5 := ⟨0, false⟩, kept := [], nest := [], number := none, lists := [], lost := 0, spoiled := [] }

/-- The graph of the placed task. -/
def placedGraph : Graph :=
  { list := 0, wset := 0, pkr0 := BitVec.allOnes 64, ovq := 0, bcount := 0, ring := 0, qlog := 16, ovlog := 4, btab := 0, bsnap := 0, stat := 0, queue := [],
    tail := 0, blocked := [], frec := 0, fcode := 0, disabled := false }

/-- The context of the placed task: window 0 maps the whole VA space one to one. -/
def placedCtx : Ctx :=
  { Ctx.init with
    pc := w64 placedPC, wnd := [(0, w64 (2 ^ 63 + 36 * 2 ^ 57)), (1, 0)], pkr := BitVec.allOnes 64, life := .active, task := some 0 }

/-- Die 0 with its home agent on, the page at IA 0 homed and owned there and known to its gazetteer, and the placed task. -/
def placedDie (k : Die) (now : Nat) : Die :=
  { k with
    haCtl := w64 (2 ^ 63), haRoot := 0x1000
    htab := []
    homeRecs := put 0 ⟨0, false, none, false, none⟩ k.homeRecs
    pages := put 0 ⟨false, 1, []⟩ k.pages
    gaz := put 0 ⟨false, 0, now⟩ k.gaz
    compass := { k.compass with graphs := put 0 placedGraph k.compass.graphs, tasks := put 0 placedTask k.compass.tasks, nextUid := 1, nextGraph := 1 } }

/-- Context 0 of core 0 of die 0 is about to issue the bundle. -/
def State.placeBundle (s : State) (bs : List Byte) : State :=
  let s := (placedTables.foldl (fun s p => s.writePA 0 p.1 (bytesOf 8 p.2)) s).writePA 0 (0x10000 + placedPC) bs
  ((s.modDie 0 (fun k => placedDie k s.tick)).setCtx 0 placedCtx)

end Sys2Proof.Machine
end

