-- ==== Sys2Proof/Machine/Step.lean ====
section
/-! DEFINITION. The step: the next event of the agenda, or the model's own order when the agenda is empty (log 3). -/

namespace Sys2Proof.Machine

/-- One step. An instruction of a slot is no event: it takes part in a bundle only, and the agenda drops it. -/
def step (s : State) : Host.Outcome State Fault Refusal :=
  match s.agenda with
  | [] => .next s.quiet
  | i :: rest => if i.space?.isSome then .next { s with agenda := rest } else exec i { s with agenda := rest }

/-- The word stored in a slot of the bundle that the next step runs, the other slots holding nop (log 11, log 13). -/
def State.withFetchWord (s : State) (nbits w : Nat) : State :=
  let word := BitVec.ofNat 32 (w % 2 ^ nbits)
  { (s.placeBundle (bundleBytes (tableSlot word) word)) with agenda := [] }

end Sys2Proof.Machine
end

