-- ==== Sys2Proof/Laws/Operands.lean ====
section
/-! SUPPORT. What the operand forms do when their operands are there: guards (R49), destinations (R145), sources (R50). -/

namespace Sys2Proof.Machine

/-- A slot whose guard is true goes on (R49). -/
theorem State.guarded_live {s : State} {g : BitVec 4} (h : s.pre.guardValue g = some true) (k : State) : s.guarded g k = k := by
  simp [State.guarded, h]

/-- A slot whose guard is false has no effect (R49). -/
theorem State.guarded_dead {s : State} {g : BitVec 4} (h : s.pre.guardValue g = some false) (k : State) : s.guarded g k = s := by
  simp [State.guarded, h]

/-- No write to a destination is pending: the slot goes on (R145). -/
theorem State.withDests_free {s : State} {ns : List Nat} (h : ns.any (fun n => n != 85 && s.pre.pending n) = false) (k : State) :
    s.withDests ns k = k := by
  unfold State.withDests
  rw [if_neg]
  simp only [h, Bool.false_eq_true, not_false_iff]

/-- A pending write to a destination stalls the slot (R145). -/
theorem State.withDests_busy {s : State} {ns : List Nat} (h : ns.any (fun n => n != 85 && s.pre.pending n) = true) (k : State) :
    s.withDests ns k = s.stall := by
  unfold State.withDests
  rw [if_pos h]

/-- A source that can be read gives its value (R50). -/
theorem State.withSource_ok {s : State} {x : BitVec 7} {v : W64} (h : s.source x = .ok v) (k : W64 → State) : s.withSource x k = k v := by
  simp [State.withSource, h]

/-- A source that is not there yet stalls the slot (R20, R42). -/
theorem State.withSource_wait {s : State} {x : BitVec 7} (h : s.source x = .wait) (k : W64 → State) : s.withSource x k = s.stall := by
  simp [State.withSource, h]

theorem State.with2_ok {s : State} {a b : BitVec 7} {x y : W64} (ha : s.source a = .ok x) (hb : s.source b = .ok y)
    (k : W64 → W64 → State) : s.with2 a b k = k x y := by
  simp [State.with2, State.withSource, ha, hb]

theorem State.with3_ok {s : State} {a b c : BitVec 7} {x y z : W64} (ha : s.source a = .ok x) (hb : s.source b = .ok y) (hc : s.source c = .ok z)
    (k : W64 → W64 → W64 → State) : s.with3 a b c k = k x y z := by
  simp [State.with3, State.withSource, ha, hb, hc]

/-- A guarded slot with a free scalar destination goes on (R49, R145). -/
theorem State.toReg_live {s : State} {g : BitVec 4} {d : BitVec 7} (h : s.pre.guardValue g = some true)
    (hf : [d.toNat].any (fun n => n != 85 && s.pre.pending n) = false) (k : State) : s.toReg g d k = k := by
  rw [State.toReg, State.guarded_live h, State.withDests_free hf]

theorem State.toPred_live {s : State} {g : BitVec 4} {d : BitVec 3} (h : s.pre.guardValue g = some true)
    (hf : [128 + d.toNat].any (fun n => n != 85 && s.pre.pending n) = false) (k : State) : s.toPred g d k = k := by
  rw [State.toPred, State.guarded_live h, State.withDests_free hf]

theorem State.waitWhile_false {s : State} {c : Bool} (h : c = false) (k : State) : s.waitWhile c k = k := by simp [State.waitWhile, h]
theorem State.waitWhile_true {s : State} {c : Bool} (h : c = true) (k : State) : s.waitWhile c k = s.hold := by simp [State.waitWhile, h]

/-- A group of registers that can be read gives its values, lowest first (R51). -/
theorem State.withGroup_ok {s : State} {d : BitVec 7} {n : Nat} {vs : List W64}
    (h : (groupRegs d n).map (fun r => s.pre.source (BitVec.ofNat 7 r)) = vs.map Rd.ok) (k : List W64 → State) : s.withGroup d n k = k vs := by
  unfold State.withGroup
  simp only [h]
  have h1 : (vs.map Rd.ok).any (fun r => r == Rd.wait) = false := by
    rw [List.any_map, List.any_eq_false]
    intro v _
    simp
  simp only [h1, Bool.false_eq_true, if_false]
  split
  · rename_i c i e
    have hm := List.mem_of_find?_eq_some e
    rw [List.mem_map] at hm
    obtain ⟨v, -, hv⟩ := hm
    cases hv
  · simp [List.map_map, Function.comp_def]

/-- A row that nothing holds gives its value (R19, R237, R240). -/
theorem State.withRow_ok {s : State} {k : Nat} {reads : Bool} (hd : s.rowFaulted (s.vrow k) = false) (hp : s.rowWaits (s.vrow k) = false)
    (hr : reads = false ∨ find? (s.vrow k) s.preMarks = none) (f : Row → State) :
    s.withRow k reads f = f (getD (s.vrow k) 0 s.preRows) := by
  unfold State.withRow
  simp only [hd, hp]
  rcases hr with h | h <;> simp [h]

/-- A slot all of whose rows and sources are there goes on (R42, R47). -/
theorem State.settled_ok {s : State} {rows dests : List Nat} {xs : List (BitVec 7)}
    (h1 : ∀ r ∈ rows, s.rowFaulted (s.vrow r) = false ∧ s.rowWaits (s.vrow r) = false) (h2 : ∀ r ∈ dests, s.destWaits (s.vrow r) = false)
    (h3 : ∀ x ∈ xs, s.source x ≠ .wait) (k : State) : s.settled rows dests xs k = k := by
  unfold State.settled
  rw [if_neg, if_neg]
  · simp only [Bool.or_eq_true, List.any_eq_true, not_or, not_exists, not_and, beq_iff_eq]
    refine ⟨⟨fun r hr => ?_, fun r hr => ?_⟩, fun x hx => h3 x hx⟩
    · simp [(h1 r hr).2]
    · simp [h2 r hr]
  · simp only [List.any_eq_true, not_exists, not_and]
    intro r hr
    simp [(h1 r hr).1]

/-- A destination row that nothing holds (R145, R237). -/
theorem State.withRowDest_ok {s : State} {k : Nat} (h : s.destWaits (s.vrow k) = false)
    (f : Nat → State) : s.withRowDest k f = f (s.vrow k) := by
  unfold State.withRowDest
  simp only [h]
  rfl

end Sys2Proof.Machine
end

