-- ==== Sys2Proof/Laws/State.lean ====
section
/-! SUPPORT. The maps of the state, and one lemma for each field and each update of State: what an update leaves of the field. -/

namespace Sys2Proof.Machine

-- Maps ------------------------------------------------------------------------------------------------------------------------

@[simp] theorem find?_nil {α : Type} (k : Nat) : find? k ([] : Map α) = none := rfl

@[simp] theorem find?_put_self {α : Type} (k : Nat) (v : α) (m : Map α) : find? k (put k v m) = some v := by
  induction m with
  | nil => simp [put, find?]
  | cons p m ih =>
    obtain ⟨j, a⟩ := p
    simp only [put]
    split
    · simp [find?]
    · rename_i h
      split
      · simp [find?]
      · simp [find?, h, ih]

@[simp] theorem find?_put_other {α : Type} {j k : Nat} (h : j ≠ k) (v : α) (m : Map α) : find? j (put k v m) = find? j m := by
  induction m with
  | nil => simp [put, find?, Ne.symm h]
  | cons p m ih =>
    obtain ⟨i, a⟩ := p
    simp only [put]
    split
    · rename_i e
      subst e
      simp [find?, Ne.symm h]
    · split
      · simp [find?, Ne.symm h]
      · simp only [find?]
        split
        · rfl
        · exact ih

theorem find?_del_other {α : Type} {j k : Nat} (h : j ≠ k) (m : Map α) : find? j (del k m) = find? j m := by
  induction m with
  | nil => rfl
  | cons p m ih =>
    obtain ⟨i, a⟩ := p
    simp only [del]
    split
    · rename_i e
      subst e
      simp [find?, Ne.symm h]
    · simp only [find?]
      split
      · rfl
      · exact ih

@[simp] theorem getD_put_self {α : Type} (k : Nat) (d v : α) (m : Map α) : getD k d (put k v m) = v := by simp [getD]
@[simp] theorem getD_put_other {α : Type} {j k : Nat} (h : j ≠ k) (d v : α) (m : Map α) : getD j d (put k v m) = getD j d m := by
  simp [getD, find?_put_other h]

-- Accessors -------------------------------------------------------------------------------------------------------------------

@[simp] theorem State.ctx_setCtx (s : State) (g : Nat) (c : Ctx) : (s.setCtx g c).ctx g = c := by simp [State.ctx, State.setCtx]
theorem State.ctx_setCtx_other (s : State) {g h : Nat} (e : h ≠ g) (c : Ctx) : (s.setCtx g c).ctx h = s.ctx h := by
  simp [State.ctx, State.setCtx, getD_put_other e]
@[simp] theorem State.core_setCore (s : State) (c : Nat) (k : Core) : (s.setCore c k).core c = k := by simp [State.core, State.setCore]
theorem State.core_setCore_other (s : State) {c h : Nat} (e : h ≠ c) (k : Core) : (s.setCore c k).core h = s.core h := by
  simp [State.core, State.setCore, getD_put_other e]
@[simp] theorem State.die_setDie (s : State) (d : Nat) (k : Die) : (s.setDie d k).die d = k := by simp [State.die, State.setDie]
theorem State.die_setDie_other (s : State) {d h : Nat} (e : h ≠ d) (k : Die) : (s.setDie d k).die h = s.die h := by
  simp [State.die, State.setDie, getD_put_other e]
@[simp] theorem State.pkg_setPkg (s : State) (p : Nat) (k : Pkg) : (s.setPkg p k).pkg p = k := by simp [State.pkg, State.setPkg]
@[simp] theorem State.pkg_modPkg (s : State) (p : Nat) (f : Pkg → Pkg) : (s.modPkg p f).pkg p = f (s.pkg p) := State.pkg_setPkg s p _
@[simp] theorem State.ctx_modCtx (s : State) (g : Nat) (f : Ctx → Ctx) : (s.modCtx g f).ctx g = f (s.ctx g) := State.ctx_setCtx s g _
theorem State.ctx_modCtx_other (s : State) {g h : Nat} (e : h ≠ g) (f : Ctx → Ctx) : (s.modCtx g f).ctx h = s.ctx h := State.ctx_setCtx_other s e _
@[simp] theorem State.core_modCore (s : State) (c : Nat) (f : Core → Core) : (s.modCore c f).core c = f (s.core c) := State.core_setCore s c _
@[simp] theorem State.die_modDie (s : State) (d : Nat) (f : Die → Die) : (s.modDie d f).die d = f (s.die d) := State.die_setDie s d _
@[simp] theorem State.me_modMe (s : State) (f : Ctx → Ctx) : (s.modMe f).me = f s.me := State.ctx_modCtx s s.cur f

-- setCtx --------------------------------------------------------------------------------------------------------------------

@[simp] theorem State.tick_setCtx (s : State) (g : Nat) (c : Ctx) : (s.setCtx g c).tick = s.tick := rfl
@[simp] theorem State.mem_setCtx (s : State) (g : Nat) (c : Ctx) : (s.setCtx g c).mem = s.mem := rfl
@[simp] theorem State.stamps_setCtx (s : State) (g : Nat) (c : Ctx) : (s.setCtx g c).stamps = s.stamps := rfl
@[simp] theorem State.applied_setCtx (s : State) (g : Nat) (c : Ctx) : (s.setCtx g c).applied = s.applied := rfl
@[simp] theorem State.hist_setCtx (s : State) (g : Nat) (c : Ctx) : (s.setCtx g c).hist = s.hist := rfl
@[simp] theorem State.dies_setCtx (s : State) (g : Nat) (c : Ctx) : (s.setCtx g c).dies = s.dies := rfl
@[simp] theorem State.cores_setCtx (s : State) (g : Nat) (c : Ctx) : (s.setCtx g c).cores = s.cores := rfl
@[simp] theorem State.pkgs_setCtx (s : State) (g : Nat) (c : Ctx) : (s.setCtx g c).pkgs = s.pkgs := rfl
@[simp] theorem State.net_setCtx (s : State) (g : Nat) (c : Ctx) : (s.setCtx g c).net = s.net := rfl
@[simp] theorem State.resolutions_setCtx (s : State) (g : Nat) (c : Ctx) : (s.setCtx g c).resolutions = s.resolutions := rfl
@[simp] theorem State.migs_setCtx (s : State) (g : Nat) (c : Ctx) : (s.setCtx g c).migs = s.migs := rfl
@[simp] theorem State.slots_setCtx (s : State) (g : Nat) (c : Ctx) : (s.setCtx g c).slots = s.slots := rfl
@[simp] theorem State.marks_setCtx (s : State) (g : Nat) (c : Ctx) : (s.setCtx g c).marks = s.marks := rfl
@[simp] theorem State.colMsgs_setCtx (s : State) (g : Nat) (c : Ctx) : (s.setCtx g c).colMsgs = s.colMsgs := rfl
@[simp] theorem State.qMsgs_setCtx (s : State) (g : Nat) (c : Ctx) : (s.setCtx g c).qMsgs = s.qMsgs := rfl
@[simp] theorem State.tiers_setCtx (s : State) (g : Nat) (c : Ctx) : (s.setCtx g c).tiers = s.tiers := rfl
@[simp] theorem State.nextId_setCtx (s : State) (g : Nat) (c : Ctx) : (s.setCtx g c).nextId = s.nextId := rfl
@[simp] theorem State.agenda_setCtx (s : State) (g : Nat) (c : Ctx) : (s.setCtx g c).agenda = s.agenda := rfl
@[simp] theorem State.cur_setCtx (s : State) (g : Nat) (c : Ctx) : (s.setCtx g c).cur = s.cur := rfl
@[simp] theorem State.bun_setCtx (s : State) (g : Nat) (c : Ctx) : (s.setCtx g c).bun = s.bun := rfl
@[simp] theorem State.free_setCtx (s : State) (g : Nat) (c : Ctx) : (s.setCtx g c).free = s.free := rfl
@[simp] theorem State.cyc_setCtx (s : State) (g : Nat) (c : Ctx) : (s.setCtx g c).cyc = s.cyc := rfl
@[simp] theorem State.core_setCtx (s : State) (g : Nat) (c : Ctx) (n : Nat) : (s.setCtx g c).core n = s.core n := rfl
@[simp] theorem State.die_setCtx (s : State) (g : Nat) (c : Ctx) (n : Nat) : (s.setCtx g c).die n = s.die n := rfl
@[simp] theorem State.pkg_setCtx (s : State) (g : Nat) (c : Ctx) (n : Nat) : (s.setCtx g c).pkg n = s.pkg n := rfl

-- setCore -------------------------------------------------------------------------------------------------------------------

@[simp] theorem State.tick_setCore (s : State) (c : Nat) (k : Core) : (s.setCore c k).tick = s.tick := rfl
@[simp] theorem State.mem_setCore (s : State) (c : Nat) (k : Core) : (s.setCore c k).mem = s.mem := rfl
@[simp] theorem State.stamps_setCore (s : State) (c : Nat) (k : Core) : (s.setCore c k).stamps = s.stamps := rfl
@[simp] theorem State.applied_setCore (s : State) (c : Nat) (k : Core) : (s.setCore c k).applied = s.applied := rfl
@[simp] theorem State.hist_setCore (s : State) (c : Nat) (k : Core) : (s.setCore c k).hist = s.hist := rfl
@[simp] theorem State.dies_setCore (s : State) (c : Nat) (k : Core) : (s.setCore c k).dies = s.dies := rfl
@[simp] theorem State.ctxs_setCore (s : State) (c : Nat) (k : Core) : (s.setCore c k).ctxs = s.ctxs := rfl
@[simp] theorem State.pkgs_setCore (s : State) (c : Nat) (k : Core) : (s.setCore c k).pkgs = s.pkgs := rfl
@[simp] theorem State.net_setCore (s : State) (c : Nat) (k : Core) : (s.setCore c k).net = s.net := rfl
@[simp] theorem State.resolutions_setCore (s : State) (c : Nat) (k : Core) : (s.setCore c k).resolutions = s.resolutions := rfl
@[simp] theorem State.migs_setCore (s : State) (c : Nat) (k : Core) : (s.setCore c k).migs = s.migs := rfl
@[simp] theorem State.slots_setCore (s : State) (c : Nat) (k : Core) : (s.setCore c k).slots = s.slots := rfl
@[simp] theorem State.marks_setCore (s : State) (c : Nat) (k : Core) : (s.setCore c k).marks = s.marks := rfl
@[simp] theorem State.colMsgs_setCore (s : State) (c : Nat) (k : Core) : (s.setCore c k).colMsgs = s.colMsgs := rfl
@[simp] theorem State.qMsgs_setCore (s : State) (c : Nat) (k : Core) : (s.setCore c k).qMsgs = s.qMsgs := rfl
@[simp] theorem State.tiers_setCore (s : State) (c : Nat) (k : Core) : (s.setCore c k).tiers = s.tiers := rfl
@[simp] theorem State.nextId_setCore (s : State) (c : Nat) (k : Core) : (s.setCore c k).nextId = s.nextId := rfl
@[simp] theorem State.agenda_setCore (s : State) (c : Nat) (k : Core) : (s.setCore c k).agenda = s.agenda := rfl
@[simp] theorem State.cur_setCore (s : State) (c : Nat) (k : Core) : (s.setCore c k).cur = s.cur := rfl
@[simp] theorem State.bun_setCore (s : State) (c : Nat) (k : Core) : (s.setCore c k).bun = s.bun := rfl
@[simp] theorem State.free_setCore (s : State) (c : Nat) (k : Core) : (s.setCore c k).free = s.free := rfl
@[simp] theorem State.cyc_setCore (s : State) (c : Nat) (k : Core) : (s.setCore c k).cyc = s.cyc := rfl
@[simp] theorem State.ctx_setCore (s : State) (c : Nat) (k : Core) (n : Nat) : (s.setCore c k).ctx n = s.ctx n := rfl
@[simp] theorem State.die_setCore (s : State) (c : Nat) (k : Core) (n : Nat) : (s.setCore c k).die n = s.die n := rfl
@[simp] theorem State.pkg_setCore (s : State) (c : Nat) (k : Core) (n : Nat) : (s.setCore c k).pkg n = s.pkg n := rfl

-- setDie --------------------------------------------------------------------------------------------------------------------

@[simp] theorem State.tick_setDie (s : State) (d : Nat) (k : Die) : (s.setDie d k).tick = s.tick := rfl
@[simp] theorem State.mem_setDie (s : State) (d : Nat) (k : Die) : (s.setDie d k).mem = s.mem := rfl
@[simp] theorem State.stamps_setDie (s : State) (d : Nat) (k : Die) : (s.setDie d k).stamps = s.stamps := rfl
@[simp] theorem State.applied_setDie (s : State) (d : Nat) (k : Die) : (s.setDie d k).applied = s.applied := rfl
@[simp] theorem State.hist_setDie (s : State) (d : Nat) (k : Die) : (s.setDie d k).hist = s.hist := rfl
@[simp] theorem State.cores_setDie (s : State) (d : Nat) (k : Die) : (s.setDie d k).cores = s.cores := rfl
@[simp] theorem State.ctxs_setDie (s : State) (d : Nat) (k : Die) : (s.setDie d k).ctxs = s.ctxs := rfl
@[simp] theorem State.pkgs_setDie (s : State) (d : Nat) (k : Die) : (s.setDie d k).pkgs = s.pkgs := rfl
@[simp] theorem State.net_setDie (s : State) (d : Nat) (k : Die) : (s.setDie d k).net = s.net := rfl
@[simp] theorem State.resolutions_setDie (s : State) (d : Nat) (k : Die) : (s.setDie d k).resolutions = s.resolutions := rfl
@[simp] theorem State.migs_setDie (s : State) (d : Nat) (k : Die) : (s.setDie d k).migs = s.migs := rfl
@[simp] theorem State.slots_setDie (s : State) (d : Nat) (k : Die) : (s.setDie d k).slots = s.slots := rfl
@[simp] theorem State.marks_setDie (s : State) (d : Nat) (k : Die) : (s.setDie d k).marks = s.marks := rfl
@[simp] theorem State.colMsgs_setDie (s : State) (d : Nat) (k : Die) : (s.setDie d k).colMsgs = s.colMsgs := rfl
@[simp] theorem State.qMsgs_setDie (s : State) (d : Nat) (k : Die) : (s.setDie d k).qMsgs = s.qMsgs := rfl
@[simp] theorem State.tiers_setDie (s : State) (d : Nat) (k : Die) : (s.setDie d k).tiers = s.tiers := rfl
@[simp] theorem State.nextId_setDie (s : State) (d : Nat) (k : Die) : (s.setDie d k).nextId = s.nextId := rfl
@[simp] theorem State.agenda_setDie (s : State) (d : Nat) (k : Die) : (s.setDie d k).agenda = s.agenda := rfl
@[simp] theorem State.cur_setDie (s : State) (d : Nat) (k : Die) : (s.setDie d k).cur = s.cur := rfl
@[simp] theorem State.bun_setDie (s : State) (d : Nat) (k : Die) : (s.setDie d k).bun = s.bun := rfl
@[simp] theorem State.free_setDie (s : State) (d : Nat) (k : Die) : (s.setDie d k).free = s.free := rfl
@[simp] theorem State.cyc_setDie (s : State) (d : Nat) (k : Die) : (s.setDie d k).cyc = s.cyc := rfl
@[simp] theorem State.ctx_setDie (s : State) (d : Nat) (k : Die) (n : Nat) : (s.setDie d k).ctx n = s.ctx n := rfl
@[simp] theorem State.core_setDie (s : State) (d : Nat) (k : Die) (n : Nat) : (s.setDie d k).core n = s.core n := rfl
@[simp] theorem State.pkg_setDie (s : State) (d : Nat) (k : Die) (n : Nat) : (s.setDie d k).pkg n = s.pkg n := rfl

-- setPkg --------------------------------------------------------------------------------------------------------------------

@[simp] theorem State.tick_setPkg (s : State) (p : Nat) (k : Pkg) : (s.setPkg p k).tick = s.tick := rfl
@[simp] theorem State.mem_setPkg (s : State) (p : Nat) (k : Pkg) : (s.setPkg p k).mem = s.mem := rfl
@[simp] theorem State.stamps_setPkg (s : State) (p : Nat) (k : Pkg) : (s.setPkg p k).stamps = s.stamps := rfl
@[simp] theorem State.applied_setPkg (s : State) (p : Nat) (k : Pkg) : (s.setPkg p k).applied = s.applied := rfl
@[simp] theorem State.hist_setPkg (s : State) (p : Nat) (k : Pkg) : (s.setPkg p k).hist = s.hist := rfl
@[simp] theorem State.dies_setPkg (s : State) (p : Nat) (k : Pkg) : (s.setPkg p k).dies = s.dies := rfl
@[simp] theorem State.cores_setPkg (s : State) (p : Nat) (k : Pkg) : (s.setPkg p k).cores = s.cores := rfl
@[simp] theorem State.ctxs_setPkg (s : State) (p : Nat) (k : Pkg) : (s.setPkg p k).ctxs = s.ctxs := rfl
@[simp] theorem State.net_setPkg (s : State) (p : Nat) (k : Pkg) : (s.setPkg p k).net = s.net := rfl
@[simp] theorem State.resolutions_setPkg (s : State) (p : Nat) (k : Pkg) : (s.setPkg p k).resolutions = s.resolutions := rfl
@[simp] theorem State.migs_setPkg (s : State) (p : Nat) (k : Pkg) : (s.setPkg p k).migs = s.migs := rfl
@[simp] theorem State.slots_setPkg (s : State) (p : Nat) (k : Pkg) : (s.setPkg p k).slots = s.slots := rfl
@[simp] theorem State.marks_setPkg (s : State) (p : Nat) (k : Pkg) : (s.setPkg p k).marks = s.marks := rfl
@[simp] theorem State.colMsgs_setPkg (s : State) (p : Nat) (k : Pkg) : (s.setPkg p k).colMsgs = s.colMsgs := rfl
@[simp] theorem State.qMsgs_setPkg (s : State) (p : Nat) (k : Pkg) : (s.setPkg p k).qMsgs = s.qMsgs := rfl
@[simp] theorem State.tiers_setPkg (s : State) (p : Nat) (k : Pkg) : (s.setPkg p k).tiers = s.tiers := rfl
@[simp] theorem State.nextId_setPkg (s : State) (p : Nat) (k : Pkg) : (s.setPkg p k).nextId = s.nextId := rfl
@[simp] theorem State.agenda_setPkg (s : State) (p : Nat) (k : Pkg) : (s.setPkg p k).agenda = s.agenda := rfl
@[simp] theorem State.cur_setPkg (s : State) (p : Nat) (k : Pkg) : (s.setPkg p k).cur = s.cur := rfl
@[simp] theorem State.bun_setPkg (s : State) (p : Nat) (k : Pkg) : (s.setPkg p k).bun = s.bun := rfl
@[simp] theorem State.free_setPkg (s : State) (p : Nat) (k : Pkg) : (s.setPkg p k).free = s.free := rfl
@[simp] theorem State.cyc_setPkg (s : State) (p : Nat) (k : Pkg) : (s.setPkg p k).cyc = s.cyc := rfl
@[simp] theorem State.ctx_setPkg (s : State) (p : Nat) (k : Pkg) (n : Nat) : (s.setPkg p k).ctx n = s.ctx n := rfl
@[simp] theorem State.core_setPkg (s : State) (p : Nat) (k : Pkg) (n : Nat) : (s.setPkg p k).core n = s.core n := rfl
@[simp] theorem State.die_setPkg (s : State) (p : Nat) (k : Pkg) (n : Nat) : (s.setPkg p k).die n = s.die n := rfl

-- modCtx --------------------------------------------------------------------------------------------------------------------

@[simp] theorem State.tick_modCtx (s : State) (g : Nat) (f : Ctx → Ctx) : (s.modCtx g f).tick = s.tick := rfl
@[simp] theorem State.mem_modCtx (s : State) (g : Nat) (f : Ctx → Ctx) : (s.modCtx g f).mem = s.mem := rfl
@[simp] theorem State.stamps_modCtx (s : State) (g : Nat) (f : Ctx → Ctx) : (s.modCtx g f).stamps = s.stamps := rfl
@[simp] theorem State.applied_modCtx (s : State) (g : Nat) (f : Ctx → Ctx) : (s.modCtx g f).applied = s.applied := rfl
@[simp] theorem State.hist_modCtx (s : State) (g : Nat) (f : Ctx → Ctx) : (s.modCtx g f).hist = s.hist := rfl
@[simp] theorem State.dies_modCtx (s : State) (g : Nat) (f : Ctx → Ctx) : (s.modCtx g f).dies = s.dies := rfl
@[simp] theorem State.cores_modCtx (s : State) (g : Nat) (f : Ctx → Ctx) : (s.modCtx g f).cores = s.cores := rfl
@[simp] theorem State.pkgs_modCtx (s : State) (g : Nat) (f : Ctx → Ctx) : (s.modCtx g f).pkgs = s.pkgs := rfl
@[simp] theorem State.net_modCtx (s : State) (g : Nat) (f : Ctx → Ctx) : (s.modCtx g f).net = s.net := rfl
@[simp] theorem State.resolutions_modCtx (s : State) (g : Nat) (f : Ctx → Ctx) : (s.modCtx g f).resolutions = s.resolutions := rfl
@[simp] theorem State.migs_modCtx (s : State) (g : Nat) (f : Ctx → Ctx) : (s.modCtx g f).migs = s.migs := rfl
@[simp] theorem State.slots_modCtx (s : State) (g : Nat) (f : Ctx → Ctx) : (s.modCtx g f).slots = s.slots := rfl
@[simp] theorem State.marks_modCtx (s : State) (g : Nat) (f : Ctx → Ctx) : (s.modCtx g f).marks = s.marks := rfl
@[simp] theorem State.colMsgs_modCtx (s : State) (g : Nat) (f : Ctx → Ctx) : (s.modCtx g f).colMsgs = s.colMsgs := rfl
@[simp] theorem State.qMsgs_modCtx (s : State) (g : Nat) (f : Ctx → Ctx) : (s.modCtx g f).qMsgs = s.qMsgs := rfl
@[simp] theorem State.tiers_modCtx (s : State) (g : Nat) (f : Ctx → Ctx) : (s.modCtx g f).tiers = s.tiers := rfl
@[simp] theorem State.nextId_modCtx (s : State) (g : Nat) (f : Ctx → Ctx) : (s.modCtx g f).nextId = s.nextId := rfl
@[simp] theorem State.agenda_modCtx (s : State) (g : Nat) (f : Ctx → Ctx) : (s.modCtx g f).agenda = s.agenda := rfl
@[simp] theorem State.cur_modCtx (s : State) (g : Nat) (f : Ctx → Ctx) : (s.modCtx g f).cur = s.cur := rfl
@[simp] theorem State.bun_modCtx (s : State) (g : Nat) (f : Ctx → Ctx) : (s.modCtx g f).bun = s.bun := rfl
@[simp] theorem State.free_modCtx (s : State) (g : Nat) (f : Ctx → Ctx) : (s.modCtx g f).free = s.free := rfl
@[simp] theorem State.cyc_modCtx (s : State) (g : Nat) (f : Ctx → Ctx) : (s.modCtx g f).cyc = s.cyc := rfl
@[simp] theorem State.core_modCtx (s : State) (g : Nat) (f : Ctx → Ctx) (n : Nat) : (s.modCtx g f).core n = s.core n := rfl
@[simp] theorem State.die_modCtx (s : State) (g : Nat) (f : Ctx → Ctx) (n : Nat) : (s.modCtx g f).die n = s.die n := rfl
@[simp] theorem State.pkg_modCtx (s : State) (g : Nat) (f : Ctx → Ctx) (n : Nat) : (s.modCtx g f).pkg n = s.pkg n := rfl

-- modCore -------------------------------------------------------------------------------------------------------------------

@[simp] theorem State.tick_modCore (s : State) (c : Nat) (f : Core → Core) : (s.modCore c f).tick = s.tick := rfl
@[simp] theorem State.mem_modCore (s : State) (c : Nat) (f : Core → Core) : (s.modCore c f).mem = s.mem := rfl
@[simp] theorem State.stamps_modCore (s : State) (c : Nat) (f : Core → Core) : (s.modCore c f).stamps = s.stamps := rfl
@[simp] theorem State.applied_modCore (s : State) (c : Nat) (f : Core → Core) : (s.modCore c f).applied = s.applied := rfl
@[simp] theorem State.hist_modCore (s : State) (c : Nat) (f : Core → Core) : (s.modCore c f).hist = s.hist := rfl
@[simp] theorem State.dies_modCore (s : State) (c : Nat) (f : Core → Core) : (s.modCore c f).dies = s.dies := rfl
@[simp] theorem State.ctxs_modCore (s : State) (c : Nat) (f : Core → Core) : (s.modCore c f).ctxs = s.ctxs := rfl
@[simp] theorem State.pkgs_modCore (s : State) (c : Nat) (f : Core → Core) : (s.modCore c f).pkgs = s.pkgs := rfl
@[simp] theorem State.net_modCore (s : State) (c : Nat) (f : Core → Core) : (s.modCore c f).net = s.net := rfl
@[simp] theorem State.resolutions_modCore (s : State) (c : Nat) (f : Core → Core) : (s.modCore c f).resolutions = s.resolutions := rfl
@[simp] theorem State.migs_modCore (s : State) (c : Nat) (f : Core → Core) : (s.modCore c f).migs = s.migs := rfl
@[simp] theorem State.slots_modCore (s : State) (c : Nat) (f : Core → Core) : (s.modCore c f).slots = s.slots := rfl
@[simp] theorem State.marks_modCore (s : State) (c : Nat) (f : Core → Core) : (s.modCore c f).marks = s.marks := rfl
@[simp] theorem State.colMsgs_modCore (s : State) (c : Nat) (f : Core → Core) : (s.modCore c f).colMsgs = s.colMsgs := rfl
@[simp] theorem State.qMsgs_modCore (s : State) (c : Nat) (f : Core → Core) : (s.modCore c f).qMsgs = s.qMsgs := rfl
@[simp] theorem State.tiers_modCore (s : State) (c : Nat) (f : Core → Core) : (s.modCore c f).tiers = s.tiers := rfl
@[simp] theorem State.nextId_modCore (s : State) (c : Nat) (f : Core → Core) : (s.modCore c f).nextId = s.nextId := rfl
@[simp] theorem State.agenda_modCore (s : State) (c : Nat) (f : Core → Core) : (s.modCore c f).agenda = s.agenda := rfl
@[simp] theorem State.cur_modCore (s : State) (c : Nat) (f : Core → Core) : (s.modCore c f).cur = s.cur := rfl
@[simp] theorem State.bun_modCore (s : State) (c : Nat) (f : Core → Core) : (s.modCore c f).bun = s.bun := rfl
@[simp] theorem State.free_modCore (s : State) (c : Nat) (f : Core → Core) : (s.modCore c f).free = s.free := rfl
@[simp] theorem State.cyc_modCore (s : State) (c : Nat) (f : Core → Core) : (s.modCore c f).cyc = s.cyc := rfl
@[simp] theorem State.ctx_modCore (s : State) (c : Nat) (f : Core → Core) (n : Nat) : (s.modCore c f).ctx n = s.ctx n := rfl
@[simp] theorem State.die_modCore (s : State) (c : Nat) (f : Core → Core) (n : Nat) : (s.modCore c f).die n = s.die n := rfl
@[simp] theorem State.pkg_modCore (s : State) (c : Nat) (f : Core → Core) (n : Nat) : (s.modCore c f).pkg n = s.pkg n := rfl

-- modDie --------------------------------------------------------------------------------------------------------------------

@[simp] theorem State.tick_modDie (s : State) (d : Nat) (f : Die → Die) : (s.modDie d f).tick = s.tick := rfl
@[simp] theorem State.mem_modDie (s : State) (d : Nat) (f : Die → Die) : (s.modDie d f).mem = s.mem := rfl
@[simp] theorem State.stamps_modDie (s : State) (d : Nat) (f : Die → Die) : (s.modDie d f).stamps = s.stamps := rfl
@[simp] theorem State.applied_modDie (s : State) (d : Nat) (f : Die → Die) : (s.modDie d f).applied = s.applied := rfl
@[simp] theorem State.hist_modDie (s : State) (d : Nat) (f : Die → Die) : (s.modDie d f).hist = s.hist := rfl
@[simp] theorem State.cores_modDie (s : State) (d : Nat) (f : Die → Die) : (s.modDie d f).cores = s.cores := rfl
@[simp] theorem State.ctxs_modDie (s : State) (d : Nat) (f : Die → Die) : (s.modDie d f).ctxs = s.ctxs := rfl
@[simp] theorem State.pkgs_modDie (s : State) (d : Nat) (f : Die → Die) : (s.modDie d f).pkgs = s.pkgs := rfl
@[simp] theorem State.net_modDie (s : State) (d : Nat) (f : Die → Die) : (s.modDie d f).net = s.net := rfl
@[simp] theorem State.resolutions_modDie (s : State) (d : Nat) (f : Die → Die) : (s.modDie d f).resolutions = s.resolutions := rfl
@[simp] theorem State.migs_modDie (s : State) (d : Nat) (f : Die → Die) : (s.modDie d f).migs = s.migs := rfl
@[simp] theorem State.slots_modDie (s : State) (d : Nat) (f : Die → Die) : (s.modDie d f).slots = s.slots := rfl
@[simp] theorem State.marks_modDie (s : State) (d : Nat) (f : Die → Die) : (s.modDie d f).marks = s.marks := rfl
@[simp] theorem State.colMsgs_modDie (s : State) (d : Nat) (f : Die → Die) : (s.modDie d f).colMsgs = s.colMsgs := rfl
@[simp] theorem State.qMsgs_modDie (s : State) (d : Nat) (f : Die → Die) : (s.modDie d f).qMsgs = s.qMsgs := rfl
@[simp] theorem State.tiers_modDie (s : State) (d : Nat) (f : Die → Die) : (s.modDie d f).tiers = s.tiers := rfl
@[simp] theorem State.nextId_modDie (s : State) (d : Nat) (f : Die → Die) : (s.modDie d f).nextId = s.nextId := rfl
@[simp] theorem State.agenda_modDie (s : State) (d : Nat) (f : Die → Die) : (s.modDie d f).agenda = s.agenda := rfl
@[simp] theorem State.cur_modDie (s : State) (d : Nat) (f : Die → Die) : (s.modDie d f).cur = s.cur := rfl
@[simp] theorem State.bun_modDie (s : State) (d : Nat) (f : Die → Die) : (s.modDie d f).bun = s.bun := rfl
@[simp] theorem State.free_modDie (s : State) (d : Nat) (f : Die → Die) : (s.modDie d f).free = s.free := rfl
@[simp] theorem State.cyc_modDie (s : State) (d : Nat) (f : Die → Die) : (s.modDie d f).cyc = s.cyc := rfl
@[simp] theorem State.ctx_modDie (s : State) (d : Nat) (f : Die → Die) (n : Nat) : (s.modDie d f).ctx n = s.ctx n := rfl
@[simp] theorem State.core_modDie (s : State) (d : Nat) (f : Die → Die) (n : Nat) : (s.modDie d f).core n = s.core n := rfl
@[simp] theorem State.pkg_modDie (s : State) (d : Nat) (f : Die → Die) (n : Nat) : (s.modDie d f).pkg n = s.pkg n := rfl

-- modPkg --------------------------------------------------------------------------------------------------------------------

@[simp] theorem State.tick_modPkg (s : State) (p : Nat) (f : Pkg → Pkg) : (s.modPkg p f).tick = s.tick := rfl
@[simp] theorem State.mem_modPkg (s : State) (p : Nat) (f : Pkg → Pkg) : (s.modPkg p f).mem = s.mem := rfl
@[simp] theorem State.stamps_modPkg (s : State) (p : Nat) (f : Pkg → Pkg) : (s.modPkg p f).stamps = s.stamps := rfl
@[simp] theorem State.applied_modPkg (s : State) (p : Nat) (f : Pkg → Pkg) : (s.modPkg p f).applied = s.applied := rfl
@[simp] theorem State.hist_modPkg (s : State) (p : Nat) (f : Pkg → Pkg) : (s.modPkg p f).hist = s.hist := rfl
@[simp] theorem State.dies_modPkg (s : State) (p : Nat) (f : Pkg → Pkg) : (s.modPkg p f).dies = s.dies := rfl
@[simp] theorem State.cores_modPkg (s : State) (p : Nat) (f : Pkg → Pkg) : (s.modPkg p f).cores = s.cores := rfl
@[simp] theorem State.ctxs_modPkg (s : State) (p : Nat) (f : Pkg → Pkg) : (s.modPkg p f).ctxs = s.ctxs := rfl
@[simp] theorem State.net_modPkg (s : State) (p : Nat) (f : Pkg → Pkg) : (s.modPkg p f).net = s.net := rfl
@[simp] theorem State.resolutions_modPkg (s : State) (p : Nat) (f : Pkg → Pkg) : (s.modPkg p f).resolutions = s.resolutions := rfl
@[simp] theorem State.migs_modPkg (s : State) (p : Nat) (f : Pkg → Pkg) : (s.modPkg p f).migs = s.migs := rfl
@[simp] theorem State.slots_modPkg (s : State) (p : Nat) (f : Pkg → Pkg) : (s.modPkg p f).slots = s.slots := rfl
@[simp] theorem State.marks_modPkg (s : State) (p : Nat) (f : Pkg → Pkg) : (s.modPkg p f).marks = s.marks := rfl
@[simp] theorem State.colMsgs_modPkg (s : State) (p : Nat) (f : Pkg → Pkg) : (s.modPkg p f).colMsgs = s.colMsgs := rfl
@[simp] theorem State.qMsgs_modPkg (s : State) (p : Nat) (f : Pkg → Pkg) : (s.modPkg p f).qMsgs = s.qMsgs := rfl
@[simp] theorem State.tiers_modPkg (s : State) (p : Nat) (f : Pkg → Pkg) : (s.modPkg p f).tiers = s.tiers := rfl
@[simp] theorem State.nextId_modPkg (s : State) (p : Nat) (f : Pkg → Pkg) : (s.modPkg p f).nextId = s.nextId := rfl
@[simp] theorem State.agenda_modPkg (s : State) (p : Nat) (f : Pkg → Pkg) : (s.modPkg p f).agenda = s.agenda := rfl
@[simp] theorem State.cur_modPkg (s : State) (p : Nat) (f : Pkg → Pkg) : (s.modPkg p f).cur = s.cur := rfl
@[simp] theorem State.bun_modPkg (s : State) (p : Nat) (f : Pkg → Pkg) : (s.modPkg p f).bun = s.bun := rfl
@[simp] theorem State.free_modPkg (s : State) (p : Nat) (f : Pkg → Pkg) : (s.modPkg p f).free = s.free := rfl
@[simp] theorem State.cyc_modPkg (s : State) (p : Nat) (f : Pkg → Pkg) : (s.modPkg p f).cyc = s.cyc := rfl
@[simp] theorem State.ctx_modPkg (s : State) (p : Nat) (f : Pkg → Pkg) (n : Nat) : (s.modPkg p f).ctx n = s.ctx n := rfl
@[simp] theorem State.core_modPkg (s : State) (p : Nat) (f : Pkg → Pkg) (n : Nat) : (s.modPkg p f).core n = s.core n := rfl
@[simp] theorem State.die_modPkg (s : State) (p : Nat) (f : Pkg → Pkg) (n : Nat) : (s.modPkg p f).die n = s.die n := rfl

-- modMe ---------------------------------------------------------------------------------------------------------------------

@[simp] theorem State.tick_modMe (s : State) (f : Ctx → Ctx) : (s.modMe f).tick = s.tick := rfl
@[simp] theorem State.mem_modMe (s : State) (f : Ctx → Ctx) : (s.modMe f).mem = s.mem := rfl
@[simp] theorem State.stamps_modMe (s : State) (f : Ctx → Ctx) : (s.modMe f).stamps = s.stamps := rfl
@[simp] theorem State.applied_modMe (s : State) (f : Ctx → Ctx) : (s.modMe f).applied = s.applied := rfl
@[simp] theorem State.hist_modMe (s : State) (f : Ctx → Ctx) : (s.modMe f).hist = s.hist := rfl
@[simp] theorem State.dies_modMe (s : State) (f : Ctx → Ctx) : (s.modMe f).dies = s.dies := rfl
@[simp] theorem State.cores_modMe (s : State) (f : Ctx → Ctx) : (s.modMe f).cores = s.cores := rfl
@[simp] theorem State.pkgs_modMe (s : State) (f : Ctx → Ctx) : (s.modMe f).pkgs = s.pkgs := rfl
@[simp] theorem State.net_modMe (s : State) (f : Ctx → Ctx) : (s.modMe f).net = s.net := rfl
@[simp] theorem State.resolutions_modMe (s : State) (f : Ctx → Ctx) : (s.modMe f).resolutions = s.resolutions := rfl
@[simp] theorem State.migs_modMe (s : State) (f : Ctx → Ctx) : (s.modMe f).migs = s.migs := rfl
@[simp] theorem State.slots_modMe (s : State) (f : Ctx → Ctx) : (s.modMe f).slots = s.slots := rfl
@[simp] theorem State.marks_modMe (s : State) (f : Ctx → Ctx) : (s.modMe f).marks = s.marks := rfl
@[simp] theorem State.colMsgs_modMe (s : State) (f : Ctx → Ctx) : (s.modMe f).colMsgs = s.colMsgs := rfl
@[simp] theorem State.qMsgs_modMe (s : State) (f : Ctx → Ctx) : (s.modMe f).qMsgs = s.qMsgs := rfl
@[simp] theorem State.tiers_modMe (s : State) (f : Ctx → Ctx) : (s.modMe f).tiers = s.tiers := rfl
@[simp] theorem State.nextId_modMe (s : State) (f : Ctx → Ctx) : (s.modMe f).nextId = s.nextId := rfl
@[simp] theorem State.agenda_modMe (s : State) (f : Ctx → Ctx) : (s.modMe f).agenda = s.agenda := rfl
@[simp] theorem State.cur_modMe (s : State) (f : Ctx → Ctx) : (s.modMe f).cur = s.cur := rfl
@[simp] theorem State.bun_modMe (s : State) (f : Ctx → Ctx) : (s.modMe f).bun = s.bun := rfl
@[simp] theorem State.free_modMe (s : State) (f : Ctx → Ctx) : (s.modMe f).free = s.free := rfl
@[simp] theorem State.cyc_modMe (s : State) (f : Ctx → Ctx) : (s.modMe f).cyc = s.cyc := rfl
@[simp] theorem State.core_modMe (s : State) (f : Ctx → Ctx) (n : Nat) : (s.modMe f).core n = s.core n := rfl
@[simp] theorem State.die_modMe (s : State) (f : Ctx → Ctx) (n : Nat) : (s.modMe f).die n = s.die n := rfl
@[simp] theorem State.pkg_modMe (s : State) (f : Ctx → Ctx) (n : Nat) : (s.modMe f).pkg n = s.pkg n := rfl

-- modBun --------------------------------------------------------------------------------------------------------------------

@[simp] theorem State.tick_modBun (s : State) (f : Frame → Frame) : (s.modBun f).tick = s.tick := rfl
@[simp] theorem State.mem_modBun (s : State) (f : Frame → Frame) : (s.modBun f).mem = s.mem := rfl
@[simp] theorem State.stamps_modBun (s : State) (f : Frame → Frame) : (s.modBun f).stamps = s.stamps := rfl
@[simp] theorem State.applied_modBun (s : State) (f : Frame → Frame) : (s.modBun f).applied = s.applied := rfl
@[simp] theorem State.hist_modBun (s : State) (f : Frame → Frame) : (s.modBun f).hist = s.hist := rfl
@[simp] theorem State.dies_modBun (s : State) (f : Frame → Frame) : (s.modBun f).dies = s.dies := rfl
@[simp] theorem State.cores_modBun (s : State) (f : Frame → Frame) : (s.modBun f).cores = s.cores := rfl
@[simp] theorem State.ctxs_modBun (s : State) (f : Frame → Frame) : (s.modBun f).ctxs = s.ctxs := rfl
@[simp] theorem State.pkgs_modBun (s : State) (f : Frame → Frame) : (s.modBun f).pkgs = s.pkgs := rfl
@[simp] theorem State.net_modBun (s : State) (f : Frame → Frame) : (s.modBun f).net = s.net := rfl
@[simp] theorem State.resolutions_modBun (s : State) (f : Frame → Frame) : (s.modBun f).resolutions = s.resolutions := rfl
@[simp] theorem State.migs_modBun (s : State) (f : Frame → Frame) : (s.modBun f).migs = s.migs := rfl
@[simp] theorem State.slots_modBun (s : State) (f : Frame → Frame) : (s.modBun f).slots = s.slots := rfl
@[simp] theorem State.marks_modBun (s : State) (f : Frame → Frame) : (s.modBun f).marks = s.marks := rfl
@[simp] theorem State.colMsgs_modBun (s : State) (f : Frame → Frame) : (s.modBun f).colMsgs = s.colMsgs := rfl
@[simp] theorem State.qMsgs_modBun (s : State) (f : Frame → Frame) : (s.modBun f).qMsgs = s.qMsgs := rfl
@[simp] theorem State.tiers_modBun (s : State) (f : Frame → Frame) : (s.modBun f).tiers = s.tiers := rfl
@[simp] theorem State.nextId_modBun (s : State) (f : Frame → Frame) : (s.modBun f).nextId = s.nextId := rfl
@[simp] theorem State.agenda_modBun (s : State) (f : Frame → Frame) : (s.modBun f).agenda = s.agenda := rfl
@[simp] theorem State.cur_modBun (s : State) (f : Frame → Frame) : (s.modBun f).cur = s.cur := rfl
@[simp] theorem State.free_modBun (s : State) (f : Frame → Frame) : (s.modBun f).free = s.free := rfl
@[simp] theorem State.cyc_modBun (s : State) (f : Frame → Frame) : (s.modBun f).cyc = s.cyc := rfl
@[simp] theorem State.ctx_modBun (s : State) (f : Frame → Frame) (n : Nat) : (s.modBun f).ctx n = s.ctx n := rfl
@[simp] theorem State.core_modBun (s : State) (f : Frame → Frame) (n : Nat) : (s.modBun f).core n = s.core n := rfl
@[simp] theorem State.die_modBun (s : State) (f : Frame → Frame) (n : Nat) : (s.modBun f).die n = s.die n := rfl
@[simp] theorem State.pkg_modBun (s : State) (f : Frame → Frame) (n : Nat) : (s.modBun f).pkg n = s.pkg n := rfl

-- writePA -------------------------------------------------------------------------------------------------------------------

@[simp] theorem State.tick_writePA (s : State) (d pa : Nat) (bs : List Byte) : (s.writePA d pa bs).tick = s.tick := rfl
@[simp] theorem State.stamps_writePA (s : State) (d pa : Nat) (bs : List Byte) : (s.writePA d pa bs).stamps = s.stamps := rfl
@[simp] theorem State.applied_writePA (s : State) (d pa : Nat) (bs : List Byte) : (s.writePA d pa bs).applied = s.applied := rfl
@[simp] theorem State.hist_writePA (s : State) (d pa : Nat) (bs : List Byte) : (s.writePA d pa bs).hist = s.hist := rfl
@[simp] theorem State.dies_writePA (s : State) (d pa : Nat) (bs : List Byte) : (s.writePA d pa bs).dies = s.dies := rfl
@[simp] theorem State.cores_writePA (s : State) (d pa : Nat) (bs : List Byte) : (s.writePA d pa bs).cores = s.cores := rfl
@[simp] theorem State.ctxs_writePA (s : State) (d pa : Nat) (bs : List Byte) : (s.writePA d pa bs).ctxs = s.ctxs := rfl
@[simp] theorem State.pkgs_writePA (s : State) (d pa : Nat) (bs : List Byte) : (s.writePA d pa bs).pkgs = s.pkgs := rfl
@[simp] theorem State.net_writePA (s : State) (d pa : Nat) (bs : List Byte) : (s.writePA d pa bs).net = s.net := rfl
@[simp] theorem State.resolutions_writePA (s : State) (d pa : Nat) (bs : List Byte) : (s.writePA d pa bs).resolutions = s.resolutions := rfl
@[simp] theorem State.migs_writePA (s : State) (d pa : Nat) (bs : List Byte) : (s.writePA d pa bs).migs = s.migs := rfl
@[simp] theorem State.slots_writePA (s : State) (d pa : Nat) (bs : List Byte) : (s.writePA d pa bs).slots = s.slots := rfl
@[simp] theorem State.marks_writePA (s : State) (d pa : Nat) (bs : List Byte) : (s.writePA d pa bs).marks = s.marks := rfl
@[simp] theorem State.colMsgs_writePA (s : State) (d pa : Nat) (bs : List Byte) : (s.writePA d pa bs).colMsgs = s.colMsgs := rfl
@[simp] theorem State.qMsgs_writePA (s : State) (d pa : Nat) (bs : List Byte) : (s.writePA d pa bs).qMsgs = s.qMsgs := rfl
@[simp] theorem State.tiers_writePA (s : State) (d pa : Nat) (bs : List Byte) : (s.writePA d pa bs).tiers = s.tiers := rfl
@[simp] theorem State.nextId_writePA (s : State) (d pa : Nat) (bs : List Byte) : (s.writePA d pa bs).nextId = s.nextId := rfl
@[simp] theorem State.agenda_writePA (s : State) (d pa : Nat) (bs : List Byte) : (s.writePA d pa bs).agenda = s.agenda := rfl
@[simp] theorem State.cur_writePA (s : State) (d pa : Nat) (bs : List Byte) : (s.writePA d pa bs).cur = s.cur := rfl
@[simp] theorem State.bun_writePA (s : State) (d pa : Nat) (bs : List Byte) : (s.writePA d pa bs).bun = s.bun := rfl
@[simp] theorem State.free_writePA (s : State) (d pa : Nat) (bs : List Byte) : (s.writePA d pa bs).free = s.free := rfl
@[simp] theorem State.cyc_writePA (s : State) (d pa : Nat) (bs : List Byte) : (s.writePA d pa bs).cyc = s.cyc := rfl
@[simp] theorem State.ctx_writePA (s : State) (d pa : Nat) (bs : List Byte) (n : Nat) : (s.writePA d pa bs).ctx n = s.ctx n := rfl
@[simp] theorem State.core_writePA (s : State) (d pa : Nat) (bs : List Byte) (n : Nat) : (s.writePA d pa bs).core n = s.core n := rfl
@[simp] theorem State.die_writePA (s : State) (d pa : Nat) (bs : List Byte) (n : Nat) : (s.writePA d pa bs).die n = s.die n := rfl
@[simp] theorem State.pkg_writePA (s : State) (d pa : Nat) (bs : List Byte) (n : Nat) : (s.writePA d pa bs).pkg n = s.pkg n := rfl

-- wake ---------------------------------------------------------------------------------------------------------------------

@[simp] theorem State.tick_wake (s : State) (d : Nat) : (s.wake d).tick = s.tick := by unfold State.wake; split <;> rfl
@[simp] theorem State.mem_wake (s : State) (d : Nat) : (s.wake d).mem = s.mem := by unfold State.wake; split <;> rfl
@[simp] theorem State.stamps_wake (s : State) (d : Nat) : (s.wake d).stamps = s.stamps := by unfold State.wake; split <;> rfl
@[simp] theorem State.applied_wake (s : State) (d : Nat) : (s.wake d).applied = s.applied := by unfold State.wake; split <;> rfl
@[simp] theorem State.hist_wake (s : State) (d : Nat) : (s.wake d).hist = s.hist := by unfold State.wake; split <;> rfl
@[simp] theorem State.cores_wake (s : State) (d : Nat) : (s.wake d).cores = s.cores := by unfold State.wake; split <;> rfl
@[simp] theorem State.ctxs_wake (s : State) (d : Nat) : (s.wake d).ctxs = s.ctxs := by unfold State.wake; split <;> rfl
@[simp] theorem State.pkgs_wake (s : State) (d : Nat) : (s.wake d).pkgs = s.pkgs := by unfold State.wake; split <;> rfl
@[simp] theorem State.net_wake (s : State) (d : Nat) : (s.wake d).net = s.net := by unfold State.wake; split <;> rfl
@[simp] theorem State.resolutions_wake (s : State) (d : Nat) : (s.wake d).resolutions = s.resolutions := by unfold State.wake; split <;> rfl
@[simp] theorem State.migs_wake (s : State) (d : Nat) : (s.wake d).migs = s.migs := by unfold State.wake; split <;> rfl
@[simp] theorem State.slots_wake (s : State) (d : Nat) : (s.wake d).slots = s.slots := by unfold State.wake; split <;> rfl
@[simp] theorem State.marks_wake (s : State) (d : Nat) : (s.wake d).marks = s.marks := by unfold State.wake; split <;> rfl
@[simp] theorem State.colMsgs_wake (s : State) (d : Nat) : (s.wake d).colMsgs = s.colMsgs := by unfold State.wake; split <;> rfl
@[simp] theorem State.qMsgs_wake (s : State) (d : Nat) : (s.wake d).qMsgs = s.qMsgs := by unfold State.wake; split <;> rfl
@[simp] theorem State.tiers_wake (s : State) (d : Nat) : (s.wake d).tiers = s.tiers := by unfold State.wake; split <;> rfl
@[simp] theorem State.nextId_wake (s : State) (d : Nat) : (s.wake d).nextId = s.nextId := by unfold State.wake; split <;> rfl
@[simp] theorem State.agenda_wake (s : State) (d : Nat) : (s.wake d).agenda = s.agenda := by unfold State.wake; split <;> rfl
@[simp] theorem State.cur_wake (s : State) (d : Nat) : (s.wake d).cur = s.cur := by unfold State.wake; split <;> rfl
@[simp] theorem State.bun_wake (s : State) (d : Nat) : (s.wake d).bun = s.bun := by unfold State.wake; split <;> rfl
@[simp] theorem State.free_wake (s : State) (d : Nat) : (s.wake d).free = s.free := by unfold State.wake; split <;> rfl
@[simp] theorem State.cyc_wake (s : State) (d : Nat) : (s.wake d).cyc = s.cyc := by unfold State.wake; split <;> rfl
@[simp] theorem State.ctx_wake (s : State) (d n : Nat) : (s.wake d).ctx n = s.ctx n := by unfold State.wake; split <;> rfl
@[simp] theorem State.core_wake (s : State) (d n : Nat) : (s.wake d).core n = s.core n := by unfold State.wake; split <;> rfl
@[simp] theorem State.pkg_wake (s : State) (d n : Nat) : (s.wake d).pkg n = s.pkg n := by unfold State.wake; split <;> rfl
theorem State.die_wake_other (s : State) {d h : Nat} (e : h ≠ d) : (s.wake d).die h = s.die h := by
  unfold State.wake; split
  · rfl
  · exact State.die_setDie_other s e _
theorem State.die_wake (s : State) (d : Nat) : (s.wake d).die d = { s.die d with pwState := 0 } := by
  unfold State.wake; split
  · rename_i h; rw [← h]
  · exact State.die_modDie s d _

-- keepRecord ----------------------------------------------------------------------------------------------------------------

@[simp] theorem State.tick_keepRecord (s : State) (d : Nat) (ws : List W64) : (s.keepRecord d ws).tick = s.tick := rfl
@[simp] theorem State.mem_keepRecord (s : State) (d : Nat) (ws : List W64) : (s.keepRecord d ws).mem = s.mem := rfl
@[simp] theorem State.stamps_keepRecord (s : State) (d : Nat) (ws : List W64) : (s.keepRecord d ws).stamps = s.stamps := rfl
@[simp] theorem State.applied_keepRecord (s : State) (d : Nat) (ws : List W64) : (s.keepRecord d ws).applied = s.applied := rfl
@[simp] theorem State.hist_keepRecord (s : State) (d : Nat) (ws : List W64) : (s.keepRecord d ws).hist = s.hist := rfl
@[simp] theorem State.cores_keepRecord (s : State) (d : Nat) (ws : List W64) : (s.keepRecord d ws).cores = s.cores := rfl
@[simp] theorem State.ctxs_keepRecord (s : State) (d : Nat) (ws : List W64) : (s.keepRecord d ws).ctxs = s.ctxs := rfl
@[simp] theorem State.net_keepRecord (s : State) (d : Nat) (ws : List W64) : (s.keepRecord d ws).net = s.net := rfl
@[simp] theorem State.resolutions_keepRecord (s : State) (d : Nat) (ws : List W64) : (s.keepRecord d ws).resolutions = s.resolutions := rfl
@[simp] theorem State.migs_keepRecord (s : State) (d : Nat) (ws : List W64) : (s.keepRecord d ws).migs = s.migs := rfl
@[simp] theorem State.slots_keepRecord (s : State) (d : Nat) (ws : List W64) : (s.keepRecord d ws).slots = s.slots := rfl
@[simp] theorem State.marks_keepRecord (s : State) (d : Nat) (ws : List W64) : (s.keepRecord d ws).marks = s.marks := rfl
@[simp] theorem State.colMsgs_keepRecord (s : State) (d : Nat) (ws : List W64) : (s.keepRecord d ws).colMsgs = s.colMsgs := rfl
@[simp] theorem State.qMsgs_keepRecord (s : State) (d : Nat) (ws : List W64) : (s.keepRecord d ws).qMsgs = s.qMsgs := rfl
@[simp] theorem State.tiers_keepRecord (s : State) (d : Nat) (ws : List W64) : (s.keepRecord d ws).tiers = s.tiers := rfl
@[simp] theorem State.nextId_keepRecord (s : State) (d : Nat) (ws : List W64) : (s.keepRecord d ws).nextId = s.nextId := rfl
@[simp] theorem State.agenda_keepRecord (s : State) (d : Nat) (ws : List W64) : (s.keepRecord d ws).agenda = s.agenda := rfl
@[simp] theorem State.cur_keepRecord (s : State) (d : Nat) (ws : List W64) : (s.keepRecord d ws).cur = s.cur := rfl
@[simp] theorem State.bun_keepRecord (s : State) (d : Nat) (ws : List W64) : (s.keepRecord d ws).bun = s.bun := rfl
@[simp] theorem State.free_keepRecord (s : State) (d : Nat) (ws : List W64) : (s.keepRecord d ws).free = s.free := rfl
@[simp] theorem State.cyc_keepRecord (s : State) (d : Nat) (ws : List W64) : (s.keepRecord d ws).cyc = s.cyc := rfl
@[simp] theorem State.dies_keepRecord (s : State) (d : Nat) (ws : List W64) : (s.keepRecord d ws).dies = s.dies := rfl
@[simp] theorem State.ctx_keepRecord (s : State) (d : Nat) (ws : List W64) (n : Nat) : (s.keepRecord d ws).ctx n = s.ctx n := rfl
@[simp] theorem State.core_keepRecord (s : State) (d : Nat) (ws : List W64) (n : Nat) : (s.keepRecord d ws).core n = s.core n := rfl
@[simp] theorem State.die_keepRecord (s : State) (d : Nat) (ws : List W64) (n : Nat) : (s.keepRecord d ws).die n = s.die n := rfl

end Sys2Proof.Machine
end

