-- ==== Sys2Proof/Safety.lean ====
section
/-! DEFINITION. What a safe run is: every step gives a next state (R35: the causes of R35 are next states of the model), and the
canonical forms of memory hold. -/

namespace Sys2Proof.Machine

/-- A step gives a next state. -/
def State.goesOn (s : State) : Prop := ∃ t, step s = .next t

end Sys2Proof.Machine
end

