-- ==== Sys2Proof/Certificates/Slice0/Obligations.lean ====
section
/-! DEFINITION. The statements for the provers. A result statement gives, for every state and operands that meet its hypotheses, the next
state of exec; inside a bundle `s.pre` is the context as the bundle's slots read it (R19), outside one the context as it stands. -/

open Sys2Proof Sys2Proof.Machine

-- What the hypotheses say ------------------------------------------------------------------------------------------------------

/-- The guard of a slot is true (R49). -/
abbrev Sys2Proof.Claims.Live (s : State) (g : BitVec 4) : Prop := s.pre.guardValue g = some true

/-- No write to a destination is pending; l5 never waits (R26, R145). -/
abbrev Sys2Proof.Claims.Free (s : State) (ns : List Nat) : Prop := ns.any (fun n => n != 85 && s.pre.pending n) = false

/-- A source can be read and has this value (R20, R50). -/
abbrev Sys2Proof.Claims.Reads (s : State) (x : BitVec 7) (v : W64) : Prop := s.source x = .ok v

/-- An S3 access waits for no acquire and finds room in the outstanding-request table (R32, R192). -/
abbrev Sys2Proof.Claims.PortReady (s : State) : Prop := s.acquireOut s.cur = false ∧ s.portFull s.myCore = false

/-- Vector register k can be read, as the row v: it is no result of faulting work, no write to it is pending, and no poison stops a slot
that reads it (R19, R34, R237, R240). -/
abbrev Sys2Proof.Claims.RowReads (s : State) (k : Nat) (reads : Bool) (v : Row) : Prop :=
  s.rowFaulted (s.vrow k) = false ∧ s.rowWaits (s.vrow k) = false ∧ (reads = false ∨ find? (s.vrow k) s.preMarks = none) ∧ getD (s.vrow k) 0 s.preRows = v

/-- No write to vector register k is pending, and no array instruction holds its row (R145, R237). -/
abbrev Sys2Proof.Claims.RowFree (s : State) (k : Nat) : Prop := s.destWaits (s.vrow k) = false

open Sys2Proof.Claims

-- S1 and S2 -------------------------------------------------------------------------------------------------------------------

/-- R170, R171: the integer instructions, the compare, the selection and the predicate instructions write their result to their destination and
change nothing else; division truncates toward zero, −2^63 / −1 gives −2^63, and a zero divisor raises cause 0x0B; sel executes under either
value of its selector. -/
def Obligations.IntegerResult : Prop :=
  (∀ (s : State) (g : BitVec 4) (d a b : BitVec 7) (x y : W64), Free s [d.toNat] → Reads s a x → Reads s b y →
    (Live s g →
      exec (.add g d a b) s = .next (s.writeReg d (x + y)) ∧
      exec (.sub g d a b) s = .next (s.writeReg d (x - y)) ∧
      exec (.mul g d a b) s = .next (s.writeReg d (x * y)) ∧
      exec (.mulh g d a b) s = .next (s.writeReg d (BitVec.ofInt 64 (x.toInt * y.toInt / 2 ^ 64))) ∧
      exec (.mulhn g d a b) s = .next (s.writeReg d (BitVec.ofNat 64 (x.toNat * y.toNat / 2 ^ 64))) ∧
      exec (.and g d a b) s = .next (s.writeReg d (x &&& y)) ∧
      exec (.or g d a b) s = .next (s.writeReg d (x ||| y)) ∧
      exec (.xor g d a b) s = .next (s.writeReg d (x ^^^ y)) ∧
      exec (.andn g d a b) s = .next (s.writeReg d (x &&& ~~~y)) ∧
      exec (.shl g d a b) s = .next (s.writeReg d (x <<< (y.toNat % 64))) ∧
      exec (.shr g d a b) s = .next (s.writeReg d (x >>> (y.toNat % 64))) ∧
      exec (.sra g d a b) s = .next (s.writeReg d (x.sshiftRight (y.toNat % 64))) ∧
      exec (.min g d a b) s = .next (s.writeReg d (if x.toInt ≤ y.toInt then x else y)) ∧
      exec (.max g d a b) s = .next (s.writeReg d (if x.toInt ≤ y.toInt then y else x)) ∧
      exec (.minn g d a b) s = .next (s.writeReg d (if x.toNat ≤ y.toNat then x else y)) ∧
      exec (.maxn g d a b) s = .next (s.writeReg d (if x.toNat ≤ y.toNat then y else x)) ∧
      exec (.addsh1 g d a b) s = .next (s.writeReg d (x + y * 2)) ∧
      exec (.addsh2 g d a b) s = .next (s.writeReg d (x + y * 4)) ∧
      exec (.addsh3 g d a b) s = .next (s.writeReg d (x + y * 8)) ∧
      exec (.addsh5 g d a b) s = .next (s.writeReg d (x + y * 32)) ∧
      exec (.bext g d a b) s = .next (s.writeReg d (BitVec.ofNat 64 (x.toNat / 2 ^ (y.toNat % 64) % 2 ^ (y.toNat / 64 % 64 + 1)))) ∧
      exec (.clz g d a) s = .next (s.writeReg d (BitVec.ofNat 64 (((List.range 64).find? (fun k => x.getLsbD (63 - k))).getD 64))) ∧
      exec (.ctz g d a) s = .next (s.writeReg d (BitVec.ofNat 64 (((List.range 64).find? x.getLsbD).getD 64))) ∧
      exec (.popc g d a) s = .next (s.writeReg d (BitVec.ofNat 64 ((List.range 64).countP x.getLsbD))) ∧
      (y ≠ 0 → exec (.div g d a b) s = .next (s.writeReg d (BitVec.ofInt 64 (x.toInt.tdiv y.toInt))) ∧
               exec (.divn g d a b) s = .next (s.writeReg d (BitVec.ofNat 64 (x.toNat / y.toNat)))) ∧
      (y = 0 → exec (.div g d a b) s = .next (s.raise 0x0B s.slotInfo) ∧ exec (.divn g d a b) s = .next (s.raise 0x0B s.slotInfo))) ∧
    (∀ v, s.pre.guardValue g = some v → exec (.sel g d a b) s = .next (s.writeReg d (if v then x else y)))) ∧
  (∀ (s : State) (g : BitVec 4) (d : BitVec 7) (i : BitVec 14), Live s g → Free s [d.toNat] →
    exec (.li g d i) s = .next (s.writeReg d (i.signExtend 64))) ∧
  (∀ (s : State) (g : BitVec 4) (d a b : BitVec 7) (i : BitVec 14) (x y z : W64),
    Live s g → Free s [d.toNat] → Reads s a x → Reads s b y → Reads s d z →
    exec (.lih g d i) s = .next (s.writeReg d (z * 16384 + i.zeroExtend 64)) ∧
    (let (lo, n) := (y.toNat % 64, y.toNat / 64 % 64 + 1)
     exec (.bins g d a b) s = .next (s.writeReg d ((z &&& ~~~(BitVec.ofNat 64 ((2 ^ n - 1) * 2 ^ lo))) ||| BitVec.ofNat 64 (x.toNat % 2 ^ n * 2 ^ lo))))) ∧
  (∀ (s : State) (g c : BitVec 4) (k pa pb : BitVec 3) (a b : BitVec 7) (x y : W64),
    Live s g → Free s [128 + k.toNat] → Free s [128 + pa.toNat] → Free s [128 + pb.toNat] → Reads s a x → Reads s b y →
    (∀ v, (c.toNat, v) ∈ [(0, decide (x = y)), (1, decide (x ≠ y)), (2, decide (x.toInt < y.toInt)), (3, decide (x.toInt ≤ y.toInt)),
        (4, decide (x.toInt > y.toInt)), (5, decide (x.toInt ≥ y.toInt)), (6, decide (x.toNat < y.toNat)), (7, decide (x.toNat ≤ y.toNat)),
        (8, decide (x.toNat > y.toNat)), (9, decide (x.toNat ≥ y.toNat))] →
      exec (.cmp g c k a b) s = .next (s.writePred k v)) ∧
    exec (.pand g k pa pb) s = .next (s.writePred k (s.pre.p pa.toNat && s.pre.p pb.toNat)) ∧
    exec (.por g k pa pb) s = .next (s.writePred k (s.pre.p pa.toNat || s.pre.p pb.toNat)) ∧
    exec (.pnot g k pa) s = .next (s.writePred k (!s.pre.p pa.toNat)) ∧
    exec .nopScalar s = .next s)

/-- R172, R173: a floating-point result is rounded once, to nearest even with saturation off, and its conditions are ORed into fpstat. -/
def Obligations.FloatResult : Prop :=
  ∀ (s : State) (g : BitVec 4) (d a b : BitVec 7) (k : BitVec 3) (c v : BitVec 4) (r : BitVec 3) (x y : W64),
    Live s g → Free s [d.toNat] → Free s [128 + k.toNat] → Reads s a x → Reads s b y →
    let put : Nat × Cond → Host.Outcome State Fault Refusal := fun q => .next ((s.raiseCond q.2).writeReg d (w64 q.1))
    exec (.faddF32 g d a b) s = put (f32Fmt.addOp x.toNat y.toNat 0 true) ∧
    exec (.fsubF32 g d a b) s = put (f32Fmt.subOp x.toNat y.toNat 0 true) ∧
    exec (.fmulF32 g d a b) s = put (f32Fmt.mulOp x.toNat y.toNat 0 true) ∧
    exec (.faddF64 g d a b) s = put (f64Fmt.addOp x.toNat y.toNat 0 true) ∧
    exec (.fsubF64 g d a b) s = put (f64Fmt.subOp x.toNat y.toNat 0 true) ∧
    exec (.fmulF64 g d a b) s = put (f64Fmt.mulOp x.toNat y.toNat 0 true) ∧
    (∀ z, Reads s d z →
      exec (.ffmaF32 g d a b) s = put (f32Fmt.fmaOp x.toNat y.toNat z.toNat 0 true) ∧
      exec (.ffmaF64 g d a b) s = put (f64Fmt.fmaOp x.toNat y.toNat z.toNat 0 true)) ∧
    exec (.fcvt g d a r v) s = put (fcvtVal v.toNat r.toNat x.toNat) ∧
    exec (.fcmpF32 g c k a b) s = .next ((s.raiseCond (fcmpCond c.toNat (f32Fmt.decode x.toNat) (f32Fmt.decode y.toNat))).writePred k
      (fcmpHolds c.toNat (f32Fmt.decode x.toNat) (f32Fmt.decode y.toNat))) ∧
    exec (.fcmpF64 g c k a b) s = .next ((s.raiseCond (fcmpCond c.toNat (f64Fmt.decode x.toNat) (f64Fmt.decode y.toNat))).writePred k
      (fcmpHolds c.toNat (f64Fmt.decode x.toNat) (f64Fmt.decode y.toNat)))

-- S0 --------------------------------------------------------------------------------------------------------------------------

/-- The state after a jump to t (R148). -/
abbrev Sys2Proof.Claims.jumped (s : State) (t : W64) : State :=
  (s.modMe (fun c => { c with pc := t })).modBun (fun f => { f with jumped := true })

/-- What a jump to t gives: one outside the VA space raises cause 0x05 with the whole next PC (R148). -/
abbrev Sys2Proof.Claims.landed (s : State) (t : W64) : State := if t.toNat < 2 ^ 57 then jumped s t else s.raise 5 t

/-- R41, R148, R154: a jump that is taken sets the pc to the bundle's VA plus 32 times its offset modulo 2^64, or to the register's value; one that
is not taken falls through. A register value that is no bundle's VA raises cause 0x04, and a target outside the VA space cause 0x05. nop
does nothing. -/
def Obligations.JumpResult : Prop :=
  ∀ (s : State) (j : BitVec 13) (k : BitVec 10) (q : BitVec 3) (x : BitVec 7) (v : W64),
    let near := s.pre.pc + 32 * j.signExtend 64
    let cond := s.pre.pc + 32 * k.signExtend 64
    exec (.jmp j) s = .next (landed s near) ∧
    (Free s [128 + q.toNat] → exec (.jmpc q k) s = .next (if s.pre.p q.toNat then landed s cond else s.fallThrough)) ∧
    exec (.jmpm j) s = .next (if s.pre.topLanes = 0 then landed s near else s.fallThrough) ∧
    (Reads s x v →
      (v.toNat % 32 = 0 → exec (.jmpi x) s = .next (landed s v)) ∧
      (v.toNat % 32 ≠ 0 → exec (.jmpi x) s = .next (s.raise 4 (w64 (v.toNat % 2 ^ 57))))) ∧
    exec .nop s = .next s

/-- R154: jmpt reads the count of its table and, when the index is below it, the entry, and jumps by it; else it falls through. A table that is not
aligned to 4 bytes raises cause 0x04, and a target outside the VA space cause 0x05. -/
def Obligations.TableJumpResult : Prop :=
  ∀ (s : State) (t : BitVec 6) (x : BitVec 7) (tb i : W64), Reads s (BitVec.ofNat 7 t.toNat) tb → Reads s x i →
    (tb.toNat % 4 ≠ 0 → exec (.jmpt t x) s = .next (s.raise 4 (w64 (tb.toNat % 2 ^ 57)))) ∧
    (∀ (s1 : State) (ia w : Nat) (bs : List Byte), tb.toNat % 4 = 0 → translate s.pre.wnd tb.toNat 4 = some (ia, w) →
      footprintMiss (s.card s.cur) false ia 4 = none → s.memFaulted ia 4 = false → (∀ k : List Byte → State → State, s.syncLoad ia 4 k = k bs s1) →
      (ofBytes bs ≤ i.toNat → exec (.jmpt t x) s = .next s1.fallThrough) ∧
      (∀ (s2 : State) (ia2 w2 : Nat) (es : List Byte),
        let ea := wrapN 64 ((tb.toNat : Int) + 4 + 4 * (i.toNat : Int))
        let dest := s.target (signedN 32 (ofBytes es))
        i.toNat < ofBytes bs → translate s.pre.wnd ea 4 = some (ia2, w2) → footprintMiss (s.card s.cur) false ia2 4 = none → s.memFaulted ia2 4 = false →
        (∀ k : List Byte → State → State, s1.syncLoad ia2 4 k = k es s2) →
        exec (.jmpt t x) s = .next (if dest.toNat < 2 ^ 57 then jumped s2 dest else s.raise 5 dest)))

/-- R149: loop and loopi start level n at the next bundle with the trip count of the register, or of the field plus 1; a count of 0
skips the body; a body that does not fit the active levels below n, or one of them pipelined, raises 0x01 whatever the count register holds.
lbrk leaves the loops numbered n and higher. -/
def Obligations.LoopResult : Prop :=
  ∀ (s : State) (st : BitVec 2) (n : BitVec 3) (c : BitVec 5) (b : BitVec 8) (v : W64),
    let x := s.pre.pc.toNat
    let last := x + 32 * (b.toNat + 1)
    let start := fun (k : Nat) =>
      let u := s.modMe (fun a => let a := a.dropLevels n.toNat
        if k = 0 then a else a.setLevel n.toNat ⟨true, st.toNat, b.toNat, 0, k, w64 (x + 32)⟩)
      u.jumpTo (w64 (if k = 0 then last + 32 else x + 32))
    let bad := ((upFrom 0 n.toNat).map s.pre.level).any (fun l => l.act && (decide (l.last < last) || l.stg != 0))
    (bad = false →
      (Reads s (BitVec.ofNat 7 c.toNat) v → exec (.loop st n c b) s = .next (start (v.toNat % 2 ^ 24))) ∧
      exec (.loopi st n c b) s = .next (start (c.toNat + 1))) ∧
    (bad = true → exec (.loop st n c b) s = .next (s.raise 1 s.slotInfo) ∧ exec (.loopi st n c b) s = .next (s.raise 1 s.slotInfo)) ∧
    exec (.lbrk n) s = .next (if (s.pre.level n.toNat).act
      then (s.modMe (fun a => a.dropLevels n.toNat)).jumpTo (w64 ((s.pre.level n.toNat).last + 32)) else s.jumpTo (w64 (x + 32)))

/-- R155, R156: call and calli push the return address on the shadow stack and store it at s59 − 8. With the stack at depth 2,048 its entries are
spilled first, to the next block of the shadow page, and cause 0x0A is raised without a page, with all its blocks in use, or when the spill fails. Within
a bundle the spill is made while the bundle stalls and stands only when it commits, which is the model's choice (log 95). -/
def Obligations.CallResult : Prop :=
  ∀ (s : State) (j : BitVec 13) (x : BitVec 7) (sp v : W64) (t : Task) (ia w : Nat),
    let ra := bytesOf 8 (w64 (s.pre.pc.toNat + 32)).toNat
    let dep := shadowDep s.pre.shadowTop
    let blk := shadowBlk s.pre.shadowTop
    let pushed := fun (u : State) (k : Nat) =>
      let p := ((u.spadWrite s.myCore t (t.shadowOff k) ra).modMe (fun c => c.setReg 59 (sp - 8))).modMe
        (fun c => { c with shadowTop := shadowTopOf (shadowBlk c.shadowTop) (k + 1) })
      (p.issuePieces .write none ia ra (sectorPieces 2 ia 8)).2
    Free s [59] → Reads s 59 sp → sp.toNat % 8 = 0 → s.boundTask s.cur = some t → Reads s x v → v.toNat % 32 = 0 → v.toNat < 2 ^ 57 →
    (translate s.pre.wnd (effAddr sp (-8)) 8 = some (ia, w) → footprintMiss (s.card s.cur) true ia 8 = none → PortReady s →
      (s.target j.toInt).toNat < 2 ^ 57 →
      (dep < 2048 → s.me.shadowTop = s.pre.shadowTop →
        exec (.call j) s = .next (jumped (pushed s dep) (s.target j.toInt)) ∧ exec (.calli x) s = .next (jumped (pushed s dep) v)) ∧
      (∀ (b : Nat) (u : State), 2048 ≤ dep → bit s.pre.shadowBase 0 = true → blk ≠ 4 → s.shadowIA blk true = .inl b →
        s.spadBad s.myCore t (t.shadowOff 0) 16384 = false →
        s.writeOne s.myDie b (s.spadRead s.myCore t (t.shadowOff 0) 16384) (.spill true) 0 (s.pendingSet s.cur) = .ok u →
        let e := u.modMe (fun c => { c with shadowTop := shadowTopOf (blk + 1) 0 })
        (s.bun.on = false → exec (.call j) s = .next (jumped (pushed e (shadowDep e.me.shadowTop)) (s.target j.toInt)) ∧
          exec (.calli x) s = .next (jumped (pushed e (shadowDep e.me.shadowTop)) v)) ∧
        (s.bun.on = true → exec (.call j) s = .next (s.hold.modBun (fun f => { f with refill := true })) ∧
          exec (.calli x) s = .next (s.hold.modBun (fun f => { f with refill := true }))))) ∧
    (2048 ≤ dep → (bit s.pre.shadowBase 0 = false ∨ blk = 4 ∨ (∃ q, s.shadowIA blk true = .inr q) ∨ s.spadBad s.myCore t (t.shadowOff 0) 16384 = true) →
      exec (.call j) s = .next (s.raise 0x0A 0) ∧ exec (.calli x) s = .next (s.raise 0x0A 0))

/-- R36, R157: ret loads the return address from s59, compares it with the top of the shadow stack, pops and jumps; a difference raises 0x09, and
so does an empty stack. At depth 0 the stack is refilled from the block last spilled. An entry with an uncorrectable error raises 0x16. -/
def Obligations.ReturnResult : Prop :=
  ∀ (s s1 : State) (sp : W64) (t : Task) (ia w : Nat) (bs : List Byte),
    let m := w64 (ofBytes bs)
    let blk := shadowBlk s.pre.shadowTop
    Free s [59] → Reads s 59 sp → sp.toNat % 8 = 0 → translate s.pre.wnd sp.toNat 8 = some (ia, w) →
    footprintMiss (s.card s.cur) false ia 8 = none → s.memFaulted ia 8 = false → (∀ k : List Byte → State → State, s.syncLoad ia 8 k = k bs s1) →
    s.boundTask s.cur = some t →
    (∀ u r : State, (0 < shadowDep s.pre.shadowTop ∧ u = s1 ∧ r = s ∨
        shadowDep s.pre.shadowTop = 0 ∧ blk ≠ 0 ∧ s.bun.on = false ∧ s1.refill t blk = .ok u ∧ r = u) →
      let top := u.pre.shadowTop
      let off := t.shadowOff (shadowDep top - 1)
      let same := m.toNat = ofBytes (u.spadRead u.myCore t off 8)
      (u.spadBad u.myCore t off 8 = true → exec .ret s = .next (r.raise 0x16 (info16 3 (off / 32 * 32)))) ∧
      (u.spadBad u.myCore t off 8 = false → same → m.toNat % 32 = 0 → m.toNat < 2 ^ 57 →
        exec .ret s = .next (jumped (u.modMe (fun c =>
          { (c.setReg 59 (u.pre.reg 59 + 8)) with shadowTop := shadowTopOf (shadowBlk top) (shadowDep top - 1) })) m)) ∧
      (u.spadBad u.myCore t off 8 = false → ¬ same → exec .ret s = .next (r.raise 9 (w64 (m.toNat % 2 ^ 57))))) ∧
    (shadowDep s.pre.shadowTop = 0 → blk = 0 → exec .ret s = .next (s.raise 9 0)) ∧
    (shadowDep s.pre.shadowTop = 0 → blk ≠ 0 →
      (∀ b es k st e, s1.shadowIA (blk - 1) false = .inl b → s1.loadsOut s1.cur = false →
        s1.readOne s1.myDie b 16384 (.spill false) (s1.pendingSet s1.cur) = .ok es k st e →
        s1.refill t blk = .ok ((s1.spadWrite s1.myCore t (t.shadowOff 0) es).modMe (fun c => { c with shadowTop := shadowTopOf (blk - 1) 2048 })) ∧
        (s.bun.on = true → exec .ret s = .next (s.hold.modBun (fun f => { f with refill := true })))) ∧
      (∀ c i, s1.shadowIA (blk - 1) false = .inr (c, i) → exec .ret s = .next (s.raise c i)))

/-- R160, R161, R196: a wait whose conditions have been seen completes: the event bits it consumes, those aside that a lower-numbered context's
wait consumes in the same cycle, are cleared, its status predicate is set and the read-only cache is invalidated; one that goes on leaves its
bundle stalled. At its timeout it raises 0x0C under trp; under susp its task suspends; else it completes with its status predicate 0. That run alone
it samples its conditions itself and leaves what it has seen is the model's choice (log 71). -/
def Obligations.WaitResult : Prop :=
  ∀ (s : State) (w : BitVec 3),
    let n := w.toNat
    let pt := waitPt (s.pre.waitWord n 0)
    let st := if s.bun.on then s.bun.wait.getD ⟨s.tick, 0⟩ else s.sampleWait s.cur n 0
    let status := fun (u : State) (v : Bool) => if pt = 0 then u else u.modMe (fun c => c.setP pt v)
    let ended := fun (u : State) => if s.bun.on then u.dropRoc u.myCore else (u.dropRoc u.myCore).modMe (fun c => { c with wait := none })
    s.pre.waitOk n = true → s.waitBadOffset s.cur n = none → s.waitBadData s.cur n = none → (pt ≠ 0 → s.pre.pending (128 + pt) = false) →
    (s.pre.waitDone n st = true → exec (.wait w) s = .next (ended (status (s.modCore s.myCore (fun k =>
      { k with event := w64 (k.event.toNat &&& (2 ^ 64 - 1 - s.pre.waitConsumes n ((s.core s.myCore).event &&& ~~~(w64 s.bun.taken)))) })) true))) ∧
    (s.pre.waitDone n st = false → s.pre.waitExpired n s.tick st = false →
      exec (.wait w) s = .next (if s.bun.on then s.hold else s.modMe (fun c => { c with wait := some st }))) ∧
    (s.pre.waitDone n st = false → s.pre.waitExpired n s.tick st = true →
      (waitTrp (s.pre.waitWord n 0) = true → exec (.wait w) s = .next (s.raise 0x0C (w64 (n * 256 + st.seen)))) ∧
      (waitTrp (s.pre.waitWord n 0) = false → waitSusp (s.pre.waitWord n 0) = true → (ended s).pre.carryPending = false →
        exec (.wait w) s = .next (if s.bun.on then (ended s).modBun (fun f => { f with stop := some .suspend })
          else (ended s).stopTask (ended s).cur (ended s).me.pc .suspend)) ∧
      (waitTrp (s.pre.waitWord n 0) = false → waitSusp (s.pre.waitWord n 0) = false → exec (.wait w) s = .next (ended (status s false))))

/-- R69, R164 to R166: trap and brk raise their causes with the code as trap.info; eret and halt act in system mode; in task mode a system
instruction, and a write of a register that task mode may not write, raises cause 0x03. -/
def Obligations.SystemInstructions : Prop :=
  (∀ (s : State) (k : BitVec 8),
     exec (.trap k) s = .next (s.raise 0x0E (w64 k.toNat)) ∧
     exec (.brk k) s = .next (s.raise 0x0D (w64 k.toNat)) ∧
     (s.sysMode s.cur = true →
       (∃ t, exec .eret s = .next t ∧ t.me.pc = w64 (s.me.trap.pc.toNat / 32 * 32) ∧ bit t.me.trap.cause 8 = false ∧ t.mem = s.mem) ∧
       (∃ t, exec .halt s = .next t ∧ (s.bun.on = false → t.me.halted = true) ∧ (s.bun.on = true → t.bun.halt = true) ∧ t.mem = s.mem))) ∧
  (∀ (s : State) (x : BitVec 7) (r : BitVec 6), s.sysMode s.cur = false →
     exec .eret s = .next (s.raise 3 s.slotInfo) ∧ exec .halt s = .next (s.raise 3 s.slotInfo) ∧ exec (.gsub x) s = .next (s.raise 3 s.slotInfo) ∧
     (sysRegOk r = true → (sysReadOnly r.toNat || sysSystemOnly r.toNat) = true → exec (.sysw r x) s = .next (s.raise 3 s.slotInfo)))

/-- R146, R147: sysr writes the value of a system register to d; sysw writes one. -/
def Obligations.SystemRegisterResult : Prop :=
  ∀ (s : State) (r : BitVec 6) (d x : BitVec 7) (v : W64),
    sysRegOk r = true → (r = 7 → s.pre.predPending = false) → Free s [d.toNat] → Reads s x v →
    exec (.sysr r d) s = .next (s.writeReg d (s.sysReg r.toNat)) ∧
    (s.sysMode s.cur = true → sysReadOnly r.toNat = true → exec (.sysw r x) s = .next s) ∧
    (sysReadOnly r.toNat = false → (s.sysMode s.cur = true ∨ sysSystemOnly r.toNat = false) →
      exec (.sysw r x) s = .next (s.writeSysReg r.toNat v))

/-- R113, R138 to R142, R119: tld reads and tst writes a word of the live record; suspend, yield and end leave the context, suspend and yield
with the resume PC and s0 to s2 in the record; within a bundle they act after its commit. spawn asks Compass about the record at the VA, its
predicate pair pending until it answers; gsub reads a graph descriptor and submits it. What gsub cannot read or submit at once, behind a store
of its own bundle or on a page that cannot answer, it leaves to Compass and the context goes on: how is the model's choice (log 86). -/
def Obligations.RecordInstructions : Prop :=
  (∀ (s : State) (w : BitVec 3) (d x : BitVec 7) (v : W64) (t : Task) (u : Nat),
     s.boundTask s.cur = some t → s.me.task = some u → Free s [d.toNat] → Reads s x v →
     exec (.tld w d) s = .next (s.writeReg d (if w = 1 then w64 (setBitsN (t.word 1).toNat 47 44 4) else t.word w.toNat)) ∧
     (w ≠ 0 → ((w = 2 ∨ w = 3) → v.toNat % 64 = 0) →
       exec (.tst w x) s = .next (s.setTask s.myDie u { t with words := setAt w.toNat (tstWord (t.word w.toNat) v w.toNat t.sys) t.words })) ∧
     (s.bun.on = false → s.pre.carryPending = false →
       exec .suspend s = .next (s.stopTask s.cur s.me.pc .suspend) ∧ exec .yield s = .next (s.stopTask s.cur s.me.pc .yield)) ∧
     (s.bun.on = false → exec .endTask s = .next (s.stopTask s.cur s.me.pc .ended)) ∧
     (s.bun.on = true → s.pre.carryPending = false →
       exec .suspend s = .next (s.modBun (fun f => { f with stop := some .suspend })) ∧
       exec .yield s = .next (s.modBun (fun f => { f with stop := some .yield }))) ∧
     (s.bun.on = true → exec .endTask s = .next (s.modBun (fun f => { f with stop := some .ended })))) ∧
  (∀ (s : State) (b : BitVec 3) (x : BitVec 7) (v : W64) (ia w : Nat),
     let (p, q) := (128 + b.toNat, 128 + b.toNat + 1)
     Reads s x v → translate s.pre.wnd v.toNat 64 = some (ia, w) → v.toNat % 64 = 0 → footprintMiss (s.card s.cur) false ia 64 = none → s.memFaulted ia 64 = false →
     (Free s [p, q] → PortReady s →
       exec (.spawn b x) s = .next ((({ s with nextId := s.nextId + 1 } : State).modMe (fun c =>
         { c with pend := (p, s.nextId) :: (q, s.nextId) :: c.pend })).modCompass s.myDie (fun k =>
           { k with spawns := k.spawns ++ [⟨s.cur, s.pre.task.getD 0, b.toNat, ia, ({ s with nextId := s.nextId + 1 } : State).pendingSet s.cur, s.nextId, false, s.pre.pkr⟩] }))) ∧
     (s.sysMode s.cur = true →
        let later := ({ s with nextId := s.nextId + 1 } : State).modCompass s.myDie (fun k =>
          { k with spawns := k.spawns ++ [⟨s.cur, s.pre.task.getD 0, 0, ia, s.pendingSet s.cur, s.nextId, true, s.pre.pkr⟩] })
        let read := s.readMany s.myDie .load (s.pendingSet s.cur) (pagePieces 3 ia 64)
        (s.gsubBehind = true → exec (.gsub x) s = .next later) ∧
        (s.gsubBehind = false → (∃ n, read = .wait n) → exec (.gsub x) s = .next later) ∧
        (s.gsubBehind = false → ∀ bs key st e, read = .ok bs key st e → keyReads s.pre.pkr key = true →
          let ds := mergedDeps s.tick s.nextId s.me.deps st
          ds.length ≤ 8 → ∀ u, ((s.modMe (fun c => { c with deps := ds })).learnAll s.myDie).submitGraph s.myDie (wordsOf 8 bs) = .ok u →
          exec (.gsub x) s = .next u)))

-- S3 --------------------------------------------------------------------------------------------------------------------------

/-- An access of n bytes at an effective address passes the checks of R205: it lies in window w, at `ia`, inside the footprint; a read
meets no bytes that faulting work writes (R34); no acquire is out (R192), and the outstanding-request table has room (R32). -/
abbrev Sys2Proof.Claims.Passes (s : State) (wr : Bool) (ea n ia w : Nat) : Prop :=
  translate s.pre.wnd ea n = some (ia, w) ∧ footprintMiss (s.card s.cur) wr ia n = none ∧ (wr = true ∨ s.memFaulted ia n = false) ∧ PortReady s

/-- R182, R183, R206: a load of n bytes at base + n * offset leaves as requests, one for each sector it touches, and its destinations wait
for the answers; only an ordered load must be aligned. That a sector boundary is where an access splits, and a page boundary too, is R182 as
log entry 69 reads it. -/
def Obligations.LoadIssue : Prop :=
  ∀ p ∈ [(Instr.ldB, (1 : Nat), true, false), (Instr.ldH, 2, true, false), (Instr.ldW, 4, true, false), (Instr.ldD, 8, true, false),
      (Instr.ldQ, 16, true, false), (Instr.ldO, 32, true, false), (Instr.ldnB, 1, false, false), (Instr.ldnH, 2, false, false),
      (Instr.ldnW, 4, false, false), (Instr.ldWAcq, 4, true, true), (Instr.ldDAcq, 8, true, true)],
  ∀ (s : State) (g : BitVec 4) (d b : BitVec 7) (o : BitVec 8) (base : W64) (ia w : Nat),
    let n : Nat := p.2.1
    let ea := effAddr base (o.toInt * (n : Nat))
    Live s g → Free s (loadRegs d n) → Reads s b base → Passes s false ea n ia w →
    (p.2.2.2 = true → ea % n = 0) →
    exec (p.1 g d b o) s =
      .next (s.beginLoad (.scalar n p.2.2.1 (loadRegs d n)) (loadRegs d n) (sectorPieces 4 ia n) 0 p.2.2.2 false)

/-- R124, R174, R183, R202, R205, R206: an ordered load or store and a bulk store raise cause 0x04 where they are not aligned, and any
access cause 0x05 where no window maps it and cause 0x06 where it leaves the footprint. What trap.info holds is the model's reading: for
cause 0x05 the VA of the access (log entry 22), for cause 0x06 the IA that footprintMiss finds (log entry 76). -/
def Obligations.AccessTraps : Prop :=
  (∀ (s : State) (wr : Bool) (ea n align : Nat) (k : Nat → Nat → State), translate s.pre.wnd ea n = none →
    s.globalCheck wr ea n align k = s.raise 5 (w64 (b2n wr * 2 ^ 63 + ea % 2 ^ 57))) ∧
  (∀ (s : State) (wr : Bool) (ea n align ia w : Nat) (k : Nat → Nat → State), translate s.pre.wnd ea n = some (ia, w) → ea % align ≠ 0 →
    s.globalCheck wr ea n align k = s.raise 4 (w64 (b2n wr * 2 ^ 63 + ea % 2 ^ 57))) ∧
  (∀ (s : State) (wr : Bool) (ea n align ia w x : Nat) (k : Nat → Nat → State), translate s.pre.wnd ea n = some (ia, w) → ea % align = 0 →
    footprintMiss (s.card s.cur) wr ia n = some x → s.globalCheck wr ea n align k = s.raise 6 (w64 (b2n wr * 2 ^ 63 + x % 2 ^ 52))) ∧
  (∀ p ∈ [(Instr.ldWAcq, (4 : Nat), false), (Instr.ldDAcq, 8, false), (Instr.stWRel, 4, true), (Instr.stDRel, 8, true), (Instr.stncD, 8, true)],
    ∀ (s : State) (g : BitVec 4) (d b : BitVec 7) (o : BitVec 8) (base v : W64) (ia w : Nat),
      let ea := effAddr base (o.toInt * (p.2.1 : Nat))
      Live s g → Free s [d.toNat] → Reads s b base → Reads s d v → translate s.pre.wnd ea p.2.1 = some (ia, w) → ea % p.2.1 ≠ 0 →
      exec (p.1 g d b o) s = .next (s.raise 4 (w64 (b2n p.2.2 * 2 ^ 63 + ea % 2 ^ 57)))) ∧
  (∀ p ∈ [(Instr.stncQ, (16 : Nat)), (Instr.stncO, 32)],
    ∀ (s : State) (g : BitVec 4) (d b : BitVec 7) (o : BitVec 8) (base : W64) (vs : List W64) (ia w : Nat),
      let ea := effAddr base (o.toInt * (p.2 : Nat))
      Live s g → Reads s b base → (∀ k : List W64 → State, s.withGroup d (p.2 / 8) k = k vs) → translate s.pre.wnd ea p.2 = some (ia, w) →
      ea % p.2 ≠ 0 → exec (p.1 g d b o) s = .next (s.raise 4 (w64 (2 ^ 63 + ea % 2 ^ 57))))

/-- R51, R183, R187, R193, R195: a store leaves as causal writes, or as stnc writes, one for each sector, ascending; while an
earlier access of its context is out the slot of a release holds, which is how the model lets a release wait (log 12); the split by sector is
R182 as log 69 reads it; a store of 16 or 32 bytes takes a group of registers, lowest first. -/
def Obligations.StoreIssue : Prop :=
  (∀ p ∈ [(Instr.stB, (1 : Nat), MKind.write, false), (Instr.stH, 2, .write, false), (Instr.stW, 4, .write, false), (Instr.stD, 8, .write, false),
       (Instr.stWRel, 4, .write, true), (Instr.stDRel, 8, .write, true), (Instr.stncD, 8, .writeNc, false)],
   ∀ (s : State) (g : BitVec 4) (d b : BitVec 7) (o : BitVec 8) (base v : W64) (ia w : Nat),
     let n : Nat := p.2.1
     let ea := effAddr base (o.toInt * (n : Nat))
     Live s g → Reads s b base → Reads s d v → Passes s true ea n ia w → ((p.2.2.2 = true ∨ p.2.2.1 = .writeNc) → ea % n = 0) →
     exec (p.1 g d b o) s = .next (
       if p.2.2.2 && (s.loadsOut s.cur || s.writesOut s.cur || s.ncOut s.cur) then s.hold
       else (s.issuePieces p.2.2.1 none ia (bytesOf n v.toNat) (sectorPieces 4 ia n)).2)) ∧
  (∀ p ∈ [(Instr.stQ, (16 : Nat), MKind.write), (Instr.stO, 32, .write), (Instr.stncQ, 16, .writeNc), (Instr.stncO, 32, .writeNc)],
   ∀ (s : State) (g : BitVec 4) (d b : BitVec 7) (o : BitVec 8) (base : W64) (vs : List W64) (ia w : Nat),
     let n : Nat := p.2.1
     let ea := effAddr base (o.toInt * (n : Nat))
     Live s g → Reads s b base → (∀ k : List W64 → State, s.withGroup d (n / 8) k = k vs) → Passes s true ea n ia w →
     (p.2.2 = .writeNc → ea % n = 0) →
     exec (p.1 g d b o) s = .next (s.issuePieces p.2.2 none ia ((vs.map (fun v => bytesOf 8 v.toNat)).flatten) (sectorPieces 4 ia n)).2)

/-- R196, R200, R212: ldro misses are performed as loads that fill the read-only cache; a hit is delivered at once, after the key check, and
poisons its destinations with cause 0x16 where the cache's copy is uncorrectable. prf fills the cache alone. That prf's check covers one byte
is the model's choice (log entry 92). -/
def Obligations.ReadOnlyLoadIssue : Prop :=
  (∀ p ∈ [(Instr.ldroW, (4 : Nat)), (Instr.ldroD, 8), (Instr.ldroQ, 16), (Instr.ldroO, 32)],
    ∀ (s : State) (g : BitVec 4) (d b : BitVec 7) (o : BitVec 8) (base : W64) (ia w : Nat),
      let n : Nat := p.2
      let ea := effAddr base (o.toInt * (n : Nat))
      let cached := (sectorsOf ia n).filterMap (fun k => (find? k (s.core s.myCore).roc).map (fun h => (k, h)))
      Live s g → Free s (loadRegs d n) → Reads s b base → Passes s false ea n ia w →
      (cached.length ≠ (sectorsOf ia n).length →
        exec (p.1 g d b o) s = .next (s.beginLoad (.scalar n true (loadRegs d n)) (loadRegs d n) (wholeSectors ia n) (ia % 32) false true)) ∧
      (cached.length = (sectorsOf ia n).length → cached.all (fun h => keyReads s.pre.pkr h.2.2) = true →
        ∀ a, cached.findSome? (fun h => find? h.1 (s.core s.myCore).badRoc) = some a →
        exec (p.1 g d b o) s = .next (s.modMe (fun c => (loadRegs d n).foldl (fun c r => c.poisonReg r ⟨0x16, info16 6 a⟩) c))) ∧
      (cached.length = (sectorsOf ia n).length → cached.all (fun h => keyReads s.pre.pkr h.2.2) = true →
        cached.findSome? (fun h => find? h.1 (s.core s.myCore).badRoc) = none →
        exec (p.1 g d b o) s = .next (s.modMe (fun c =>
          (regValues n true (loadRegs d n) (((cached.map (fun h => h.2.1)).flatten.drop (ia % 32)).take n)).foldl (fun c q => c.setReg q.1 q.2) c)))) ∧
  (∀ (s : State) (g : BitVec 4) (b : BitVec 7) (o : BitVec 8) (base : W64) (ia w : Nat),
    Live s g → Reads s b base → translate s.pre.wnd (effAddr base (o.toInt * 32)) 1 = some (ia, w) → footprintMiss (s.card s.cur) false ia 1 = none →
    PortReady s → exec (.prf g b o) s = .next (s.beginLoad .cacheOnly [] [(ia / 32 * 32, 32)] 0 false true))

/-- R177, R207, R209: the scratchpad forms read and write the task's own scratchpad at once. -/
def Obligations.ScratchpadResult : Prop :=
  ∀ (s : State) (g : BitVec 4) (d b v : BitVec 7) (z : BitVec 2) (o : BitVec 6) (off : BitVec 8) (base : W64) (bs : List Byte) (t : Task) (row : Row),
    let n := 4 * 2 ^ z.toNat
    let ea := effAddr base (o.toInt * (n : Nat))
    let ev := effAddr base (off.toInt * 512)
    Live s g → Reads s b base → s.boundTask s.cur = some t → base.toNat < 2 ^ 22 → PortReady s →
    (ea % n = 0 → ea + n + 16384 ≤ t.spadBytes →
      (Free s (loadRegs d n) → s.spadFaulted ea n = false → s.spadBad s.myCore t ea n = false → exec (.lds g d b z o) s = .next (s.modMe (fun c =>
        (regValues n true (loadRegs d n) (s.spadRead s.myCore t ea n)).foldl (fun c p => c.setReg p.1 p.2) c))) ∧
      (4096 ≤ ea → s.arrayReads s.cur ea n = false → (∀ k : List Byte → State, s.withStoreData d n k = k bs) →
        exec (.sts g d b z o) s = .next (s.spadWrite s.myCore t ea bs))) ∧
    (ev % 32 = 0 → ev + 512 + 16384 ≤ t.spadBytes → s.pre.bound = true →
      (RowFree s v.toNat → s.spadFaulted ev 512 = false → s.spadBad s.myCore t ev 512 = false →
        exec (.vlds g v b off) s = .next (s.writeRow (s.vrow v.toNat) (rowOfBytes (s.spadRead s.myCore t ev 512)) true)) ∧
      (4096 ≤ ev → s.arrayReads s.cur ev 512 = false → RowReads s v.toNat true row →
        exec (.vsts g v b off) s = .next (s.spadWrite s.myCore t ev (rowBytes row))))

/-- An atomic update on its way, with the load of register `reg` that waits for its old value. -/
abbrev Sys2Proof.Claims.atomicSent (s : State) (reg ia n : Nat) (a : Atomic) (acq : Bool) : State :=
  let tok := s.nextId
  let (id, u) := ({ s with nextId := tok + 1 } : State).issue s.cur (.atomic a) (some tok) ia n none []
  let l : Load := { kind := .scalar n true [reg], parts := [(id, 0)], buf := [], denial := none, acquire := acq, ro := false, skip := 0 }
  let u := u.modMe (fun c => { c with loads := put tok l c.loads, pend := if reg = 85 then c.pend else (reg, tok) :: c.pend })
  if reg = 85 then u.claimL5 u.cur tok else u

/-- R197, R199, R210, R211: the atomic updates leave as one request each; amo and cas wait for the old value, xadd for nothing; the scope has
no effect. While an earlier access is out the slot of a release holds (log 12). xget reads a cell as one access of 64 bytes, into eight registers or, rounded,
into one.
That amo and cas need one footprint region of mode rw (rwMiss) is the model's reading, log entry 76. -/
def Obligations.AtomicIssue : Prop :=
  (∀ (s : State) (g c : BitVec 4) (d b : BitVec 7) (o sc : BitVec 2) (wf : BitVec 1) (v v2 base : W64) (ia w : Nat),
     let ea := effAddr base 0
     let sent := fun (n : Nat) (a : Atomic) =>
       if 2 ≤ o.toNat ∧ (s.loadsOut s.cur || s.writesOut s.cur || s.ncOut s.cur) then s.hold else atomicSent s d.toNat ia n a (o.toNat % 2 == 1)
     Live s g → Free s [d.toNat] → Reads s d v → Reads s (d + 1) v2 → Reads s b base → PortReady s →
     (translate s.pre.wnd ea 4 = some (ia, w) → ea % 4 = 0 → footprintMiss (s.card s.cur) true ia 4 = none → rwMiss (s.card s.cur) ia 4 = none →
       s.memFaulted ia 4 = false →
       exec (.amoW g d b c o sc) s = .next (sent 4 (.amo 32 c.toNat (v.toNat % 2 ^ 32))) ∧
       exec (.casW g d b o sc) s = .next (sent 4 (.cas 32 (v.toNat % 2 ^ 32) (v2.toNat % 2 ^ 32)))) ∧
     (translate s.pre.wnd ea 8 = some (ia, w) → ea % 8 = 0 → footprintMiss (s.card s.cur) true ia 8 = none → rwMiss (s.card s.cur) ia 8 = none →
       s.memFaulted ia 8 = false →
       exec (.amoD g d b c o sc) s = .next (sent 8 (.amo 64 c.toNat v.toNat)) ∧
       exec (.casD g d b o sc) s = .next (sent 8 (.cas 64 v.toNat v2.toNat))) ∧
     (translate s.pre.wnd ea 64 = some (ia, w) → ea % 64 = 0 → footprintMiss (s.card s.cur) true ia 64 = none →
       exec (.xadd g d b wf) s = .next (s.issue s.cur (.atomic (.xadd (wf == 1) (if wf = 1 then v.toNat % 2 ^ 32 else v.toNat))) none ia 64 none []).2)) ∧
  (∀ (s : State) (g : BitVec 4) (d b : BitVec 7) (base : W64) (ia w : Nat),
     Live s g → Reads s b base → effAddr base 0 % 64 = 0 → Passes s false (effAddr base 0) 64 ia w →
     (Free s (groupRegs d 8) → exec (.xget g d b 1) s = .next (s.beginLoad (.scalar 64 false (groupRegs d 8)) (groupRegs d 8) [(ia, 64)] 0 false false)) ∧
     (Free s [d.toNat] → exec (.xget g d b 0) s = .next (s.beginLoad (.cell d.toNat) [d.toNat] [(ia, 64)] 0 false false)))

/-- R194, R212: a fence whose conditions hold invalidates the read-only cache and does nothing else; probe with an empty dependency set
writes 0. nop does nothing. -/
def Obligations.FenceResult : Prop :=
  ∀ (s : State) (g : BitVec 4) (sc : BitVec 3) (d : BitVec 7), Live s g →
    (s.ncOut s.cur = false → exec (.fence g 2 sc) s = .next (s.dropRoc s.myCore)) ∧
    ((s.loadsOut s.cur || s.unnumbered s.cur) = false →
      (s.writesOut s.cur = false ∨ sc = 0 → exec (.fence g 0 sc) s = .next (s.dropRoc s.myCore)) ∧
      (s.writesOut s.cur = false → s.ncOut s.cur = false → s.me.deps = [] → exec (.fence g 1 sc) s = .next (s.dropRoc s.myCore))) ∧
    (Free s [d.toNat] → s.me.probeOp = none → s.me.deps = [] → exec (.probe g d) s = .next (s.writeReg d 0)) ∧
    exec .nopMemory s = .next s

/-- R95, R208: vld draws its coins, and leaves as one request for each unit of the row; the row waits for the answers. vst leaves as causal
writes of the converted lanes, one for each unit, in ascending order. -/
def Obligations.RowAccessIssue : Prop :=
  ∀ (s : State) (g : BitVec 4) (v b : BitVec 7) (r : BitVec 3) (f : BitVec 1) (o : BitVec 4) (base : W64) (pf geo : Nat)
    (us : List (Nat × Nat × Option Nat)) (row : Row),
    let t := s.pre.laneType
    let step := if isMX geo then 33 else 32
    let (start, u) := s.draw r.toNat (lanesOf t)
    Live s g → s.pre.bound = true → Reads s b base → PortReady s →
    (RowFree s v.toNat →
      (∀ k : Nat → Nat → List (Nat × Nat × Option Nat) → State, s.rowCheck false (effAddr base (o.toInt * 512)) k = k pf geo us) →
      exec (.vld g v b r f o) s = .next (
        let (parts, q) := ({ u with nextId := u.nextId + 1 } : State).issueUnits .read (some u.nextId) step [] 0 us
        q.modMe (fun c => { c with
          loads := put u.nextId { kind := .row (s.vrow v.toNat) t pf (isMX geo) r.toNat (f == 1) start s.pre.seed.toNat, parts := parts, buf := [],
                                  denial := none, acquire := false, ro := false, skip := 0 } c.loads
          pend := (256 + s.vrow v.toNat, u.nextId) :: c.pend }))) ∧
    (RowReads s v.toNat true row →
      (∀ k : Nat → Nat → List (Nat × Nat × Option Nat) → State, s.rowCheck true (effAddr base (o.toInt * 512)) k = k pf geo us) →
      exec (.vst g v b r f o) s = .next (u.issueUnits .write none step (storeRowBytes t pf (isMX geo) r.toNat (f == 1) s.pre.seed.toNat start row) 0 us).2)

-- S4 and S5 -------------------------------------------------------------------------------------------------------------------

/-- A vector slot acts: its stage gate is within its limits and live (R58, R152), and a tile is bound (R232). -/
abbrev Sys2Proof.Claims.Gated (s : State) (g : BitVec 2) : Prop :=
  s.pre.gateBad g.toNat = false ∧ s.pre.gateLive g.toNat = true ∧ s.pre.bound = true

/-- Lanes of e bytes written to vector register d where a mask enables them, on the state u that a draw has left (R236, R240). -/
abbrev Sys2Proof.Claims.lanesWritten (s u : State) (d : BitVec 7) (e n : Nat) (m : W512) (new : List Nat) : State :=
  u.writeRow (s.vrow d.toNat) (BitVec.ofNat 4096 (ofLanes e (mergeLanes m (rowLanes e n (getD (s.vrow d.toNat) 0 s.preRows)) new))) (everyLane m n)

/-- The state after the draw of a lane-wise instruction, and the draw's start (R100, R242). -/
abbrev Sys2Proof.Claims.drawn (s : State) (rs : Bool) (n : Nat) : Nat × State := s.draw (if rs then 4 else 0) n

/-- R240, R242, R245 to R249, R256: the lane-wise instructions of two rows write, to every enabled lane of d, their function of the lanes of
a and b; under stochastic rounding a float result takes the coin of its lane. -/
def Obligations.VectorTwoRowResult : Prop :=
  ∀ p ∈ [(Instr.vadd, anyFmt, true, fun (s : State) => arithLane 0 s.pre.vecRnd s.pre.vecOvf), (Instr.vsub, anyFmt, true, fun s => arithLane 1 s.pre.vecRnd s.pre.vecOvf),
      (Instr.vmul, anyFmt, true, fun s => arithLane 2 s.pre.vecRnd s.pre.vecOvf), (Instr.vmin, anyFmt, false, fun _ => minmaxLane false),
      (Instr.vmax, anyFmt, false, fun _ => minmaxLane true), (Instr.vclamp, anyFmt, false, fun _ => clampLane),
      (Instr.vand, anyFmt, false, fun _ _ _ x y => x &&& y), (Instr.vor, anyFmt, false, fun _ _ _ x y => x ||| y), (Instr.vxor, anyFmt, false, fun _ _ _ x y => x ^^^ y),
      (Instr.vshl, (fun t => !t.isFloat), false, fun _ => shiftLane 0), (Instr.vshr, (fun t => !t.isFloat), false, fun _ => shiftLane 1),
      (Instr.vsra, (fun t => !t.isFloat), false, fun _ => shiftLane 2)],
  ∀ (s : State) (k : BitVec 3) (g : BitVec 2) (d a b : BitVec 7) (ra rb : Row),
    let t := s.pre.laneFmt
    let n := 512 / t.size
    let m := s.pre.laneMask k.toNat
    let rs := p.2.2.1 && t.isFloat && s.pre.vecRnd == 4
    Gated s g → p.2.1 t = true → RowReads s a.toNat (someLane m n) ra → RowReads s b.toNat (someLane m n) rb → RowFree s d.toNat →
    exec (p.1 k g d a b) s = .next (lanesWritten s (drawn s rs n).2 d t.size n m
      (((rowLanes t.size n ra).zip ((rowLanes t.size n rb).zip (upFrom 0 n))).map (fun q =>
        p.2.2.2 s t (if rs then coin (drawn s rs n).2.pre.seed.toNat ((drawn s rs n).1 + q.2.2) else 0) q.1 q.2.1)))

/-- R252: the same instructions with a scalar operand broadcast to all lanes. -/
def Obligations.VectorScalarResult : Prop :=
  ∀ p ∈ [(Instr.vaddS, anyFmt, true, fun (s : State) => arithLane 0 s.pre.vecRnd s.pre.vecOvf), (Instr.vsubS, anyFmt, true, fun s => arithLane 1 s.pre.vecRnd s.pre.vecOvf),
      (Instr.vmulS, anyFmt, true, fun s => arithLane 2 s.pre.vecRnd s.pre.vecOvf), (Instr.vminS, anyFmt, false, fun _ => minmaxLane false),
      (Instr.vmaxS, anyFmt, false, fun _ => minmaxLane true), (Instr.vclampS, anyFmt, false, fun _ => clampLane),
      (Instr.vandS, anyFmt, false, fun _ _ _ x y => x &&& y), (Instr.vorS, anyFmt, false, fun _ _ _ x y => x ||| y), (Instr.vxorS, anyFmt, false, fun _ _ _ x y => x ^^^ y),
      (Instr.vshlS, (fun t => !t.isFloat), false, fun _ => shiftLane 0), (Instr.vshrS, (fun t => !t.isFloat), false, fun _ => shiftLane 1),
      (Instr.vsraS, (fun t => !t.isFloat), false, fun _ => shiftLane 2)],
  ∀ (s : State) (k : BitVec 3) (g : BitVec 2) (d a b : BitVec 7) (ra : Row) (v : W64),
    let t := s.pre.laneFmt
    let n := 512 / t.size
    let m := s.pre.laneMask k.toNat
    let rs := p.2.2.1 && t.isFloat && s.pre.vecRnd == 4
    Gated s g → p.2.1 t = true → RowReads s a.toNat (someLane m n) ra → Reads s b v → RowFree s d.toNat →
    exec (p.1 k g d a b) s = .next (lanesWritten s (drawn s rs n).2 d t.size n m
      (((rowLanes t.size n ra).zip ((List.replicate n (v.toNat % 2 ^ (8 * t.size))).zip (upFrom 0 n))).map (fun q =>
        p.2.2.2 s t (if rs then coin (drawn s rs n).2.pre.seed.toNat ((drawn s rs n).1 + q.2.2) else 0) q.1 q.2.1)))

/-- R247, R252, R254, R255: the lane-wise instructions of one row: absolute value, negation, move, the functions and the estimates. -/
def Obligations.VectorOneRowResult : Prop :=
  let fn := fun (f : VFun) (t : Fmt) (_ x : Nat) => match t with | .flt q => f.lane q x | _ => x
  ∀ p ∈ [(Instr.vabs, anyFmt, signLane false), (Instr.vneg, anyFmt, signLane true), (Instr.vmov, anyFmt, fun _ _ x => x),
      (Instr.vexp, Fmt.isWide, fn .exp), (Instr.vlog, Fmt.isWide, fn .log), (Instr.vtanh, Fmt.isWide, fn .tanh), (Instr.vsig, Fmt.isWide, fn .sig),
      (Instr.vgelu, Fmt.isWide, fn .gelu), (Instr.vsilu, Fmt.isWide, fn .silu), (Instr.vrsqrt, Fmt.isWide, fn .rsqrt), (Instr.vsqrt, Fmt.isWide, fn .sqrt),
      (Instr.vrcp, Fmt.isWide, fn .rcp), (Instr.vrcpe, Fmt.isWide, fun t _ x => t.enc (rcpEstimate (t.decode x)) 0 true),
      (Instr.vrsqe, Fmt.isWide, fun t _ x => t.enc (rsqrtEstimate (t.decode x)) 0 true)],
  ∀ (s : State) (k : BitVec 3) (g : BitVec 2) (d a : BitVec 7) (ra : Row),
    let t := s.pre.laneFmt
    let n := 512 / t.size
    let m := s.pre.laneMask k.toNat
    Gated s g → p.2.1 t = true → RowReads s a.toNat (someLane m n) ra → RowFree s d.toNat →
    exec (p.1 k g d a) s = .next (lanesWritten s s d t.size n m (((rowLanes t.size n ra).zip (upFrom 0 n)).map (fun q => p.2.2 t q.2 q.1)))

/-- R245, R250, R256: a refinement improves an estimate of the lane, and a zero or an infinite estimate stays; vfma and vfms of a float type
round once, and of an integer type they are the packed dot products on 128 lanes of 32 bits. -/
def Obligations.VectorFmaResult : Prop :=
  (∀ p ∈ [(Instr.vrcpn, rcpStep), (Instr.vrsqn, rsqrtStep)],
   ∀ (s : State) (k : BitVec 3) (g : BitVec 2) (d a b : BitVec 7) (ra rb : Row),
     let t := s.pre.laneFmt
     let n := 512 / t.size
     let m := s.pre.laneMask k.toNat
     Gated s g → t.isWide = true → RowReads s a.toNat (someLane m n) ra → RowReads s b.toNat (someLane m n) rb → RowFree s d.toNat →
     exec (p.1 k g d a b) s = .next (lanesWritten s (drawn s false n).2 d t.size n m
       (((rowLanes t.size n ra).zip ((rowLanes t.size n rb).zip (upFrom 0 n))).map (fun q =>
         let (x, y) := (t.decode q.1, t.decode q.2.1)
         if y.isZero || y.isInf then q.2.1 else if x.isNan || y.isNan then t.enc .nan 0 true else t.enc (p.2 x y) 0 true)))) ∧
  (∀ p ∈ [(Instr.vfma, false, false), (Instr.vfms, true, false), (Instr.vfmaS, false, true), (Instr.vfmsS, true, true)],
   ∀ (s : State) (k : BitVec 3) (g : BitVec 2) (d a b : BitVec 7) (ra rb rd : Row) (v : W64),
     let t := s.pre.laneFmt
     let m := s.pre.laneMask k.toNat
     let lanesB := fun (e n : Nat) => if p.2.2 then List.replicate n (v.toNat % 2 ^ (8 * e)) else rowLanes e n rb
     Gated s g → (p.2.2 = true → Reads s b v) → RowFree s d.toNat →
     (∀ f : FloatFmt, t = .flt f →
       let n := 512 / t.size
       let rs := s.pre.vecRnd == 4
       RowReads s a.toNat (someLane m n) ra → RowReads s d.toNat (someLane m n) rd → (p.2.2 = false → RowReads s b.toNat (someLane m n) rb) →
       exec (p.1 k g d a b) s = .next (lanesWritten s (drawn s rs n).2 d t.size n m
         (((rowLanes t.size n ra).zip ((lanesB t.size n).zip ((rowLanes t.size n rd).zip (upFrom 0 n)))).map (fun q =>
           fmaLane p.2.1 f (drawn s rs n).2.pre.vecRnd (drawn s rs n).2.pre.vecOvf
             (if rs then coin (drawn s rs n).2.pre.seed.toNat ((drawn s rs n).1 + q.2.2.2) else 0) q.1 q.2.1 q.2.2.1)))) ∧
     (∀ (w : Nat) (sg : Bool), t = .int w sg →
       RowReads s a.toNat (someLane m 128) ra → RowReads s d.toNat (someLane m 128) rd → (p.2.2 = false → RowReads s b.toNat (someLane m 128) rb) →
       exec (p.1 k g d a b) s = .next (lanesWritten s s d 4 128 m
         (((rowLanes 4 128 ra).zip ((lanesB 4 128).zip (rowLanes 4 128 rd))).map (fun q => dotGroup p.2.1 t.width sg q.1 q.2.1 q.2.2)))))

/-- R251, R252, R257: vcmp writes a mask register, 0 at lanes that its own mask does not enable; vsel takes a's lane where the mask is set and
b's elsewhere; vbcs broadcasts; vlane writes the lane numbers; vcvt converts the low lanes of a row, and leaves the rest of d as it was. -/
def Obligations.VectorMoveResult : Prop :=
  (∀ (s : State) (k q : BitVec 3) (g : BitVec 2) (c : BitVec 4) (d a b x : BitVec 7) (ra rb : Row) (v : W64),
     let t := s.pre.laneFmt
     let n := 512 / t.size
     let m := s.pre.laneMask k.toNat
     let rs := t.isFloat && s.pre.vecRnd == 4
     let bc := List.replicate n (v.toNat % 2 ^ (8 * t.size))
     let mask := fun (lb : List Nat) => maskOf (((rowLanes t.size n ra).zip (lb.zip (upFrom 0 n))).map (fun z =>
       enabled m z.2.2 && fcmpHolds c.toNat (t.decode z.1) (t.decode z.2.1)))
     Gated s g → RowReads s a.toNat (someLane m n) ra → Reads s x v → RowFree s d.toNat →
     (RowReads s b.toNat (someLane m n) rb → exec (.vcmp k g c q a b) s = .next (s.writeMask q.toNat (mask (rowLanes t.size n rb)))) ∧
     exec (.vcmpS k g c q a x) s = .next (s.writeMask q.toNat (mask bc)) ∧
     (RowReads s b.toNat (!everyLane m n) rb →
       exec (.vsel k g d a b) s = .next (lanesWritten s s d t.size n allLanes (mergeLanes m (rowLanes t.size n rb) (rowLanes t.size n ra)))) ∧
     exec (.vselS k g d a x) s = .next (lanesWritten s s d t.size n allLanes (mergeLanes m bc (rowLanes t.size n ra))) ∧
     exec (.vbcs k g d x) s = .next (lanesWritten s s d t.size n m bc) ∧
     exec (.vlane k g d) s = .next (lanesWritten s (drawn s rs n).2 d t.size n m ((upFrom 0 n).map (fun (j : Nat) => match t with
       | .flt f => (f.encode (.ofInt (j : Int)) (drawn s rs n).2.pre.vecRnd (drawn s rs n).2.pre.vecOvf
           (if rs then coin (drawn s rs n).2.pre.seed.toNat ((drawn s rs n).1 + j) else 0)).1
       | _ => j % 2 ^ t.width)))) ∧
  (∀ (s : State) (k : BitVec 3) (g : BitVec 2) (d a : BitVec 7) (r : BitVec 1) (u : BitVec 6) (ra : Row),
     let t := s.pre.laneFmt
     let v := (fmtOf u.toNat).getD t
     let src := if r = 0 then t else v
     let dst := if r = 0 then v else t
     let n := 512 / Nat.max src.size dst.size
     let m := s.pre.laneMask k.toNat
     let old := (getD (s.vrow d.toNat) 0 s.preRows).toNat
     let w := 8 * dst.size * n
     let rs := s.pre.vecRnd == 4
     let z := (drawn s rs n).2
     Gated s g → laneCodeOk u.toNat = true → RowReads s a.toNat (someLane m n) ra → RowFree s d.toNat →
     exec (.vcvt k g d a r u) s = .next (z.writeRow (s.vrow d.toNat) (BitVec.ofNat 4096 (old / 2 ^ w * 2 ^ w +
       ofLanes dst.size (mergeLanes m (rowLanes dst.size n (BitVec.ofNat 4096 old)) (((rowLanes src.size n ra).zip (upFrom 0 n)).map (fun q =>
         if s.pre.laneType == u.toNat then q.1 else dst.enc (src.decode q.1) z.pre.vecRnd z.pre.vecOvf
           (if rs then coin z.pre.seed.toNat ((drawn s rs n).1 + q.2) else 0)))))) (everyLane m n && w == 4096)))

/-- R258, R259: the permutation, the slides and the sort of the enabled lanes, ascending with every NaN last. -/
def Obligations.VectorPermuteResult : Prop :=
  ∀ (s : State) (k : BitVec 3) (g : BitVec 2) (d a b x : BitVec 7) (ra rb : Row) (v : W64),
    let t := s.pre.laneFmt
    let n := 512 / t.size
    let m := s.pre.laneMask k.toNat
    Gated s g → RowFree s d.toNat → Reads s x v →
    (RowReads s a.toNat (someLane m n) ra → RowReads s b.toNat (someLane m n) rb →
      exec (.vperm k g d a b) s = .next (lanesWritten s s d t.size n m (((rowLanes t.size n rb).zip (upFrom 0 n)).map (fun q =>
        laneN ra.toNat t.size (if n = 512 then 256 * (q.2 / 256) + q.1 else q.1 % n))))) ∧
    (RowReads s a.toNat (someLane (m >>> 1) (n - 1)) ra → RowReads s b.toNat (enabled m 0) rb →
      exec (.vslide k g d a b) s = .next (lanesWritten s s d t.size n m ((upFrom 0 n).map (fun j =>
        if j = 0 then laneN rb.toNat t.size (n - 1) else laneN ra.toNat t.size (j - 1))))) ∧
    (RowReads s a.toNat (someLane m n) ra →
      exec (.vslideS k g d a x) s = .next (lanesWritten s s d t.size n m ((upFrom 0 n).map (fun (j : Nat) =>
        if 0 ≤ (j : Int) - v.toInt ∧ (j : Int) - v.toInt < (n : Int) then laneN ra.toNat t.size ((j : Int) - v.toInt).toNat else 0))) ∧
      exec (.vsort k g d a) s = .next (lanesWritten s s d t.size n m (placeSorted m 0 (rowLanes t.size n ra)
        (sortBy (sortLe t) ((((rowLanes t.size n ra).zip (upFrom 0 n)).filter (fun q => enabled m q.2)).map (fun q => q.1))))))

/-- R260: vred writes the moment summary of the enabled lanes to four registers: counts, extremes, sum and sum of squares. -/
def Obligations.VectorReduceResult : Prop :=
  ∀ (s : State) (k : BitVec 3) (g : BitVec 2) (d a : BitVec 7) (ra : Row),
    let t := s.pre.laneFmt
    let n := 512 / t.size
    let m := s.pre.laneMask k.toNat
    Gated s g → Free s (groupRegs d 4) → RowReads s a.toNat (someLane m n) ra →
    exec (.vred k g d a) s = .next (s.modMe (fun c => ((groupRegs d 4).zip (moments t n m (rowLanes t.size n ra))).foldl (fun c p => c.setReg p.1 p.2) c))

/-- R239, R261: the mask stack holds 16 masks; mpush pushes the top's lanes that a mask register keeps, minv turns to the other lanes of the
level below, mpop pops; mset and mget move masks from and to rows. -/
def Obligations.MaskResult : Prop :=
  ∀ (s : State) (g : BitVec 2) (q : BitVec 3) (d a : BitVec 7) (ra : Row) (top : W512) (rest : List W512),
    let f := s.pre.laneFmt
    let n := 512 / f.size
    let bits01 := maskOf ((rowLanes f.size n ra).map (fun x => x != 0))
    let image := fun (m : W512) => (upFrom 0 n).map (fun j => if enabled m j then 2 ^ (8 * f.size) - 1 else 0)
    Gated s g →
    (s.pre.mstack.length < 16 → exec (.mpush g q) s = .next (s.modMe (fun c => { c with
      mstack := (s.pre.mstack.headD allLanes &&& (if q = 0 then allLanes else s.pre.maskReg q.toNat)) :: s.pre.mstack }))) ∧
    (16 ≤ s.pre.mstack.length → exec (.mpush g q) s = .next s.undefinedEncoding) ∧
    (s.pre.mstack = top :: rest →
      exec (.minv g) s = .next (s.modMe (fun c => { c with mstack := (rest.headD allLanes &&& ~~~top) :: rest })) ∧
      exec (.mpop g) s = .next (s.modMe (fun c => { c with mstack := rest })) ∧
      (RowReads s a.toNat true ra → exec (.mset g 1 q a) s = .next (s.modMe (fun c => { c with mstack := bits01 :: rest })))) ∧
    (RowReads s a.toNat true ra → exec (.mset g 0 q a) s = .next (s.writeMask q.toNat bits01)) ∧
    (RowFree s d.toNat →
      exec (.mget g d 0 q) s = .next (lanesWritten s s d f.size n allLanes (image (if q = 0 then allLanes else s.pre.maskReg q.toNat))) ∧
      exec (.mget g d 1 q) s = .next (lanesWritten s s d f.size n allLanes (image (s.pre.mstack.headD allLanes)))) ∧
    exec .nopVector0 s = .next s ∧ exec .nopVector1 s = .next s

-- S6 --------------------------------------------------------------------------------------------------------------------------

/-- R264, R293: an array instruction whose checks pass enters the queue of its core's array, with the values of its operands, the scratchpad
and the rows it has still to read, and its draw; the first claims the array. mstr first arms 65,536 bytes on its stream's handle (R288). -/
def Obligations.ArrayIssue : Prop :=
  ∀ (s : State) (g : BitVec 4) (a b st : BitVec 7) (l : BitVec 4) (c z r k w : BitVec 1) (n : BitVec 2) (x y : W64) (t : Task)
    (reads : List (Nat × Nat)) (rows : List (Nat × Bool)) (draw : Nat) (img : List Nat),
    let v := (s.core s.myCore).array.view
    let stages := st.toNat * 2
    let hist := r.toNat * 128 + k.toNat * 64 + w.toNat * 32
    let found : ArrayCheck := .ok reads rows draw img
    let enter := fun (s : State) (op ctl : Nat) (x y : W64) => Host.Outcome.next (s.enterArray t op ctl x y img reads rows draw)
    Live s g → s.boundTask s.cur = some t → s.arrayTaken = false → s.arrayFull = false → Reads s a x → Reads s b y →
    (s.mcfgCheck x y = found → exec (.mcfg g a b) s = enter s 1 0 x y) ∧
    (s.cplCheck t v l x = found → exec (.cpl g a l) s = enter s 2 l.toNat x 0) ∧
    (s.mldCheck t v x = found → exec (.mld g a c) s = enter s 3 (c.toNat * 128) x 0) ∧
    (s.mmkCheck t v x y = found → exec (.mmk g a b z) s = enter s 4 (z.toNat * 128) x y) ∧
    (s.mmcCheck t v x y = found → exec (.mmc g a b z) s = enter s 5 (z.toNat * 128) x y) ∧
    (s.mspCheck t v n x y = found → exec (.msp g a b z n) s = enter s 6 (z.toNat * 128 + n.toNat) x y) ∧
    (s.mdpCheck t v x = found → exec (.mdp g a) s = enter s 7 0 x 0) ∧
    (s.mdrCheck t v stages x y = found → exec (.mdr g a b st) s = enter s 8 stages x y) ∧
    (s.mstrCheck t v stages x y = found → exec (.mstr g a b st) s = enter (s.armStream (bits x 47 32)) 9 stages x y) ∧
    (s.mzeroCheck v = found → exec (.mzero g) s = enter s 10 0 0 0) ∧
    (s.mtabCheck t x y = found → exec (.mtab g a b) s = enter s 11 0 x y) ∧
    (s.mhistCheck t r w hist x y = found → exec (.mhist g a b r k w) s = enter s 12 hist x y)

/-- The operand fields of mdr and mstr (R284 to R288). -/
abbrev Sys2Proof.Claims.drainFields (stream : Bool) (stages : Nat) (x y : W64) : Bool :=
  onlyFields x ((if stream then [(47, 32)] else [(1, 0)]) ++ (if stg stages 5 then [(14, 8)] else []) ++ (if stg stages 6 then [(21, 16)] else []) ++
    (if stg stages 4 then [(27, 24)] else [])) && onlyFields y (if stg stages 7 then [(21, 0)] else [])

/-- R291, R292, R296, R300, R301: an array instruction on operands out of its limits raises cause 0x10 with its sub-cause: 0 for a malformed
operand, 1 where the array is not configured, and the others of its list. While the array is another task's the slot waits before any operand is
checked, while its queue is full after the checks: both are the model's choice (log 27). mbind writes vbind,
for a tile that the task holds, or clears it; mst writes the status of the array; mfence completes once the context's earlier array
instructions have; nop does nothing. -/
def Obligations.ArrayControlResult : Prop :=
  (∀ (s : State) (g : BitVec 4) (a b st : BitVec 7) (l : BitVec 4) (c z r k w : BitVec 1) (n : BitVec 2) (x y : W64) (t : Task),
     let v := (s.core s.myCore).array.view
     let stages := st.toNat * 2
     let hist := r.toNat * 128 + k.toNat * 64 + w.toNat * 32
     let sub := fun (q : Nat) => Host.Outcome.next (s.raise 0x10 (info10 q 0 s.bun.word.toNat))
     Live s g → s.boundTask s.cur = some t → Reads s a x → Reads s b y →
     (s.arrayTaken = true → ∀ i ∈ [Instr.mcfg g a b, .cpl g a l, .mld g a c, .mmk g a b z, .mmc g a b z, .msp g a b z n, .mdp g a, .mdr g a b st,
       .mstr g a b st, .mzero g, .mtab g a b, .mhist g a b r k w], exec i s = .next s.hold) ∧
     (s.arrayTaken = false → s.arrayFull = true → configOk x y = true → exec (.mcfg g a b) s = .next s.hold) ∧
     (s.arrayTaken = false → ∀ (q : Nat) (i : W64), ∀ p ∈ [(Instr.mcfg g a b, s.mcfgCheck x y), (.cpl g a l, s.cplCheck t v l x),
       (.mld g a c, s.mldCheck t v x), (.mmk g a b z, s.mmkCheck t v x y), (.mmc g a b z, s.mmcCheck t v x y), (.msp g a b z n, s.mspCheck t v n x y),
       (.mdp g a, s.mdpCheck t v x), (.mdr g a b st, s.mdrCheck t v stages x y), (.mstr g a b st, s.mstrCheck t v stages x y),
       (.mzero g, s.mzeroCheck v), (.mtab g a b, s.mtabCheck t x y), (.mhist g a b r k w, s.mhistCheck t r w hist x y)],
       p.2 = .fault q i → exec p.1 s = .next (s.raise q i)) ∧
     (s.arrayTaken = false →
       (configOk x y = false → exec (.mcfg g a b) s = sub 0) ∧
       (onlyFields x [(21, 0)] = false → exec (.cpl g a l) s = sub 0 ∧ exec (.mdp g a) s = sub 0) ∧
       (onlyFields x [(31, 24), (21, 0)] = false → exec (.mld g a c) s = sub 0) ∧
       ((onlyFields x [(43, 32), (31, 24), (21, 0)] && onlyFields y [(31, 24), (21, 0)]) = false → exec (.mmk g a b z) s = sub 0) ∧
       ((onlyFields x [(38, 32), (21, 16), (15, 8), (1, 0)] && onlyFields y [(31, 24), (21, 0)] && laneCodeOk (bits x 21 16)) = false →
         exec (.mmc g a b z) s = sub 0) ∧
       (n = 3 ∨ (onlyFields x [(43, 32), (31, 24), (21, 0)] && onlyFields y [(53, 32), (31, 24), (21, 0)]) = false → exec (.msp g a b z n) s = sub 0) ∧
       (drainFields false stages x y = false → exec (.mdr g a b st) s = sub 0) ∧
       (drainFields true stages x y = false → exec (.mstr g a b st) s = sub 0) ∧
       ((onlyFields x [(21, 0)] && tableOk y) = false → exec (.mtab g a b) s = sub 0) ∧
       (hist = 0 ∨ (onlyFields x (if r = 1 then [(21, 0)] else []) && onlyFields y (if w = 1 then [(15, 8), (3, 0)] else [(3, 0)])) = false →
         exec (.mhist g a b r k w) s = sub 0)) ∧
     (s.arrayTaken = false → v.cfg = none →
       exec (.mzero g) s = sub 1 ∧
       (onlyFields x [(21, 0)] = true → exec (.cpl g a l) s = sub 1 ∧ exec (.mdp g a) s = sub 1) ∧
       (onlyFields x [(31, 24), (21, 0)] = true → exec (.mld g a c) s = sub 1) ∧
       ((onlyFields x [(43, 32), (31, 24), (21, 0)] && onlyFields y [(31, 24), (21, 0)]) = true → exec (.mmk g a b z) s = sub 1) ∧
       ((onlyFields x [(38, 32), (21, 16), (15, 8), (1, 0)] && onlyFields y [(31, 24), (21, 0)] && laneCodeOk (bits x 21 16)) = true →
         exec (.mmc g a b z) s = sub 1) ∧
       (n ≠ 3 → (onlyFields x [(43, 32), (31, 24), (21, 0)] && onlyFields y [(53, 32), (31, 24), (21, 0)]) = true → exec (.msp g a b z n) s = sub 1) ∧
       (drainFields false stages x y = true → exec (.mdr g a b st) s = sub 1) ∧
       (drainFields true stages x y = true → exec (.mstr g a b st) s = sub 1))) ∧
  (∀ (s : State) (g : BitVec 4) (a : BitVec 7) (k : BitVec 2) (y : BitVec 6) (x : W64) (t : Task), Live s g →
     (Reads s a x → bits x 63 5 = 0 → bits x 2 0 ≤ 4 →
       (bit x 4 = true → exec (.mbind g a 0 0) s = .next (s.modMe (fun c => { c with vbind := 0 }))) ∧
       (bit x 4 = false → laneCodeOk y.toNat = true → s.boundTask s.cur = some t → k.toNat < t.tiles.length →
         exec (.mbind g a k y) s = .next (s.modMe (fun c =>
           { c with vbind := w64 (2 ^ 63 + bits x 3 3 * 2 ^ 16 + bits x 2 0 * 2 ^ 13 + k.toNat * 2 ^ 8 + y.toNat) })))) ∧
     (a.toNat < 64 → Free s [a.toNat] → exec (.mst g a) s = .next (s.writeReg a s.arrayStatus)) ∧
     ((s.core s.myCore).array.queue.any (fun q => some q.2.tag.u == s.me.task && s.before q.1) = false → exec (.mfence g) s = .next s) ∧
     exec .nopArray s = .next s)

-- S7 --------------------------------------------------------------------------------------------------------------------------

/-- The context runs a task, no acquire of its is out, and the guard is true: an engine command goes on to its checks (R49, R192). -/
abbrev Sys2Proof.Claims.Ready (s : State) (g : BitVec 4) (t : Task) : Prop :=
  Live s g ∧ s.boundTask s.cur = some t ∧ s.acquireOut s.cur = false

/-- The object of the handle is good and its count takes n more bytes; handle 255 counts nothing (R26, R36, R216). -/
abbrev Sys2Proof.Claims.CanArm (s : State) (t : Task) (h : BitVec 8) (n : Nat) : Prop :=
  h.toNat = 255 ∨ s.spadBad s.myCore t (16 * h.toNat) 16 = false ∧ (s.barrier s.myCore t h.toNat).exp + n ≤ maxCount

/-- The state in which a command of n bytes has issued, before it enters its queue: its bytes armed, or l5 claimed (R26, R216). -/
abbrev Sys2Proof.Claims.armed (s : State) (t : Task) (h : BitVec 8) (n draw : Nat) : State :=
  let u := (s.newTag t h.toNat draw).2
  if h.toNat = 255 then u.claimL5 u.cur (s.newTag t h.toNat draw).1.tok else u.updateBarrier u.myCore t h.toNat (fun b => b.arm n)

/-- Scratchpad that a command may name (R155, R177). -/
abbrev Sys2Proof.Claims.Spad (t : Task) (a n align : Nat) (page : Bool) : Prop :=
  a % align = 0 ∧ a < 2 ^ 22 ∧ a + n + 16384 ≤ t.spadBytes ∧ (page = true ∨ 4096 ≤ a)

/-- Parameters of a command: scratchpad that it may name, the barrier page among it, without an uncorrectable error (R36, R155, R177). -/
abbrev Sys2Proof.Claims.Params (s : State) (t : Task) (a n align : Nat) : Prop := Spad t a n align true ∧ s.spadBad s.myCore t a n = false

/-- A side of a copy passes the checks of R219 and lies at x: scratchpad; or one window maps its whole extent, `back` bytes of it before its base,
and the footprint covers it, the scales of an mx.apart side among it. -/
abbrev Sys2Proof.Claims.SideAt (s : State) (t : Task) (wr scratch apart : Bool) (a back len : Nat) (x : Side) : Prop :=
  if scratch then back ≤ a ∧ Spad t (a - back) len 1 false ∧ x = ⟨a, 0, a - back, len⟩
  else back ≤ a ∧ (if apart then
    ∃ w w' ia', windowOf s.pre.wnd a = some w ∧
      (let ia := windowIA s.pre.wnd w a
       let r := apartRange ia len (windowSD s.pre.wnd w)
       ia ≤ a + r.1 ∧ translate s.pre.wnd (a + r.1 - ia) r.2 = some (ia', w') ∧ footprintMiss t.card wr ia' r.2 = none ∧
         x = ⟨ia, windowSD s.pre.wnd w, r.1, r.2⟩)
   else ∃ ia w, translate s.pre.wnd (a - back) len = some (ia, w) ∧ footprintMiss t.card wr ia len = none ∧ x = ⟨ia + back, windowSD s.pre.wnd w, ia, len⟩)

/-- R42, R219, R223: a copy whose descriptor, channel and extents pass enters its channel's queue, with the bytes of its destination armed;
while that queue holds 16, the slot holds. -/
def Obligations.CopyIssue : Prop :=
  ∀ p ∈ [(Instr.cpy, (1 : Nat)), (Instr.cpyt, 2), (Instr.cpyx, 3), (Instr.cpyc, 4)],
  ∀ (s : State) (g : BitVec 4) (a b : BitVec 7) (h : BitVec 8) (av bv : W64) (t : Task) (from_ to_ : Side),
    let kind := p.2
    let n := if kind = 2 then 256 else 64
    let ws := wordsOf (n / 8) (s.spadRead s.myCore t av.toNat n)
    let w2 := wordN ws 2
    let src := s.copyFmt kind (descSx ws) (bits w2 59 54) (bits w2 53 50) (descSrc ws)
    let dst := s.copyFmt kind (descDx ws) (bits w2 48 43) (bits w2 42 39) (descDst ws)
    let ext := copyExtents kind ws (descSrc ws) (descDst ws) src.1 src.2 dst.1 dst.2
    let total := copyTotal kind ws dst.1 dst.2
    let drawn := s.draw (if kind == 4 then descRnd ws else 0) (descLen ws)
    let m : CopyCmd := { tag := (drawn.2.newTag t h.toNat drawn.1).1, node := false, words := ws, sbase := from_.base, dbase := to_.base, ssd := from_.sd, dsd := to_.sd,
                         sfmt := src.1, sgeo := src.2, dfmt := dst.1, dgeo := dst.2, dlo := to_.lo, dlen := to_.len, run := false, pos := 0, ahead := [], cred := 0, fault := none }
    let u := armed drawn.2 t h total drawn.1
    Ready s g t → Reads s a av → Reads s b bv → bv.toNat < 2 → Params s t av.toNat n 64 → copyWordsOk kind false ws = true →
    (kind = 4 → (isMX src.2 || isMX dst.2) = true → descLen ws % 32 = 0) →
    (kind = 4 → sideStartOk src.2 (descSrc ws) = true ∧ sideStartOk dst.2 (descDst ws) = true) →
    SideAt s t false (descSk ws) (kind == 4 && src.2 == 2) (descSrc ws) ext.1.1 ext.1.2 from_ →
    SideAt s t true (descDk ws) (kind == 4 && dst.2 == 2) (descDst ws) ext.2.1 ext.2.2 to_ →
    CanArm s t h total →
    exec (p.1 g a b h) s = .next (if 16 ≤ (s.channel s.myCore bv.toNat).cmds.length then s.hold
      else u.setChannel u.myCore bv.toNat { u.channel u.myCore bv.toNat with cmds := put m.tag.tok m (u.channel u.myCore bv.toNat).cmds })

/-- R216, R217: barm arms n more bytes, or sets the count and the arrivals of a barrier object anew; barr arrives n bytes; bq reads the status of
a channel and clears its fault. An object with an uncorrectable error raises cause 0x16 and is not updated (R36; that it is met at issue is
log entry 80). nop does nothing. -/
def Obligations.BarrierResult : Prop :=
  ∀ (s : State) (g : BitVec 4) (a b : BitVec 7) (h : BitVec 8) (n m : W64) (t : Task), Ready s g t → Reads s a n → Reads s b m →
    (h ≠ 255 → n.toNat < 2 ^ 48 → s.spadBad s.myCore t (16 * h.toNat) 16 = true →
      (m = 0 ∨ m = 1 → ∃ at_, exec (.barm g a b h) s = .next (s.raise 0x16 (info16 3 at_))) ∧
      ∃ at_, exec (.barr g a h) s = .next (s.raise 0x16 (info16 3 at_))) ∧
    (h ≠ 255 → n.toNat < 2 ^ 48 → s.spadBad s.myCore t (16 * h.toNat) 16 = false →
      (m = 0 → (s.barrier s.myCore t h.toNat).exp + n.toNat < 2 ^ 48 →
        exec (.barm g a b h) s = .next (s.updateBarrier s.myCore t h.toNat (fun x => x.arm n.toNat))) ∧
      (m = 1 → exec (.barm g a b h) s = .next (s.updateBarrier s.myCore t h.toNat (fun x => (⟨x.ph, 0, false, n.toNat⟩ : Barrier).test))) ∧
      exec (.barr g a h) s = .next (s.updateBarrier s.myCore t h.toNat (fun x => x.arrive n.toNat))) ∧
    (n.toNat < 2 → exec (.bq g a) s = .next (s.atOnceL5 (s.channel s.myCore n.toNat).status)) ∧
    (2 ≤ n.toNat → n.toNat < 4 →
      let x := s.channel s.myCore (n.toNat - 2)
      exec (.bq g a) s = .next ((s.atOnceL5 x.status).setChannel (s.atOnceL5 x.status).myCore (n.toNat - 2)
        { x with flt := false, sub := 0, fctx := 0, fh := 0, fcnt := 0, off := 0 })) ∧
    exec .nopEngine s = .next s

/-- R216: after every update of a barrier object, when its count is not 0 and the arrivals have reached it, the counts are cleared, the phase
flips, and more arrivals than the count set ovr. An arrival past 2^48 − 1 leaves arr there and sets ovr. An arming past 2^48 − 1 is refused
with cause 0x11, sub-cause 6, and arms nothing. -/
def Obligations.BarrierUpdate : Prop :=
  (∀ (b : Barrier) (n : Nat),
    (b.arr + n < 2 ^ 48 →
      (b.exp = 0 ∨ b.arr + n < b.exp → b.arrive n = ⟨b.ph, b.arr + n, b.ovr, b.exp⟩) ∧
      (b.exp ≠ 0 → b.arr + n = b.exp → b.arrive n = ⟨!b.ph, 0, b.ovr, 0⟩) ∧
      (b.exp ≠ 0 → b.exp < b.arr + n → b.arrive n = ⟨!b.ph, 0, true, 0⟩)) ∧
    (2 ^ 48 ≤ b.arr + n →
      (b.exp = 0 → b.arrive n = ⟨b.ph, 2 ^ 48 - 1, true, 0⟩) ∧
      (b.exp ≠ 0 → b.exp < 2 ^ 48 → b.arrive n = ⟨!b.ph, 0, true, 0⟩)) ∧
    (b.exp + n = 0 ∨ b.arr < b.exp + n → b.arm n = ⟨b.ph, b.arr, b.ovr, b.exp + n⟩) ∧
    (b.exp + n ≠ 0 → b.arr = b.exp + n → b.arm n = ⟨!b.ph, 0, b.ovr, 0⟩) ∧
    (b.exp + n ≠ 0 → b.exp + n < b.arr → b.arm n = ⟨!b.ph, 0, true, 0⟩)) ∧
  (∀ (s : State) (t : Task) (h : BitVec 8) (total draw : Nat) (info : W64) (k : Tag → State → State), h ≠ 255 →
    s.spadBad s.myCore t (16 * h.toNat) 16 = false → 2 ^ 48 ≤ (s.barrier s.myCore t h.toNat).exp + total → s.issueCommand t h total draw info k = s.raise 0x11 info) ∧
  (∀ (s : State) (g : BitVec 4) (a b : BitVec 7) (h : BitVec 8) (n : W64) (t : Task), Ready s g t → Reads s a n → Reads s b 0 → h ≠ 255 →
    n.toNat < 2 ^ 48 → s.spadBad s.myCore t (16 * h.toNat) 16 = false → 2 ^ 48 ≤ (s.barrier s.myCore t h.toNat).exp + n.toNat →
    exec (.barm g a b h) s = .next (s.raise 0x11 (info11 6 0 h.toNat s.bun.word.toNat)))

/-- What the operands of a Survey command name passes the checks of R328: the scratchpad areas, and the global summary, at `ia`. -/
abbrev Sys2Proof.Claims.SurveyOk (s : State) (t : Task) (x : SurveySpec) (ia : Nat) : Prop :=
  (∀ r ∈ x.2.1, r.off % r.align = 0 ∧ t.usable r.off r.len = true) ∧ x.2.2.2 = false ∧
  (match x.2.2.1 with
   | none => ia = 0
   | some (va, n, rw) => va % n = 0 ∧ (∃ w, translate s.pre.wnd va n = some (ia, w)) ∧ (if rw then rwMiss t.card ia n else footprintMiss t.card false ia n) = none)

/-- R322, R323, R328: a Survey command whose operands pass enters the queue of its core's Survey, unless that holds 8. -/
def Obligations.SurveyIssue : Prop :=
  ∀ (s : State) (g : BitVec 4) (a b : BitVec 7) (h : BitVec 8) (x y : W64) (t : Task) (ia : Nat),
    let enter := fun (op : Nat) (bv : W64) (spec : SurveySpec) (r : Host.Outcome State Fault Refusal) =>
      SurveyOk s t spec ia → CanArm s t h spec.1 →
      let u := armed s t h spec.1 0
      let tag := (s.newTag t h.toNat 0).1
      let m : SurveyCmd := { tag := tag, op := op, av := x, bv := bv, ia := ia, total := spec.1, sent := none, answer := none }
      r = .next (u.modCore u.myCore (fun k => { k with survey := put tag.tok m k.survey }))
    Ready s g t → Reads s a x → Reads s b y → ((s.core s.myCore).survey.filter (fun q => q.2.sent.isNone)).length < 8 →
    enter 0x08 y (qinitSpec x) (exec (.qinit g a b h) s) ∧
    enter 0x09 y (insertSpec h 4096 true [(30, 30)] x y) (exec (.qadd g a b h) s) ∧
    enter 0x0A y (mergeSpec 4096 64 4096 x y) (exec (.qmerge g a b h) s) ∧
    enter 0x0B y (qmergeatSpec x y) (exec (.qmergeat g a b h) s) ∧
    enter 0x0C y (qquerySpec h x y) (exec (.qquery g a b h) s) ∧
    enter 0x0D y (mergeSpec 32 32 32 x y) (exec (.mmerge g a b h) s) ∧
    enter 0x10 0 (initSpec 2048 x) (exec (.hinit g a h) s) ∧
    enter 0x11 y (insertSpec h 2048 false [] x y) (exec (.hadd g a b h) s) ∧
    enter 0x12 y (mergeSpec 2048 64 2048 x y) (exec (.hmerge g a b h) s) ∧
    enter 0x13 y (htopSpec x y) (exec (.htop g a b h) s) ∧
    enter 0x14 y (initSpec 4096 x) (exec (.dinit g a b h) s) ∧
    enter 0x15 y (insertSpec h 4096 true [(28, 28)] x y) (exec (.dadd g a b h) s) ∧
    enter 0x16 y (mergeSpec 4096 64 4096 x y) (exec (.dmerge g a b h) s) ∧
    enter 0x17 0 (destSpec h x) (exec (.dest g a h) s)

/-- R337, R349: a state-store command whose operands pass enters the queue of its die's state store; while a commit of its task is out, its
slot holds. -/
def Obligations.StateStoreIssue : Prop :=
  ∀ (s : State) (g : BitVec 4) (a b : BitVec 7) (h : BitVec 8) (x y : W64) (t : Task),
    let enter := fun (op : Nat) (h : BitVec 8) (bv : W64) (spec : StoreSpec) (r : Host.Outcome State Fault Refusal) =>
      spec.2.2 = false → (∀ q ∈ spec.2.1, q.off % q.align = 0 ∧ t.usable q.off q.len = true) → CanArm s t h spec.1 →
      let u := armed s t h spec.1 0
      let tag := (s.newTag t h.toNat 0).1
      r = .next (if s.commitOut then s.hold else u.modStore u.myDie (fun k => { k with queue := put tag.tok ⟨tag, op, x, bv, spec.1⟩ k.queue }))
    Ready s g t → Reads s a x → Reads s b y →
    enter 0x18 h y (stopenSpec x y) (exec (.stopen g a b h) s) ∧
    enter 0x19 h y (stldSpec x y) (exec (.stld g a b h) s) ∧
    enter 0x1A h y (ststSpec x y) (exec (.stst g a b h) s) ∧
    enter 0x1B h 0 (stmarkSpec x) (exec (.stmark g a h) s) ∧
    enter 0x1C h y (stbackSpec h x y) (exec (.stback g a b h) s) ∧
    enter 0x1D h y (stforkSpec h x y) (exec (.stfork g a b h) s) ∧
    enter 0x1E h y (stpinSpec x y) (exec (.stpin g a b h) s) ∧
    enter 0x1F h 0 (stcloseSpec x) (exec (.stclose g a h) s) ∧
    enter 0x20 255 y (stqSpec x y) (exec (.stq g a b) s)

/-- The queue of the index engine with one more command (R381). -/
abbrev Sys2Proof.Claims.indexed (s : State) (t : Task) (h : BitVec 8) (op total : Nat) (av bv : W64) (desc : List W64) (z left : Nat) : State :=
  let u := armed s t h total 0
  let tag := (s.newTag t h.toNat 0).1
  u.modIndex u.myCore (fun x => { x with queue := put tag.tok ⟨tag, freeSlot x.queue, op, s.bun.word.toNat, av, bv, desc, z, 0, [], left, 0, false⟩ x.queue })

/-- R383, R384, R391, R393, R395, R396: gath, scat and scata read their descriptor at issue and enter the queue of the core's index engine with
their elements still to come; the fault-queue and work-list commands enter the same queue. -/
def Obligations.IndexIssue : Prop :=
  (∀ p ∈ [(Instr.gath, (0x28 : Nat)), (Instr.scat, 0x29), (Instr.scata, 0x2A)],
   ∀ (s : State) (g : BitVec 4) (a : BitVec 7) (h : BitVec 8) (x : W64) (t : Task),
     let ws := wordsOf 4 (s.spadRead s.myCore t x.toNat 32)
     let n := ixCnt ws
     let st := ixStride p.2 ws
     let al := if p.2 = 0x2A then ixW ws else 4
     Ready s g t → Reads s a x → bits x 63 22 = 0 → Params s t x.toNat 32 32 → Spad t (ixList ws) (n * ixWidth ws) (ixWidth ws) false →
     Spad t (ixData ws) (n * st) al false → ixOk p.2 ws = true → (s.core s.myCore).index.queue.length < 16 → CanArm s t h (n * ixSize ws) →
     exec (p.1 g a h) s = .next (indexed s t h p.2 (n * ixSize ws) x 0 ws 0 n)) ∧
  (∀ (s : State) (g : BitVec 4) (a b : BitVec 7) (h : BitVec 8) (x y : W64) (t : Task),
     let z := s.wlSize s.myCore t (s.pre.task.getD 0) (wnHdr x)
     let n := bits x 50 44 + 1
     let row := bits x 43 22
     Ready s g t → Reads s a x → Reads s b y → (s.core s.myCore).index.queue.length < 16 →
     (1 ≤ y.toNat → y.toNat ≤ 1024 → bits x 63 22 = 0 → Spad t x.toNat (16 * y.toNat) 16 false → CanArm s t h (16 * y.toNat) →
       exec (.fqread g a b h) s = .next (indexed s t h 0x2B (16 * y.toNat) x y [] 0 0)) ∧
     (y = 0 → x = 0 → exec (.fqread g a b 255) s = .next (indexed s t 255 0x2B 0 x y [] 0 0)) ∧
     (selOk x = true → exec (.frep g a) s = .next (indexed s t 255 0x2C 0 x 0 [] 0 0) ∧ exec (.fdrop g a b) s = .next (indexed s t 255 0x2D 0 x y [] 0 0)) ∧
     (wnOk x y = true → (y = 0 ∨ (bits y 56 0 % 4096 = 0 ∧ ∃ ia w, translate s.pre.wnd (bits y 56 0) (wnSize x * 2 ^ bits y 62 57) = some (ia, w) ∧
         rwMiss t.card ia (wnSize x * 2 ^ bits y 62 57) = none)) → wnRing x % 64 = 0 → Spad t (wnHdr x) 64 64 false → Spad t (wnRing x) (wnSize x * 2 ^ wnCap x) 64 false → CanArm s t h 64 →
       exec (.wlnew g a b h) s = .next (indexed s t h 0x30 64 x y [] 0 0)) ∧
     (bits x 63 51 = 0 → n * z ≤ 512 → Spad t (wnHdr x) 64 64 false → Spad t row 512 32 false →
       (CanArm s t h (n * z) → exec (.wlpush g a h) s = .next (indexed s t h 0x31 (n * z) x 0 [] z 0) ∧
         (bits y 63 57 = 0 → exec (.wlins g a b h) s = .next (indexed s t h 0x33 (n * z) x y [] z n))) ∧
       (CanArm s t h 512 → exec (.wlpop g a h) s = .next (indexed s t h 0x32 512 x 0 [] z 0))) ∧
     (bits x 63 22 = 0 → Spad t x.toNat 64 64 false → exec (.wlstat g a) s = .next (indexed s t 255 0x34 0 x 0 [] 0 0)))

/-- The home agent of the core's die takes a command of the core next: no request that is waiting has its core's turn before it (R16). -/
abbrev Sys2Proof.Claims.HaFirst (s : State) : Prop :=
  roundRobin (s.die s.myDie).haLast (s.migQueue s.myDie ++ [(s.nextId, s.myCore % 64)]) = some s.nextId

/-- The state in which it has taken it: the turns go on from the core (R16). -/
abbrev Sys2Proof.Claims.haTurn (s : State) : State := s.modDie s.myDie (fun q => { q with haLast := s.myCore % 64 })

/-- A home-agent command that completes when it is taken, in state v, with a code and a value: its 8 bytes are armed and credited, or l5 takes its
status (R374, R375). -/
abbrev Sys2Proof.Claims.haDone (v : State) (t : Task) (h : BitVec 8) (code val : Nat) : State :=
  let tag := (v.newTag t h.toNat 0).1
  ((armed v t h 8 0).credit tag 8).reportL5 tag (haStatus code val)

/-- R374 to R380: mig starts a migration of the pages it names; pkset sets the rights of a key that the graph allows; own reads the owner of a
page; ocinv forgets gazetteer entries; lrenew renews the leases of its task. mig and ocinv in task mode raise cause 0x03; malformed operands
end a command with code 1. That own, ocinv and lrenew
wait at issue for their core's turn, and that own of a page homed here and ocinv then complete at once (log 42), and that mig ends with code 1 on VA bits 63:57
before R376's 0x05 (log 41), are the model's choices. -/
def Obligations.HomeAgentResult : Prop :=
  (∀ (s : State) (g : BitVec 4) (a b : BitVec 7) (h : BitVec 8) (x y : W64) (t : Task) (es : List (Nat × Nat)) (ia w : Nat),
     let tag := (s.newTag t h.toNat 0).1
     let v := haTurn s
     Ready s g t → Reads s a x → Reads s b y → CanArm s t h 8 →
     (s.sysMode s.cur = true →
       (bits x 63 57 = 0 → onlyFields y [(10, 0), (20, 16), (47, 24), (63, 63)] = true → translateAll s.pre.wnd (migExtents x y) = .inl es →
         bits x 15 0 = 0 → anyModeMiss t.card es = none → exec (.mig g a b h) s = .next (
           let u := armed s t h 8 0
           let m : Mig := { tag := tag, pages := ((es.map (fun e => upFrom (e.1 / 65536) (e.2 / 65536))).flatten).eraseDups, src := 0, dst := u.dieAt u.myDie (bits y 10 0), phase := 0,
                            rounds := 0, dirty := [], copied := 0, frozenAt := 0, frames := [], tables := [], code := 0 }
           { u with migs := put tag.tok m u.migs })) ∧
       (HaFirst s →
         (y = 1 → x = 0 → exec (.ocinv g a b h) s = .next (haDone (v.modDie s.myDie (fun k => { k with gaz := [] })) t h 0 (s.die s.myDie).gaz.length)) ∧
         (y = 0 → onlyFields x [(56, 16)] = true → translate s.pre.wnd x.toNat 1 = some (ia, w) →
           (pageFind? Gaz.big (ia / 65536) (s.die s.myDie).gaz = none → exec (.ocinv g a b h) s = .next (haDone v t h 0 0)) ∧
           (∀ p e, pageFind? Gaz.big (ia / 65536) (s.die s.myDie).gaz = some (p, e) →
             exec (.ocinv g a b h) s = .next (haDone (v.modDie s.myDie (fun k => { k with gaz := del p k.gaz })) t h 0 1)))) ∧
       (¬ HaFirst s → y = 1 → x = 0 → exec (.ocinv g a b h) s = .next s.hold)) ∧
     (x.toNat < 32 → y.toNat < 4 →
       let r := y.toNat &&& (if t.sys then 3 else bits (s.graphKeys s.cur t) (2 * x.toNat + 1) (2 * x.toNat))
       exec (.pkset g a b) s = .next ((s.modMe (fun c => { c with pkr := w64 (setBitsN c.pkr.toNat (2 * x.toNat + 1) (2 * x.toNat) r) })).atOnceL5
         (haStatus 0 (x.toNat * 4 + r)))) ∧
     (bits x 63 57 = 0 → translate s.pre.wnd x.toNat 1 = some (ia, w) →
       (∀ o, s.gazFresh s.myDie ia = some o → exec (.own g a) s = .next (if HaFirst s then v.atOnceL5 (haStatus 0 (v.dieId o)) else s.hold)) ∧
       (s.gazFresh s.myDie ia = none →
         (s.serving (s.homeOf s.myDie ia) = false ∨ ¬ HaFirst s → exec (.own g a) s = .next s.hold) ∧
         (s.serving (s.homeOf s.myDie ia) = true → HaFirst s →
           let u := v.wake (v.homeOf v.myDie ia)
           (v.homeRec? v.myDie ia = none → exec (.own g a) s = .next (u.atOnceL5 (haStatus 5 0))) ∧
           (∀ p r, v.homeRec? v.myDie ia = some (p, r) → exec (.own g a) s = .next ((u.gazFill v.myDie p r.owner r.big).atOnceL5
             (haStatus 0 (b2n r.migrating * 2 ^ 17 + 2 ^ 16 + v.dieId r.owner))))))) ∧
     exec (.lrenew g h) s = .next (if HaFirst s then
       let u := armed v t h 8 0
       u.modTask u.myDie tag.u (fun t => { t with renews := t.renews ++ [(tag, false)] }) else s.hold)) ∧
  (∀ (s : State) (g : BitVec 4) (a b : BitVec 7) (h : BitVec 8) (x y : W64) (t : Task), Live s g →
     (s.sysMode s.cur = false → exec (.mig g a b h) s = .next (s.raise 3 s.slotInfo) ∧ exec (.ocinv g a b h) s = .next (s.raise 3 s.slotInfo)) ∧
     (Ready s g t → Reads s a x → Reads s b y →
     (s.sysMode s.cur = true → CanArm s t h 8 → HaFirst s →
       (bits x 63 57 ≠ 0 → exec (.mig g a b h) s = .next (haDone (haTurn s) t h 1 0)) ∧
       (2 ≤ y.toNat → exec (.ocinv g a b h) s = .next (haDone (haTurn s) t h 1 0))) ∧
     (32 ≤ x.toNat ∨ 4 ≤ y.toNat → exec (.pkset g a b) s = .next (s.atOnceL5 (haStatus 1 0))) ∧
     (bits x 63 57 ≠ 0 → HaFirst s → exec (.own g a) s = .next ((haTurn s).atOnceL5 (haStatus 1 0)))))

/-- R441, R445 to R447: hnote writes an entry of kind 3 into a ring of its package, unless the ring is full or the access tables deny the write, and
hintr sends the ring's interrupt; either credits 8 bytes in every case and ends with the code of what it found. That the access table of the ring's
port die is the one asked (log entry 63), and that a denied write ends with code 3 (log entry 64), are the model's readings. -/
def Obligations.HostResult : Prop :=
  ∀ (s : State) (g : BitVec 4) (a b : BitVec 7) (h : BitVec 8) (x y : W64) (t : Task),
    let pk := s.myDie / 4
    let tag := (s.newTag t h.toNat 0).1
    let u := armed s t h 8 0
    let ring := (s.pkg pk).ring y.toNat
    let e : RingEntry := ⟨y.toNat, 3, s.dieId s.myDie, [x, s.ctxId s.cur, w64 t.ia]⟩
    Ready s g t → Reads s a x → Reads s b y → CanArm s t h 8 →
    (s.hostCode t y ≠ 0 → exec (.hnote g a b h) s = .next (u.endHost tag (s.hostCode t y) 0)) ∧
    (s.hostCode t y = 0 → ring.full = true → exec (.hnote g a b h) s = .next ((u.modPkg pk (fun p => p.dropEntry y.toNat)).endHost tag 3 0)) ∧
    (s.hostCode t y = 0 → ring.full = false → u.entryGranted pk e = true →
      exec (.hnote g a b h) s = .next ((u.modPkg pk (fun p => p.writeEntry u.tick e)).endHost tag 0 ring.tail)) ∧
    (s.hostCode t y = 0 → ring.full = false → u.entryGranted pk e = false → exec (.hnote g a b h) s = .next
      (((u.modPkg pk (fun p => p.dropEntry y.toNat)).denied (u.ringDie pk y.toNat) (40 + s.myDie % 4) ring.entryAt).endHost tag 3 0)) ∧
    (s.hostCode t x ≠ 0 → exec (.hintr g a h) s = .next (u.endHost tag (s.hostCode t x) 0)) ∧
    (s.hostCode t x = 0 → exec (.hintr g a h) s = .next ((u.modPkg pk (fun p => p.interrupt x.toNat)).endHost tag 0 0))

/-- The collective engine's queue with one more command (R409, R430, R431). -/
abbrev Sys2Proof.Claims.collected (s : State) (t : Task) (h : BitVec 8) (op : Nat) (av bv : W64) (grp total : Nat) (rej : Bool) (f : ColCmd → ColCmd) : State :=
  let d := s.myDie
  let u := armed s t h (if rej then 0 else total) 0
  let tag := (s.newTag t h.toNat 0).1
  let x := u.grp d grp
  let takes := numbered op && u.isMember grp
  let m := f (ColCmd.blank tag op u.bun.word.toNat av bv grp x)
  let m := { m with rej := rej, total := if rej then 0 else total, seq := if takes then x.seq else 0 }
  let u := if takes then u.setGrp d grp { x with seq := (x.seq + 1) % 2 ^ 32 } else u
  u.modColl d (fun c => { c with queue := put tag.tok m c.queue })

/-- A local extent of a collective command passes the checks of R431 and lies at base b: usable scratchpad, or global memory that one window maps
and the footprint covers. -/
abbrev Sys2Proof.Claims.ColBase (s : State) (t : Task) (wr scratch : Bool) (a n b : Nat) : Prop :=
  n ≠ 0 ∧ (if scratch then Spad t a n 1 false ∧ b = a else ∃ w, translate s.pre.wnd a n = some (b, w) ∧ footprintMiss t.card wr b n = none)

/-- What copen's second operand names passes R431: no region, or one that a window maps and a footprint region of mode rw covers. -/
abbrev Sys2Proof.Claims.Region (s : State) (t : Task) (y : W64) (region : Option (Nat × Nat)) : Prop :=
  if bit y 63 then
    let n := (bits y 15 0 + 1) * 65536
    ∃ ia w, translate s.pre.wnd (bits y 56 16 * 65536) n = some (ia, w) ∧ rwMiss t.card ia n = none ∧ region = some (ia, n)
  else region = none

/-- R408, R409, R416 to R424, R426, R431: collectives and transfers of a member enter the queue of their die's collective engine, a collective
under the group's next sequence number; copen makes its task the member of a group, with its receive region and its latches, or ends its
membership; cstr opens a stream of the core or closes it; a malformed command enters the queue rejected and arms nothing. That copen's
membership is settled at issue, and that a transfer descriptor is aligned to 32 bytes (log 43), and when the latches are bound (log 45), are
the model's choices. -/
def Obligations.CollectiveIssue : Prop :=
  (∀ (s : State) (g : BitVec 4) (a b : BitVec 7) (h : BitVec 8) (x y : W64) (t : Task),
     let ws := wordsOf 8 (s.spadRead s.myCore t x.toNat 64)
     let td := wordsOf 4 (s.spadRead s.myCore t x.toNat 32)
     Ready s g t → Reads s a x → Reads s b y → collectives (s.die s.myDie).coll.queue < 64 →
     (bits x 63 22 = 0 → Params s t x.toNat 64 64 → s.isMember (cdGrp ws) = true → CanArm s t h (cdLen ws) →
       (cdSv ws = true → Spad t (cdSta ws) (staBytes (s.grp s.myDie (cdGrp ws)).n) 32 false) →
       (cdOk 1 ws = true → ∀ sb db, ColBase s t false (bit (wordN ws 1) 63) (bits (wordN ws 1) 56 0) (cdLen ws) sb →
         ColBase s t true (bit (wordN ws 2) 63) (bits (wordN ws 2) 56 0) (cdLen ws) db →
         exec (.cred g a h) s = .next (collected s t h 0x3B x 0 (cdGrp ws) (cdLen ws) false (fun m =>
           { m with sig := cdSig ws [], ws := ws, lay := [], sbase := sb, dbase := db, ssp := bit (wordN ws 1) 63, dsp := bit (wordN ws 2) 63,
                    trp := cdTrp ws, sta := if cdSv ws then some (cdSta ws) else none }))) ∧
       (let l1 := bits (wordN ws 5) 21 0
        let l2 := bits (wordN ws 6) 21 0
        let lay := wordsOf 16 (s.spadRead s.myCore t l1 128) ++ wordsOf 16 (s.spadRead s.myCore t l2 128)
        Spad t l1 128 64 false → Spad t l2 128 64 false → s.spadBad s.myCore t l1 128 = false → s.spadBad s.myCore t l2 128 = false → cdOk 3 ws = true → layPairOk (lay.take 16) (lay.drop 16) (s.grp s.myDie (cdGrp ws)).n (cdLen ws) = true →
        ∀ sb db, ColBase s t false (bit (wordN ws 1) 63) (bits (wordN ws 1) 56 0) (laySpan (lay.take 16)) sb →
         ColBase s t true (bit (wordN ws 2) 63) (bits (wordN ws 2) 56 0) (cdLen ws) db →
         exec (.cxf g a h) s = .next (collected s t h 0x3C x 0 (cdGrp ws) (cdLen ws) false (fun m =>
           { m with sig := cdSig ws lay, ws := ws, lay := lay, sbase := sb, dbase := db, ssp := bit (wordN ws 1) 63, dsp := bit (wordN ws 2) 63,
                    trp := cdTrp ws, sta := if cdSv ws then some (cdSta ws) else none })))) ∧
     (bit x 63 = false → bits x 62 17 = 0 → s.isMember (bits x 15 0) = true → CanArm s t h 8 →
       exec (.cbar g a h) s = .next (collected s t h 0x3D x 0 (bits x 15 0) 8 false (fun m => { m with sig := ⟨2, 0, 0, false, 0, 0, 0⟩, trp := bit x 16 }))) ∧
     (let at_ := bits x 21 0
      let wb := wordsOf 8 (s.spadRead s.myCore t at_ 64)
      bit x 63 = true → bits x 62 22 = 0 → Params s t at_ 64 64 → (cdSv wb = true → Spad t (cdSta wb) (staBytes (s.grp s.myDie (cdGrp wb)).n) 32 false) →
       (s.isMember (cdGrp wb) = true → cdOk 2 wb = true → CanArm s t h 8 →
         exec (.cbar g a h) s = .next (collected s t h 0x3D x 0 (cdGrp wb) 8 false (fun m =>
           { m with sig := cdSig wb [], ws := wb, lay := [], sbase := 0, dbase := 0, ssp := bit (wordN wb 1) 63, dsp := bit (wordN wb 2) 63, trp := cdTrp wb,
                    sta := if cdSv wb then some (cdSta wb) else none }))) ∧
       (s.isMember (cdGrp wb) = false → CanArm s t h 0 → exec (.cbar g a h) s = .next (collected s t h 0x3D x 0 (cdGrp wb) 0 true id))) ∧
     (bits x 63 22 = 0 → Params s t x.toNat 64 64 → Spad t (smpLogits ws) (4 * smpCount ws) 4 false →
       (smpMasked ws = true → Spad t (smpMask ws) ((smpCount ws + 7) / 8) 1 false) → (h ≠ 255 → Spad t (smpRes ws) 8 8 false) → smpOk ws = true →
       s.isMember (smpGrp ws) = true → CanArm s t h 8 →
       exec (.csmp g a h) s = .next (collected s t h 0x3E x 0 (smpGrp ws) 8 false (fun m => { m with sig := ⟨4, 4, 0x22, true, 8, 0, 0⟩, ws := ws, trp := smpTrp ws }))) ∧
     (bits x 63 22 = 0 → Params s t x.toNat 32 32 → onlyFields (wordN td 0) [(27, 0)] = true → onlyFields (wordN td 1) [(63, 63), (56, 0)] = true →
       (bit (wordN td 1) 63 = true → bits (wordN td 1) 56 22 = 0) → onlyFields (wordN td 2) [(39, 0)] = true → onlyFields (wordN td 3) [(40, 0)] = true →
       0 < tdLen td → tdLen td ≤ 2 ^ 40 → s.isMember (tdGrp td) = true →
       ∀ base, let grp := s.grp s.myDie (tdGrp td)
         let total := tdLen td * (tdTargets td grp.n grp.rank).length
         let sent := fun (op : Nat) => collected s t h op x 0 (tdGrp td) total false (fun m =>
           { m with ws := td, sbase := base, dbase := base, ssp := bit (wordN td 1) 63, dsp := bit (wordN td 1) 63 })
         CanArm s t h total →
         ((if tdMc td then tdRank td = 0 else tdRank td < grp.n) →
           ColBase s t false (bit (wordN td 1) 63) (bits (wordN td 1) 56 0) (tdLen td) base → exec (.cput g a h) s = .next (sent 0x39)) ∧
         (tdMc td = false → tdRank td < grp.n →
           ColBase s t true (bit (wordN td 1) 63) (bits (wordN td 1) 56 0) (tdLen td) base → exec (.cget g a h) s = .next (sent 0x3A))) ∧
     (onlyFields y [(30, 28), (26, 0)] = true → s.isMember (bits y 15 0) = true → bits y 26 16 < (s.grp s.myDie (bits y 15 0)).n → CanArm s t h 8 →
       exec (.cqsend g a b h) s = .next (collected s t h 0x36 x y (bits y 15 0) 8 false id)) ∧
     (y.toNat ≤ 2 → exec (.cst g a b) s = .next (s.atOnceL5 (s.colSnapshot (bits x 15 0) y.toNat))) ∧
     (2 < y.toNat → exec (.cst g a b) s = .next (collected s t 255 0x37 x y (bits x 15 0) 0 true id))) ∧
  (∀ (s : State) (g : BitVec 4) (a b : BitVec 7) (h : BitVec 8) (x y : W64) (t : Task),
     let grp := bits x 15 0
     let ent := s.grp s.myDie grp
     Ready s g t → Reads s a x → Reads s b y → collectives (s.die s.myDie).coll.queue < 64 →
     (bits x 63 18 = 0 → ent.v = true →
       (∀ region, bit x 17 = false → (ent.member.isNone || s.isMember grp) = true → (if bit y 63 then bits y 62 57 = 0 else y = 0) → Region s t y region →
         let u := s.joinGroup grp region (bit x 16)
         CanArm u t h 8 → collectives (u.die u.myDie).coll.queue < 64 →
         exec (.copen g a b h) s = .next (collected u t h 0x38 x y grp 8 false id)) ∧
       (∀ region, bit x 17 = true → s.isMember grp = true → (if bit y 63 then bits y 62 57 = 0 else y = 0) → Region s t y region →
         let u := s.leaveGroup s.myDie (s.pre.task.getD 0) grp
         CanArm u t h 8 → collectives (u.die s.myDie).coll.queue < 64 →
         exec (.copen g a b h) s = .next (collected u t h 0x38 x y grp 8 false id))) ∧
     (bit y 63 = true → translate s.pre.wnd (bits y 56 16 * 65536) ((bits y 15 0 + 1) * 65536) = none →
       exec (.copen g a b h) s = .next (s.raise 5 (w64 (2 ^ 63 + bits y 56 16 * 65536)))) ∧
     (∀ region, bits x 63 18 ≠ 0 → Region s t y region → CanArm s t h 0 → exec (.copen g a b h) s = .next (collected s t h 0x38 x y grp 8 true id)) ∧
     (onlyFields x [(34, 7), (3, 0)] = true → onlyFields y [(55, 40), (39, 0)] = true → s.isMember (bits x 23 8) = true →
       (bit x 7 = false → h ≠ 255 → s.openStream (bits x 3 0) = none → bits y 8 0 = 0 → bits y 55 40 ≠ 0 →
         bits x 34 24 < (s.grp s.myDie (bits x 23 8)).n →
         let u := s.asideStream s.myCore (bits x 3 0)
         exec (.cstr g a b h) s = .next (((u.newTag t h.toNat 0).2).modCore s.myCore (fun k =>
           { k with streams := put (bits x 3 0) ⟨(u.newTag t h.toNat 0).1, s.bun.word.toNat, false, bits x 23 8, bits x 34 24, bits y 39 0, bits y 55 40, 0, []⟩ k.streams }))) ∧
       (∀ q, bit x 7 = true → s.openStream (bits x 3 0) = some q → q.tag.u = s.pre.task.getD 0 → q.grp = bits x 23 8 →
         exec (.cstr g a b 255) s = .next (collected (s.modCore s.myCore (fun k => { k with streams := k.streams.map (fun q =>
           if q.1 = bits x 3 0 then (q.1, { q.2 with shut := true }) else q) })) t 255 0x3F x y (bits x 23 8) 0 false
             (fun m => { m with sbase := q.tag.tok })))))

-- Events ----------------------------------------------------------------------------------------------------------------------

/-- R16, R42, R55, R128 to R130, R139 to R141, R148, R160, R190: the events of a context. The bundle at the PC is considered: it issues when the context is ready
and the issue selector takes it; one that is not ready stalls, and ends the turn of the context that issued last when that is not ready either.
A wait that completes or expires is considered the same way. A fetch stores the bundle; Compass answers a spawn, or submits the graph of a gsub; a
pre-emption takes effect, and the context's state is saved. A context past its quantum is pre-empted for a rival. A dependency entry of
2^14 ticks is probed (R190). That a spawn's answer waits for the earlier accesses of its context (log 52), and which suspends hold a pre-emption off
(log 55), are the model's choices. -/
def Obligations.ContextEvents : Prop :=
  ∀ (s : State) (g c d u j : Nat) (drain : Bool), g < 524288 → c < 131072 → d < 2048 →
    (s.ready g = true → (s.noteStall (g / 4)).selected (g / 4) = some g → s.issueTurn g = (s.noteStall (g / 4)).considerBundle g) ∧
    (s.ready g = true → (s.noteStall (g / 4)).selected (g / 4) ≠ some g → s.issueTurn g = s) ∧
    (s.ready g = false → s.issueTurn g = (s.considerBundle g).noteStall (g / 4)) ∧
    exec (.bundleIssue g) s = .next (s.issueTurn g) ∧
    (∀ f, (s.ctx g).issuable = true → (s.ctx g).fetched = none → s.fetchAt g (s.ctx g).pc.toNat = .ok f →
      exec (.bundleFetch g) s = .next (s.modCtx g (fun x => { x with fetched := some (x.pc, f) }))) ∧
    (∀ n w, s.waitNow g = some (n, w) →
      ((s.ctx g).waitDone n w = true → exec (.waitComplete g) s = .next (s.issueTurn g)) ∧
      ((s.ctx g).waitDone n w = false → (s.ctx g).waitExpired n s.tick w = true → exec (.waitTimeout g) s = .next (s.issueTurn g))) ∧
    (let sel := (s.core c).sel
     let cur := 4 * c + sel.last
     4096 ≤ sel.count → sel.yielding = false →
      (s.turns c).any (fun h => h != cur && (s.ctx h).issuable && s.prioOf h == s.prioOf cur && s.ready h) = true →
      exec (.fairnessBound c) s = .next (s.modCore c (fun k => { k with sel := { sel with yielding := true } }))) ∧
    (∀ a t x bs key st big, (s.die (dieOfCtx g)).compass.spawns.find? (fun a => a.g == g) = some a → s.spawnHeld a = false →
      s.task? (dieOfCtx g) a.u = some t → s.graph? (dieOfCtx g) t.graph = some x →
      s.readMany (dieOfCtx g) .load a.ents (pagePieces 2 a.ia 64) = .ok bs key st big →
      ∀ r, (if a.gsub then (if keyReads a.pkr key then s.gsubNow (dieOfCtx g) a bs else .ok (s.answerSpawn a false false))
        else s.spawnNow (dieOfCtx g) a t x (wordsOf 8 bs)) = .ok r → exec (.spawnAnswer g) s = .next r) ∧
    (∀ v, (s.ctx g).preempt = some drain → (s.ctx g).task = some v → (s.ctx g).life = .active → (s.ctx g).stopping = none → (s.ctx g).violation = none →
      let t := s.modCtx g (fun c => { c with life := .saving, wait := none })
      exec (.preemptionTakeEffect g) s = .next (if drain then t.releaseArray (coreOfCtx g) v else t)) ∧
    (∀ v t r, (s.ctx g).preempt = some drain → (s.ctx g).task = some v → s.boundTask g = some t → (s.ctx g).life = .saving → (s.ctx g).violation = none →
      s.ctxSettled g = true → s.arraySettled (coreOfCtx g) v drain = true → (drain = true → s.cmdsOut (dieOfCtx g) v (fun _ => true) = false) →
      (s.die (dieOfCtx g)).compass.spawns.any (fun q => q.u == v) = false → s.saveContext g drain v t = .ok r →
      exec (.saveComplete g) s = .next r) ∧
    (∀ t h x, s.task? d u = some t → t.ctx = some h →
      (t.save ≠ 0 → (s.ctx h).life = .active →
        exec (.hostPreemptionRequest d u drain) s = .next (s.modCtx h (fun c => c.request drain)) ∧
        (s.graph? d t.graph = some x → t.preemptible = true → t.quantum + 2 ^ x.qlog ≤ s.tick →
          exec (.quantumExpiry d u) s = .next (if s.rival d u t (coreOfCtx h) then s.modCtx h (fun c => c.request false)
            else s.setTask d u { t with quantum := s.tick })))) ∧
    (∀ x, (s.ctx g).deps[j]? = some x → x.probing = false → x.since + 2 ^ 14 ≤ s.tick → exec (.dependencyEntryAgeProbe g j) s = .next (s.sendProbe g x.ent))

/-- A message is in the network. -/
abbrev Sys2Proof.Claims.Sent (s : State) (id : Nat) (m : Msg) : Prop := find? id s.net = some m

/-- R183 to R204, R356, R364: the requests of one piece that pass the checks at their owner. A read takes the bytes with the stamps of the
writes they hold and the key of their page; a causal write is applied in the sequence of its origin; an atomic update replaces the value
that it answers with; a probe is answered when its entries are covered. At their origin a load takes its part, an acknowledged write is
done, a rejection is recorded, and a probe's answer drops its entries; a write not acknowledged is sent again, and in the end recorded. Each
request or answer wakes the die that it reaches (R450). -/
def Obligations.RequestEvents : Prop :=
  (∀ (s0 : State) (id pa e : Nat) (m : Msg), Sent s0 id m →
     let s := s0.arrive m
     let served := fun (u : State) (a : Answer) => Host.Outcome.next (u.modMsg id (fun m => { m with stage := .served, ans := a }))
     let rd := s.redirectFor m
     (s.servable m = true →
       (m.kind = .read → s.checkOwn m.target m.ia .load = .ok pa e → s.badAt m.target pa m.n = none →
         (m.ia2 = none → exec (.readRequestServe id) s0 =
           served s ⟨s.readPA m.target pa m.n, s.stampsOf m.ia m.n, leafKey e, none, none, none, false, rd, false, s.pastOf m, s.applied⟩) ∧
         (∀ a pb eb, m.ia2 = some a → s.checkOwn m.target a .load = .ok pb eb → s.badAt m.target pb 1 = none → exec (.readRequestServe id) s0 =
           served s ⟨s.readPA m.target pa m.n ++ s.readPA m.target pb 1, (s.stampsOf a 1).foldl mergeEnt (s.stampsOf m.ia m.n), leafKey e, none, none,
             some (leafKey eb), false, rd, false, s.pastOf m, s.applied⟩) ∧
         (∀ a w, m.ia2 = some a → s.checkOwn m.target a .load = .denied w → exec (.readRequestServe id) s0 =
           served s { Answer.none with denied := some w, second := true, redirect := rd })) ∧
       (∀ w, m.kind = .read → s.checkOwn m.target m.ia .load = .denied w →
         exec (.readRequestServe id) s0 = served s { Answer.none with denied := some w, redirect := rd }) ∧
       (m.kind = .write ∧ s.inSequence m = true ∨ m.kind = .writeNc →
         (∀ key, s.writeCheck m = (.ok pa e, none, key) →
           (m.ia2 = none → exec (.causalWriteApply id) s0 =
             served ((s.applyAt m pa m.ia (m.data.take m.n)).resolveAll m) { Answer.none with key := key, redirect := rd }) ∧
           (∀ a pb eb k2, m.ia2 = some a → s.writeCheckAt m a = (.ok pb eb, none, k2) → exec (.causalWriteApply id) s0 =
             served (((s.applyAt m pa m.ia (m.data.take m.n)).applyAt m pb a (m.data.drop m.n)).resolveAll m) { Answer.none with key := key, redirect := rd }) ∧
           (∀ a w r k2, m.ia2 = some a → s.writeCheckAt m a = (.denied w, some r, k2) → exec (.causalWriteApply id) s0 =
             served (s.resolveAll m) { Answer.none with rejected := some r, key := k2, second := true, redirect := rd })) ∧
         (∀ w r key, s.writeCheck m = (.denied w, some r, key) → exec (.causalWriteApply id) s0 =
           served (s.resolveAll m) { Answer.none with rejected := some r, key := key, redirect := rd })) ∧
       (∀ a key lv big le, s.writeCheck m = (.ok pa e, none, key) → m.kind = .atomic a → s.inSequence m = true → s.myTurn m.target m.ia m.origin id = true →
         s.badAt m.target pa m.n = none → s.walk m.target m.ia = .leaf lv big le →
         let old := s.readPA m.target (leafPA big le m.ia) m.n
         let st := s.stampsOf m.ia m.n
         let u := if a.fails (ofBytes old) then s else s.applyAt { m with stamp := st.foldl mergeEnt m.stamp } pa m.ia (bytesOf m.n (a.newValue (ofBytes old)))
         exec (.atomicUpdateServe id) s0 = served ((u.servedTurn m.target m.ia m.origin).resolveAll m)
           ⟨old, st, key, none, none, none, false, rd, false, s.pastOf m, s.applied⟩)) ∧
     (m.kind = .probe → m.stage = .sent → s.answers m.origin m.target = true → (m.stamp.foldl mergeEnt m.ents).all (s.coveredAt m.target []) = true →
       exec (.probeRequestServe id) s0 = .next (s.modMsg id (fun m => { m with stage := .served })))) ∧
  (∀ (s0 : State) (id : Nat) (m : Msg), Sent s0 id m →
     let s := s0.arrive m
     (∀ tok, m.stage = .served → m.tok = some tok → ((s.ctx m.g).task ≠ m.task ∨ find? tok (s.ctx m.g).loads = none) →
       exec (.loadAnswer id) s0 = .next ((((s.takeRedirect id m).recordRejection m).dropMsg id).routeAll m.origin)) ∧
     (∀ tok l, m.stage = .served → m.tok = some tok → (s.ctx m.g).task = m.task → find? tok (s.ctx m.g).loads = some l →
       (l.kind = .cacheOnly ∨ s.readBefore m.g m.task id = false) → (mergedDeps s.tick tok (s.ctx m.g).deps m.ans.stamps).length ≤ 8 →
       exec (.loadAnswer id) s0 = .next (s.landAnswer id tok m l (mergedDeps s.tick tok (s.ctx m.g).deps m.ans.stamps))) ∧
     (m.stage = .served → m.tok = none → m.ans.rejected = none → m.kind ≠ .read → m.kind ≠ .probe →
       exec (.writeAcknowledgement id) s0 = .next (((s.takeRedirect id m).dropMsg id).routeAll m.origin)) ∧
     (∀ b, m.stage = .served → m.ans.rejected = some b →
       exec (.storeRejection id) s0 = .next ((s.recordRejection m).modMsg id (fun m => { m with ans := { m.ans with rejected := none } }))) ∧
     (m.kind = .probe → m.stage = .served → (s.ctx m.g).task ≠ m.task → exec (.probeAnswer id) s0 = .next (
       ((s.dropMsg id).modDie m.origin (fun k => { k with past := m.stamp.foldl (fun p e => put e.origin s.applied p) k.past })).routeAll m.origin)) ∧
     (m.kind = .probe → m.stage = .served → (s.ctx m.g).task = m.task → (s.ctx m.g).probeOp = none → exec (.probeAnswer id) s0 = .next (
       ((((s.dropMsg id).modDie m.origin (fun k => { k with past := m.stamp.foldl (fun p e => put e.origin s.applied p) k.past })).modCtx m.g (fun c =>
         { c with deps := c.deps.filter (fun x => !m.stamp.contains x.ent) })).finishStop m.g).routeAll m.origin)) ∧
     (m.kind.causal = true → m.ids ≠ [] →
       (m.last + 2 ^ 10 ≤ s.tick → exec (.writeResendTimeout id) s0 = .next
         ((if m.origin / 4 == m.target / 4 then s else s.resent m.origin).modMsg id (fun m => { m with last := s.tick }))) ∧
       (m.unreachable = false → m.first + 2 ^ 16 ≤ s.tick → exec (.targetUnreachable id) s0 = .next (
         let u := s.errorRecord m.origin 4 (coreOfCtx m.g % 64) 0 (w64 m.ia) 0 0 0 0
         u.modMsg id (fun m => { m with unreachable := true, last := u.tick })))))

/-- R353 to R358, R362, R363, R368 to R371: how a request finds its owner, and how a page's signposts and lineage go. A request to an unassigned
page is answered when its home has said so: a read is denied, a write rejected. -/
def Obligations.RoutingEvents : Prop :=
  (∀ (s0 : State) (id : Nat) (m : Msg), Sent s0 id m →
    let s := s0.arrive m
    (m.stage = .query → s.answers m.origin (s.homeOf m.origin m.ia) = true →
      (∀ p r, s.homeRec? m.origin m.ia = some (p, r) → exec (.homeOwnerQuery id) s0 = .next (s.modMsg id (fun m =>
        { m with ans := { Answer.none with redirect := some (p, r.owner), bytes := [BitVec.ofNat 8 (b2n r.big)] } }))) ∧
      (s.homeRec? m.origin m.ia = none → exec (.homeOwnerQuery id) s0 = .next (s.modMsg id (fun m => { m with ans := { Answer.none with denied := some 5 } })))) ∧
    (∀ p o, m.stage = .query → m.ans.redirect = some (p, o) → exec (.homeOwnerAnswer id) s0 = .next (
      ((s.gazFill m.origin p o (m.ans.bytes.headD 0 == 1)).modMsg id (fun m => { m with stage := .wait, ans := Answer.none })).routeAll m.origin)) ∧
    (∀ w, m.stage = .query → m.ans.redirect = none → m.ans.denied = some w →
      (m.kind = .read → exec (.homeOwnerAnswer id) s0 = .next
        (((s.resolvesOf m).modMsg id (fun m => { m with stage := .served, ans := { Answer.none with denied := some 5 } })).routeAll m.origin)) ∧
      (m.kind = .write ∨ m.kind = .writeNc → exec (.homeOwnerAnswer id) s0 = .next
        (((s.resolvesOf m).modMsg id (fun m => { m with stage := .served, ans := { Answer.none with rejected := some false } })).routeAll m.origin))) ∧
    (∀ p o, m.stage = .redirected → m.ans.redirect = some (p, o) → exec (.redirect id) s0 = .next (
      ((s.takeRedirect id m).modMsg id (fun m => { m with stage := .wait, path := [], ans := Answer.none })).sendTo id o { m with stage := .wait, path := [] })) ∧
    (m.stage = .served → exec (.redirect id) s0 = .next (s.takeRedirect id m)) ∧
    (m.stage = .sent → m.kind ≠ .probe → s.answers m.origin m.target = true → s.ownPage? m.target m.ia = none →
      find? (m.ia / 65536) (s.die m.target).signs = none → exec (.notHere id) s0 = .next ((s.gazDrop m.origin m.ia).modMsg id (fun m => { m with stage := .query, ans := Answer.none, path := [] }))) ∧
    (∀ g, m.stage = .sent → m.kind ≠ .probe → s.answers m.origin m.target = true → s.ownPage? m.target m.ia = none → find? (m.ia / 65536) (s.die m.target).signs = some g →
      (m.kind.causal = true → s.relayInOrder m g.owner = true) →
      (m.path.length < 2 → exec (.signpostRelay id) s0 = .next (s.modMsg id (fun x => { x with target := g.owner, path := x.path ++ [m.target] }))) ∧
      (∀ p r, 2 ≤ m.path.length → s.answers m.target (s.homeOf m.target m.ia) = true → s.homeRec? m.target m.ia = some (p, r) → exec (.signpostRelay id) s0 = .next (s.modMsg id (fun m =>
        { m with stage := .redirected, ans := { Answer.none with redirect := some (p, r.owner) } }))))) ∧
  (∀ (s : State) (id : Nat) r, find? id s.resolutions = some r →
    exec (.writeResolution id) s = .next (({ s.wake r.die with resolutions := del id s.resolutions }).resolve r.die r.origin r.seq)) ∧
  (∀ (s : State) (d p t : Nat), d < 2048 → t < 2048 →
    (∀ z, find? p (s.die d).gaz = some z → z.since + 2 ^ 17 < s.tick →
      exec (.gazetteerEntryExpiry d p) s = .next (s.modDie d (fun k => { k with gaz := del p k.gaz }))) ∧
    exec (.gazetteerEntryReplacement d p) s = .next (s.modDie d (fun k => { k with gaz := del p k.gaz })) ∧
    (∀ pg, find? p (s.die d).pages = some pg → exec (.lineageFrontierReport d p t) s = .next (((s.wake d).wake t).modDie d (fun k =>
      { k with pages := put p { pg with lineage := pg.lineage.map (fun l => if l.die = t then
          { l with frontier := (((s.wake d).wake t).die t).fronts.foldl (fun m o => put o.1 (Nat.max (getD o.1 0 m) o.2.f) m) l.frontier } else l) } k.pages }))) ∧
    (∀ g, find? p (s.die d).signs = some g →
      (g.stage = 0 → g.since + 2 ^ 18 ≤ s.tick → s.settledFor d p = true →
        exec (.signpostRetirement d p) s = .next (s.modDie d (fun k => { k with signs := put p { g with stage := 1 } k.signs }))) ∧
      (∀ q r pg, g.stage = 1 → s.settledFor d p = true → s.serving (s.homeOf d (p * 65536)) = true →
        let v := (s.wake d).wake (s.homeOf d (p * 65536))
        v.homeRec? d (p * 65536) = some (q, r) → v.serving r.owner = true → find? q ((v.wake r.owner).die r.owner).pages = some pg →
        exec (.lineageDrop d p) s = .next (((v.wake r.owner).modDie r.owner (fun k => { k with pages := put q { pg with lineage := pg.lineage.filter (fun l => l.die != d) } k.pages })).modDie d
          (fun k => { k with signs := put p { g with stage := 2 } k.signs }))) ∧
      (g.stage = 2 → s.relayedAnswered d p = true → exec (.signpostRemove d p) s = .next ((s.wake d).modDie d (fun k => { k with signs := del p k.signs })))))

/-- R359 to R361, R364 to R367, R371 to R376, R380: a migration is accepted or refused, copies its pages, freezes, and cuts over or times out;
its command then completes; the cores of a die take turns (R16). A task's leases are asked for and given up; lrenew ends when its new card's leases are all held; the home
records a page that its owner creates (R357), in an event of its own: the model's choice (log 40). -/
def Obligations.HomeAgentEvents : Prop :=
  (∀ (s : State) (k : Nat) (m : Mig), find? k s.migs = some m →
     let d := dieOfCtx m.tag.g
     let home := s.homeOf d (m.pages.headD 0 * 65536)
     (s.migNext d = some k →
       let s0 := (s.wake home).modDie d (fun q => { q with haLast := coreOfCtx m.tag.g % 64 })
       (∀ c, s0.migCheck home m = .inl c → exec (.migrationRequest k) s = .next (s0.endMig k c)) ∧
       (∀ src n, s0.migCheck home m = .inr (src, n) →
         let (fs, s1) := ((s0.wake src).wake m.dst).takeFrames m.dst m.pages.length
         let (ts, s2) := s1.takeTables m.dst n
         exec (.migrationRequest k) s = .next (((s2.modRecs home m.pages (fun r => { r with migrating := true })).markLeaves src m.pages true).modMig k (fun m =>
           { m with phase := 1, src := src, frames := m.pages.zip fs, tables := ts })))) ∧
     (m.phase = 1 →
       (m.rounds = 0 → exec (.migrationCopyRound k) s = .next ((s.copyPages m).modMig k (fun m => { m with rounds := 1, dirty := [] }))) ∧
       (1 ≤ m.rounds → m.rounds < 5 → 64 < m.dirty.length →
         exec (.migrationCopyRound k) s = .next ((s.copySectors m m.dirty).modMig k (fun m => { m with rounds := m.rounds + 1, dirty := [] }))) ∧
       (1 ≤ m.rounds → m.dirty.length ≤ 64 ∨ 5 ≤ m.rounds →
         exec (.migrationFreeze k) s = .next ((s.copySectors m m.dirty).modMig k (fun m =>
           { m with phase := 2, copied := m.dirty.length, dirty := [], frozenAt := s.tick })))) ∧
     (m.phase = 2 →
       (m.frozenAt + 800 ≤ s.tick → exec (.freezeTimeout k) s = .next (
         (((s.markLeaves m.src m.pages false).modRecs home m.pages (fun r => { r with migrating := false })).giveBack m.dst (m.frames.map (·.2)) m.tables).endMig k 6)) ∧
       (∀ s1 left, s.tick ≤ m.frozenAt + 800 →
         let leaves := m.pages.map (fun p => (p, s.leafBits m.src p))
         s.installLeaves m.dst (leaves.map (fun q => (q.1, movedLeaf q.2 (find? q.1 m.frames)))) m.tables = some (s1, left) →
         let unused := leaves.filterMap (fun q => if bitN q.2 63 then none else find? q.1 m.frames)
         let freed := leaves.filterMap (fun q => if bitN q.2 63 then some (bitsN q.2 39 16 * 65536) else none)
         let moved := m.pages.foldl (fun s1 p => match find? p (s.die m.src).pages with
           | none => s1
           | some pg => (s1.modDie m.dst (fun k => { k with pages := put p { pg with lineage := s.lineageFrom m.src m.dst pg } k.pages, signs := del p k.signs })).modDie
               m.src (fun k => { k with pages := del p k.pages, signs := put p ⟨m.dst, s.tick, 0⟩ k.signs })) s1
         exec (.migrationCutover k) s = .next ((((moved.modRecs home m.pages (fun r => { r with owner := m.dst, migrating := false, lastCut := some s.tick })).giveBack
           m.dst unused left).giveBack m.src freed []).endMig k 0))) ∧
     (m.phase = 3 → exec (.migrationComplete k) s = .next (
       let val := if m.code = 0 then s.dieId m.src * 65536 + m.copied % 65536 else if m.code = 6 then s.dieId m.src * 65536 else 0
       (({ s with migs := del k s.migs }).credit m.tag 8).reportL5 m.tag (haStatus m.code val)))) ∧
  (∀ (s : State) (d u p : Nat), d < 2048 →
     (∀ t l o q pg a big e, s.beginRenewal d u = s → s.task? d u = some t → t.leases.find? (fun l => l.page == p && l.stage == 0) = some l →
       s.placeOf d (l.page * 65536) [] = .at_ o → s.ownPage? o (l.page * 65536) = some (q, pg) → s.walk o (l.page * 65536) = .leaf a big e →
       exec (.leaseRequest d u p) s = .next ((s.addLeases o q 1).modTask d u (fun t => { t with leases := setLease p ⟨q, bitN e 60, 2⟩ t.leases }))) ∧
     (∀ t l, s.beginRenewal d u = s → s.task? d u = some t → t.leases.find? (fun l => l.page == p && l.stage == 0) = none →
       t.newLeases.find? (fun l => l.page == p && l.stage == 0) = some l →
       exec (.leaseRequest d u p) s = .next ((s.askLease d l).2.modTask d u (fun t => { t with newLeases := setLease p (s.askLease d l).1 t.newLeases }))) ∧
     (∀ n o, (s.die d).compass.releases.find? (fun r => r.1 == u && r.2.1 == p) = some (u, p, n) → s.cmdsOut d u (fun k => decide (k < n)) = false →
       s.placeOf d (p * 65536) [] = .at_ o →
       exec (.leaseRelease d u p) s = .next ((s.modCompass d (fun k => { k with releases := k.releases.erase (u, p, n) })).modDie o (fun k =>
         match pageFind? PageSt.big p k.pages with | none => k | some (q, pg) => { k with pages := put q { pg with leases := pg.leases - 1 } k.pages }))) ∧
     (∀ t tag more, s.beginRenewal d u = s → s.task? d u = some t → t.renews = (tag, true) :: more → t.newCard ≠ [] → (∀ l ∈ t.newLeases, l.stage = 2) →
       let keep := t.st == 4
       exec (.leaseRenewalComplete d u) s = .next (((s.giveUp d u (t.leases ++ (if keep then [] else t.newLeases)) 0).modTask d u (fun x =>
         { x with card := x.newCard, leases := if keep then x.newLeases else [] })).endRenewal d u tag 0 t.newLeases.length)) ∧
     (∀ page big comp, (s.die d).haPend = some (page, big, comp) →
       let h := s.homeOf d (page * 65536)
       s.serving h = true → s.homeRec? d (page * 65536) = none → (big = true → (s.die h).homeRecs.any (fun r => r.1 / 512 == page / 512) = false) →
       exec (.homeRecordCreate d) s = .next (((s.modDie h (fun k => { k with homeRecs := put page ⟨d, big, comp, false, none⟩ k.homeRecs })).modDie d (fun k =>
         { k with pages := put page ⟨big, 0, []⟩ k.pages, signs := del page k.signs })).uopDone d 0)))

/-- R113 to R142: a record is placed, with its units, its tiles, a context, and the leases of its card to ask for (R123, R126); it is launched with
what its record gives it (R116) or resumed, unless its graph is disabled (R142); one that left is written back (R140, R141); a node runs; a queue
is refilled from its graph's overflow queue. A record that its card, read at its placement, gates is not placed (R122); a collective node takes its
number at its launch, and fails where its group has a member task (R409, R410). That a LEASING record of a disabled graph does not launch is how the
model reads R142 (log 54); that a yielded record takes a new order is log 47's reading; which free units, tiles and context a task takes is log 50's
choice, and what two reservations of one core do is log 104's. -/
def Obligations.CompassEvents : Prop :=
  ∀ (s r : State) (d u : Nat) (t : Task), d < 2048 → s.task? d u = some t →
    (s.eligible d u t = true → s.isTurn d u t = true →
      (∀ c, t.kind = 0 → s.placeCore d u t = some c → s.place d u t (some c) = .ok r → exec (.taskPlacement d u) s = .next r) ∧
      (t.kind ≠ 0 → s.place d u t none = .ok r → exec (.taskPlacement d u) s = .next r) ∧
      (∀ card, t.kind ≠ 0 ∨ (s.placeCore d u t).isSome = true → s.placementCard d t = .ok card →
        (s.die d).compass.gated u { t with card := card.getD t.card } = true →
        exec (.taskPlacement d u) s = .next (s.setTask d u { t with card := card.getD t.card })) ∧
      (∀ c g card, t.kind = 0 → t.core = none → s.placeCore d u t = some c → s.freeCtx c = some g → s.placementCard d t = .ok (some card) →
        (s.die d).compass.gated u { t with card := card } = false →
        ∃ p, exec (.taskPlacement d u) s = .next p ∧ p.ctx g = { Ctx.init with life := .reserved, task := some u } ∧
          p.task? d u = some { t with
            st := 3, card := card, leases := (s.cardPages d card).map (fun n => ⟨n, false, 0⟩), passed := none, reserved := none, core := some c,
            units := (s.freeUnits c).take t.spad, tiles := (s.freeTiles c).take t.tileNeed })) ∧
    (∀ c since, s.eligible d u t = true → t.passed = some since → t.reserved = none → since + 2 ^ 16 ≤ s.tick →
      t.core.or (if t.affv then some (64 * d + t.affcore) else (upFrom (64 * d) 64).find? (fun c => !s.reservedFor d u c)) = some c →
      exec (.passedOverReservation d u) s = .next (s.setTask d u { t with reserved := some c })) ∧
    (∀ x, t.st = 3 → (∀ l ∈ t.leases, l.stage = 2) → s.graph? d t.graph = some x → x.disabled = true → exec (.taskLaunch d u) s = .next s) ∧
    (∀ x, t.st = 3 → (∀ l ∈ t.leases, l.stage = 2) → s.graph? d t.graph = some x → x.disabled = false →
      (t.kind ≠ 0 → t.kind ≠ 2 → exec (.taskLaunch d u) s = .next (s.setTask d u { t with st := 4 })) ∧
      (∀ ws, t.kind = 2 → s.unitWords d (bits (t.word 0) 51 0) 8 = .ok ws →
        let grp := s.grp d (cdGrp ws)
        (ws = [] ∨ grp.v = false → exec (.taskLaunch d u) s = .next (s.setTask d u { t with st := 4, number := none })) ∧
        (ws ≠ [] → grp.v = true → grp.member.isSome = true →
          exec (.taskLaunch d u) s = .next ((s.setTask d u { t with st := 4, number := none }).failNode d u)) ∧
        (ws ≠ [] → grp.v = true → grp.member = none → exec (.taskLaunch d u) s = .next
          ((s.setTask d u { t with st := 4, number := some grp.seq }).setGrp d (cdGrp ws) { grp with seq := (grp.seq + 1) % 2 ^ 32 }))) ∧
      (∀ c g, t.kind = 0 → t.core = some c → (upFrom (4 * c) 4).find? (fun g => (s.ctx g).life == Life.reserved && (s.ctx g).task == some u) = some g →
        ((if t.restore then s.resume d u g t else s.launch d u g t x) = .ok r → exec (.taskLaunch d u) s = .next r) ∧
        (∀ w, t.restore = false → t.loadFaults = false → s.readWindows d x.wset = .ok w →
          ∃ p, exec (.taskLaunch d u) s = .next p ∧
            p.ctx g = { Ctx.init with
              pc := w64 (bits (t.word 0) 56 0), regs := [(0, t.word 4), (1, t.word 5), (2, t.word 6)], seed := w64 (bits (t.word 7) 63 40), wnd := w,
              pkr := x.pkr0, deferred := [], task := some u, life := .active } ∧
            p.task? d u = some { t with
              lost := 0, st := 4, ctx := some g, bound := s.tick, quantum := s.tick, restore := false, drained := false, faults := [], loadFaults := false,
              kept := [], spoiled := [] }))) ∧
    (∀ s1, t.st = 3 → t.core = none → t.leases.any (fun l => l.stage == 3) = true → s.endRecord d u 2 = .ok s1 → (s1.closeTask d u).graphDone d t.graph = .ok r →
      exec (.residencyRefused d u) s = .next r) ∧
    (∀ w, t.stop = some w → (t.kind = 3 → w ≠ .ended) → s.leftDone d u t = true → t.st ≠ 7 → s.writeBack d u t w = .ok r →
      exec (.recordWriteBack d u) s = .next r) ∧
    (∀ c s0 s1, t.stop = some .yield → s.leftDone d u t = true → t.st ≠ 7 → t.core = some c → parkedOf (s.core c).index.parked u (2 ^ 63) = [] → t.save ≠ 0 →
      find? 6 t.faults = none → (s.reportOutlived d t).unitStore d (t.save + 0xD08) (pendingImage t.faults) = .ok s0 →
      s0.unitStore d t.ia (t.image 1) = .ok s1 →
      let (n, s2) := (s1.giveUp d u t.leases s1.nextId).fresh
      exec (.recordWriteBack d u) s = .next (s2.setTask d u { t with
        st := 1, slot := t.slot, suspended := false, order := n, leases := [], stop := none, faults := [], deps := [], loadFaults := true })) ∧
    (∀ c s1, t.stop = some .ended → t.kind = 0 → s.leftDone d u t = true → t.st ≠ 7 → t.core = some c →
      parkedOf (s.core c).index.parked u (2 ^ 63) = [] → t.faults = [] → t.succ = 0 → s.unitStore d t.ia (t.image 6) = .ok s1 →
      ((s1.modTask d u (fun t => { t with st := 6, slot := 0, suspended := false, passed := none, reserved := none })).closeTask d u).runEvent d t.graph [] = .ok r →
      exec (.recordWriteBack d u) s = .next r) ∧
    (∀ x, s.graph? d t.graph = some x → t.nodeRuns 3 = true → s.conditional d u t x = .ok r → exec (.conditionalNodeRun d u) s = .next r) ∧
    (t.nodeRuns 5 = true → s.writeBack d u t .ended = .ok r → exec (.joinNodeEnd d u) s = .next r) ∧
    (∀ ws, t.nodeRuns 4 = true → (s.unitWords d t.object 1).orElse [w64 (2 ^ 63)] = .ok ws → 
      (if bits (wordN ws 0) 63 10 = 0 then s.toRing d (bits (wordN ws 0) 9 0) 1 [t.word 4, t.word 5, t.word 6, w64 t.ia] else s).writeBack d u t .ended = .ok r →
      exec (.notifyNodeRun d u) s = .next r) ∧
    (∀ ws m, t.nodeRuns 1 = true → (s.channel (64 * d) 2).cmds.length < 16 →
      (s.channel (64 * d) 2).cmds.any (fun q => q.2.tag.u == u) = false → s.unitWords d t.object 8 = .ok ws → descKind ws ≠ 2 →
      (s.nodeTag d u t).2.nodeCopy d t (s.nodeTag d u t).1 ws = some m →
      let (tag, v) := s.nodeTag d u t
      exec (.copyNodeRun d u) s = .next (v.setChannel (64 * d) 2 { v.channel (64 * d) 2 with cmds := put tag.tok m (v.channel (64 * d) 2).cmds })) ∧
    (∀ ws m, t.nodeRuns 2 = true → (s.die d).coll.queue.any (fun q => q.2.tag.u == u && q.2.node) = false →
      collectives (s.die d).coll.queue < 64 → s.unitWords d t.object 8 = .ok ws → ws ≠ [] →
      let (tag, v) := s.nodeTag d u t
      (v.nodeCollective d t tag ws = .ok none → exec (.collectiveNodeRun d u) s = .next (v.endNode d u false)) ∧
      (∀ q, v.nodeCollective d t tag ws = .ok (some m) → t.number = some q →
        exec (.collectiveNodeRun d u) s = .next (v.modColl d (fun c => { c with queue := put tag.tok { m with seq := q } c.queue })))) ∧
    (let k := (s.die d).compass
     ∀ gi g v rest, (k.graphs.filter (fun g => decide (k.lastRefill < g.1)) ++ k.graphs.filter (fun g => decide (g.1 ≤ k.lastRefill))).find?
        (fun g => k.frontSlot g.2 != 0) = some (gi, g) → g.queue = v :: rest → g.blocked = [] →
      exec (.overflowQueueRefill d) s = .next (((s.modTask d v (fun t => { t with st := 1, slot := k.frontSlot g })).modGraph d gi (fun g =>
        { g with queue := rest })).modCompass d (fun k => { k with lastRefill := gi })))

/-- R34, R213, R220 to R228, R264, R284, R288, R293 to R299, R322 to R331, R336, R347, R381 to R398, R424: the engines run their commands: copies
unit by unit, of which a plain one moves the bytes up to the next sector boundary of either side, Survey, the tap, the state store and the
index engine, whose gather brings an element from its IA to the list's data and whose scatter takes it the other way. The array starts the next instruction of its queue,
stops a pass at an interrupt point or goes on with it, and completes it; a drain gives its rows to their vector registers; a release discards its state. A row of a
stream is written to its receive region and credited. What one step of an engine moves (log 6), and the segments and drains of the array
(log 28), are the model's choices. -/
def Obligations.EngineEvents : Prop :=
  (∀ (s r : State) (c d ch k e : Nat), c < 131072 → d < 2048 → ch < 3 →
     (∀ m, (s.channel c ch).cmds.find? (fun q => !q.2.run) = some (k, m) → (m.node = false → s.cmdHeld m.tag = false) →
       exec (.copyCommandStart c ch) s = .next (s.modCopy c ch k (fun m => { m with run := true }))) ∧
     (∀ m, find? k (s.channel c ch).cmds = some m → m.run = true →
       (m.fault = none → m.done = false → copyBehind (s.channel c ch) k m = false →
         (∀ u, s.copyUnit m = .ok u →
           exec (.copyUnitCredit c ch k) s = .next ((u.state.modCopy c ch k (fun m =>
             { m with pos := m.pos + u.units, ahead := u.ahead, cred := m.cred + u.bytes })).credit m.tag u.bytes)) ∧
         (let a := m.sbase + m.pos
          let b := m.dbase + m.pos
          let n := Nat.min (descLen m.words - m.pos) (Nat.min (32 - a % 32) (32 - b % 32))
          ∀ bs, descKind m.words = 1 → s.sideRead m a n = .ok bs → s.sideWrite m b bs = .ok r →
           exec (.copyUnitCredit c ch k) s = .next ((r.modCopy c ch k (fun m => { m with pos := m.pos + n, ahead := [], cred := m.cred + n })).credit m.tag n)) ∧
         (∀ sb at_ used, s.copyUnit m = .fail sb at_ used → m.node = false → ((s.use used).channel c ch).flt = false →
           let v := s.use used
           exec (.copyFault c ch k) s = .next (
             ((v.setChannel c ch { v.channel c ch with flt := true, sub := sb, fctx := m.tag.g % 4, fh := m.tag.h, off := m.cred }).modCopy c ch k (fun m =>
               { m with fault := some (sb, at_) })).deferFault m.tag 0x11 (info11 sb ch m.tag.h at_) m.writes))) ∧
       (m.node = false → m.fault = none → m.done = true →
         exec (.copyCommandLeave c ch k) s = .next ((s.setChannel c ch { s.channel c ch with cmds := del k (s.channel c ch).cmds }).reportL5 m.tag (m.cred % 2 ^ 41))) ∧
       (∀ f, m.node = false → m.fault = some f →
         exec (.copyCommandLeave c ch k) s = .next (
           (s.setChannel c ch { s.channel c ch with cmds := del k (s.channel c ch).cmds }).reportL5 m.tag (2 ^ 63 + f.1 * 2 ^ 53 + m.cred % 2 ^ 41)))) ∧
     (∀ m t, (s.core c).survey.find? (fun q => q.2.sent.isNone) = some (k, m) → s.cmdHeld m.tag = false → (∀ r ∈ (s.core c).tapRows, k ≤ r.1) →
       s.task? (dieOfCore c) m.tag.u = some t →
       (∀ v, s.surveyRun t m = .ok v r → exec (.surveyCommandRun c) s = .next (r.surveyDone c k m v)) ∧
       (∀ sub ia w, s.surveyRun t m = .fault sub ia w → exec (.surveyCommandRun c) s = .next (s.surveyFault c k m sub ia w)) ∧
       (∀ bs, s.surveyRun t m = .send bs → exec (.surveyCommandRun c) s = .next (s.modCore c (fun q =>
         { q with survey := put k { m with sent := some bs } q.survey })))) ∧
     (∀ m h, s.sentSurvey k = some (h, m) →
       (∀ t pa le, m.answer = none → s.placeOf (dieOfCore h) m.ia (s.cmdEnts m.tag) = .at_ t →
         s.canUpdate t (dieOfCore h) m.ia (s.cmdEnts m.tag) = true → s.myTurn t m.ia (dieOfCore h) k = true → s.checkAt t m.ia .store = .ok pa le →
         bitN m.tag.wen (leafKey le) = true → s.badAt t pa 4096 = none → sketchOk (s.readPA t pa 4096) = true →
         let q := (sketchOf (s.readPA t pa 4096) s.free).merge (sketchOf (m.sent.getD []) 0)
         s.writeOne (dieOfCore h) m.ia q.image .store m.tag.wen (s.cmdEnts m.tag) = .ok r →
         exec (.qmergeatOwnerApply k) s = .next ((({ r with free := q.free }).servedTurn t m.ia (dieOfCore h)).modCore h (fun x =>
           { x with survey := put k { m with answer := some none } x.survey }))) ∧
       (m.answer = some none → exec (.qmergeatAck k) s = .next (s.surveyDone h k m m.total)) ∧
       (∀ sub, m.answer = some (some sub) → exec (.qmergeatAck k) s = .next (s.surveyFault h k m sub true m.ia))) ∧
     (∀ n vs rest p t, (s.core c).tapRows = (n, vs) :: rest → (s.core c).tap = some p → s.task? (dieOfCore c) p.tag.u = some t →
       (s.core c).array.holder = some p.tag.u →
       let u := s.modCore c (fun k => { k with tapRows := rest })
       let old := u.spadRead c t p.off 4096
       u.spadBad c t p.off 4096 = false →
       (p.dc = true → dcOk old = true → exec (.tapRowInsert c) s = .next (u.spadWrite c t p.off
         (dcImage (sat64 (imgN old 0 8 + vs.length)) (imgN old 8 8) (vs.foldl (addItem (imgN old 8 8)) (dcRegs old))))) ∧
       (p.dc = false → sketchOk old = true →
         let q := vs.foldl (fun q x => q.offer p.abs (decF32 x)) (sketchOf old u.free)
         exec (.tapRowInsert c) s = .next { u.spadWrite c t p.off q.image with free := q.free })) ∧
     (∀ m t val y, (s.die d).store.next = some (k, m) → s.task? d m.tag.u = some t → m.commits = false →
       let held := fun (x : StStore) => match find? (bits m.av 15 0) x.slots with | some q => q.state | none => []
       let u := if m.op = 0x1A then s.healArena d (held (s.die d).store) (held y) (stOff m.av) (stLen m.bv) else s
       let done := u.modStore d (fun _ => { y with queue := del k y.queue, last := m.tag.g / 4 % 64 })
       (s.storeRun d t m = .ok val y none → exec (.stateCommandApply d) s = .next ((done.credit m.tag m.total).reportL5 m.tag val)) ∧
       (∀ off bs, s.storeRun d t m = .ok val y (some (off, bs)) →
         exec (.stateCommandApply d) s = .next (((done.spadWrite t.onCore t off bs).credit m.tag m.total).reportL5 m.tag val))) ∧
     (∀ m t, find? k (s.core c).index.queue = some m → s.task? (dieOfCore c) m.tag.u = some t →
       (m.element = true → m.next < ixCnt m.desc → indexFirst (s.core c).index.queue k = true → s.cmdHeld m.tag = false → s.portRoom c m.reach = true →
         let u := s.modIdx c k (fun m => { m with next := m.next + 1 })
         u.badIndex t m m.next = false →
         exec (.indexElementIssue c k) s = .next (u.startElement c k m.next m m.tag (u.listIndex t m m.next))) ∧
       (∀ x, find? e m.els = some x → s.cmdHeld x.tag = false → elementBehind (s.core c).index.queue m x = false →
         (m.element = true → s.elementRun t m e x = .ok r →
           exec (.indexElementArrival c k e) s = .next ((r.modIdx c k (fun m => { m with els := del e m.els })).elementDone c k (ixSize m.desc) false)) ∧
         (∀ bs, m.element = true → x.fault = none → m.op = 0x28 → s.cmdRead x.tag x.ia (ixSize m.desc) = .ok bs →
           exec (.indexElementArrival c k e) s = .next (((s.spadWrite t.onCore t (ixData m.desc + e * ixSize m.desc) bs).modIdx c k (fun m =>
             { m with els := del e m.els })).elementDone c k (ixSize m.desc) false)) ∧
         (∀ bs, m.element = true → x.fault = none → m.op = 0x29 →
           s.cmdSpad t (ixData m.desc + e * ixStride m.op m.desc) (ixStride m.op m.desc) = .ok bs → s.cmdWrite x.tag x.ia bs = .ok r →
           exec (.indexElementArrival c k e) s = .next ((r.modIdx c k (fun m => { m with els := del e m.els })).elementDone c k (ixSize m.desc) false)) ∧
         (∀ cause used, m.element = true → m.op ≠ 0x29 → s.elementRun t m e x = .fault cause used →
           exec (.elementPark c k e) s = .next ((s.use used).park c k e t m x cause)) ∧
         (∀ old, m.element = false → x.fault = none → x.ans = none → s.testAndSet x = .ok old r →
           exec (.bitmapTestAndSet c k e) s = .next (r.modIdx c k (fun m =>
             { m with els := put e { x with ans := some (bitN old (x.ea % 4 * 8 + x.idx % 8)) } m.els })))) ∧
       (m.element = false → (m.op ≠ 0x33 ∨ m.next ≠ 1) → indexFirst (s.core c).index.queue k = true → s.cmdHeld m.tag = false →
         (m.op = 0x2B → m.bv = 0 → exec (.indexCommandApply c k) s = .next (
           let u := s.modIndex c (fun x => { x with queue := del k x.queue })
           u.reportL5 m.tag (u.indexSnapshot c m.tag.u m.tag.g t.lost))) ∧
         (m.op = 0x2B → m.bv ≠ 0 →
           let n := m.bv.toNat
           let ps := (parkedOf (s.core c).index.parked m.tag.u (2 ^ 63)).take n
           let es := ps.map (fun p => p.2.toNat p.1)
           let bs := ((es ++ List.replicate (n - es.length) 0).map (bytesOf 16)).flatten
           let copied := (ps.zip (upFrom 0 n)).foldl (fun s q => if q.1.2.bad then s.spoilSpad c t (m.av.toNat + 16 * q.2) 16 else s) (s.spadWrite c t m.av.toNat bs)
           exec (.indexCommandApply c k) s = .next ((copied.credit m.tag (16 * n)).endList c k m (ixStatus false 0 (16 * n)))) ∧
         (m.op = 0x2C → exec (.indexCommandApply c k) s = .next (s.replay c k m (parkedOf (s.core c).index.parked m.tag.u m.av))) ∧
         (m.op = 0x2D → let mine := parkedOf (s.core c).index.parked m.tag.u m.av
           exec (.indexCommandApply c k) s = .next ((mine.foldl (fun s p => s.dropEntry c p.1 p.2 m.bv.toNat) s).endList c k m mine.length)) ∧
         (m.op ≠ 0x2B → m.op ≠ 0x2C → m.op ≠ 0x2D → exec (.indexCommandApply c k) s = .next (s.listRun c k t m))) ∧
       (∀ x w, find? e m.els = some x → x.ans = some true → m.els.all (fun y => decide (e ≤ y.1)) = true → s.workList t (wnHdr m.av) = some w → w.brk = false →
         exec (.testAndSetAnswer c k e) s = .next (((s.putList (dieOfCore c) m.tag.u t (wnHdr m.av) { w with dups := satAdd 32 w.dups 1 }).modIdx c k (fun m =>
           { m with els := del e m.els })).elementDone c k m.z false)))) ∧
  (∀ (s r : State) (c k u : Nat) (m : ArrayCmd) (t : Task), c < 131072 →
     let a := (s.core c).array
     (a.queue.head? = some (k, m) → a.holder = some u → s.task? (dieOfCore c) u = some t → a.paused = false →
       (m.run = false → s.arrayRuns c t = true → s.rowsAwaited t m = false →
         (m.op < 4 ∨ 10 ≤ m.op → exec (.arrayInstructionStart c) s = .next (s.arrayPlain c t k m)) ∧
         (m.op = 8 ∨ m.op = 9 → exec (.arrayInstructionStart c) s = .next (s.drain c t k m)) ∧
         (m.op = 8 → stg m.ctl 3 = false → stg m.ctl 4 = false → a.drainBad m = false → (∀ e ∈ m.reads, s.spadBad c t e.1 e.2 = false) →
           let bias := if stg m.ctl 7 then (upFrom 0 128).map (fun j => ofBytes (s.spadRead c t (panelOff m.bv + 4 * j) 4)) else []
           let ds := ((rows128 128 a.all).zip (upFrom 0 128)).map (fun p => s.drainOne a m false bias p.2 p.1)
           let left := if stg m.ctl 2 then a.bad else if stg m.ctl 1 then { a.bad with x := false } else { a.bad with acc := false }
           let u := s.modArray c (fun _ => { a with cells := (ds.map (·.cells)).flatten, bad := left,
                                                    queue := put k { m with run := true, beat := 0, reads := [], rows := [] } a.queue })
           exec (.arrayInstructionStart c) s = .next ((ds.zip m.rows).foldl (fun s p => s.putRow c p.2.1 (rowOfBytes p.1.bytes)) { u with free := u.free + 16384 })) ∧
         (4 ≤ m.op → m.op ≤ 7 → exec (.arrayInstructionStart c) s = .next ((if bitN m.ctl 7 then s.modArray c ArrayUnit.zeroed else s).arraySegment c t k m))) ∧
       (∀ g, m.run = true → m.beat < cmdBeats m.op m.av → t.ctx = some g →
         ((s.ctx g).preempt = some false → exec (.arrayPassInterrupt c) s = .next (s.modArray c (fun a => { a with paused := true }))) ∧
         ((s.ctx g).preempt ≠ some false → exec (.arrayPassInterrupt c) s = .next (s.arraySegment c t k m)))) ∧
     (a.queue.head? = some (k, m) → m.run = true → cmdBeats m.op m.av ≤ m.beat →
       exec (.arrayInstructionComplete c) s = .next (s.modArray c (fun a => { a with queue := del k a.queue }))) ∧
     (a.rel = true → a.queue = [] → (s.core c).tapRows = [] → a.holder = some u → s.task? (dieOfCore c) u = some t → t.closing = false →
       exec (.arrayRelease c) s = .next (s.modCore c (fun k => { k with array := ArrayUnit.init, tap := none }))) ∧
     (∀ q n tag bs rest ia, find? k (s.core c).streams = some q → q.rows = (n, tag, bs) :: rest → s.cmdHeld tag = false →
       s.regionAt (dieOfCore c) q.grp q.rank (q.off + 512 * (n % q.cap)) 512 = some ia → s.cmdWrite tag ia bs = .ok r →
       exec (.streamRowCredit c k) s = .next ((r.modCore c (fun x => { x with streams := put k { q with rows := rest } x.streams })).credit
         { tag with u := q.tag.u, h := q.tag.h } 512)))

/-- R408 to R434: a collective command is taken, contributes, and completes with its results; a slot of a reduction engine takes contributions,
answers them, fails on a differing signature, times out and is freed; its late window over, what it still holds late waits for the result
(R414); a queue message arrives or is sent again. That a chunk is one reduction over the ranks, with the exchanges of a transform in turn, and
that a transform without ranks to exchange with sends nothing, is the model's choice (log 44). -/
def Obligations.CollectiveEvents : Prop :=
  ∀ (s r : State) (d k id i : Nat), d < 2048 →
    (∀ m, s.colNext d = some (k, m) →
      let u := s.modColl d (fun c => { c with last := m.tag.g / 4 % 64 })
      (m.rej = true → exec (.collectiveCommandStart d) s = .next (u.modCol d k (fun m => { m with phase := 3, fault := some 1 }))) ∧
      (m.rej = false → m.op ≠ 0x38 → m.op ≠ 0x36 → exec (.collectiveCommandStart d) s = .next (u.modCol d k (fun m => { m with phase := 1 })))) ∧
    (∀ m, find? k (s.die d).coll.queue = some m →
      (∀ n x, m.op = 0x39 ∨ m.op = 0x3A → m.phase = 1 → m.fault = none → m.pos < tdLen m.ws → s.cmdHeld m.tag = false →
        s.transferBehind d k m = false → s.transferUnit d m = .ok (n, x) →
        let b := n * (if m.op = 0x39 then (tdTargets m.ws m.n m.rank).length else 1)
        exec (.transferUnitCredit d k) s = .next ((x.credit m.tag b).modCol d k (fun m => { m with pos := m.pos + n, cred := m.cred + b }))) ∧
      (∀ sub at_ used, numbered m.op = true → m.phase = 1 → m.fault = none → m.sig.kind ≠ 3 ∨ m.axis ≠ none → s.linked d = true →
        s.releasable m.tag = true → s.cmdHeld m.tag = false → s.payload m = .fail sub at_ used →
        exec (.contributionSend d k) s = .next (s.modCol d k (fun m => { m with fault := some 4, phase := 3 }))) ∧
      (∀ bs nan, numbered m.op = true → m.phase = 1 → m.fault = none → m.sig.kind = 3 → m.axis = none → s.releasable m.tag = true →
        s.cmdHeld m.tag = false → s.payload m = .ok (bs, nan) → exec (.contributionSend d k) s = .next (s.localTransform d k m bs)) ∧
      (∀ bs nan, numbered m.op = true → m.phase = 1 → m.fault = none → m.sig.kind ≠ 3 ∨ m.axis ≠ none → s.linked d = true →
        s.releasable m.tag = true → s.cmdHeld m.tag = false → s.payload m = .ok (bs, nan) →
        exec (.contributionSend d k) s = .next ((s.contribute d m bs nan).modCol d k (fun m =>
          { m with phase := 2, fault := if m.sig.kind = 4 && smpMode (smpTemp m.ws) = 3 then some 5 else none }))) ∧
      (s.colDone m = true → m.node = false → m.sta = none → m.op ≠ 0x3E → m.op ≠ 0x3F →
        let u := s.modColl d (fun c => { c with queue := del k c.queue })
        (m.ending = none → m.op ≠ 0x39 → m.op ≠ 0x3A → exec (.collectiveComplete d k) s = .next ((u.credit m.tag m.total).reportL5 m.tag m.status)) ∧
        (∀ sub, m.ending = some sub → exec (.collectiveComplete d k) s = .next (
          (u.deferFault m.tag 0x15 (info15 sub m.tag.h m.grp (if sub = 1 || !numbered m.op then m.word else m.seq)) m.writes).reportL5 m.tag m.status)))) ∧
    (∀ m q, find? id s.colMsgs = some m → m.up = true → m.refused = none → s.slotFor m = some (i, q) → q.phase ≠ 4 →
      let taken := { s with colMsgs := del id s.colMsgs }
      (m.bad = true → exec (.slotContributionArrival id) s = .next (taken.failSlot i q [] m.part.who)) ∧
      (m.bad = false → m.sig ≠ q.sig → exec (.slotContributionArrival id) s = .next (taken.failSlot i q m.part.who [])) ∧
      (m.bad = false → m.sig = q.sig → q.phase = 2 → exec (.slotContributionArrival id) s = .next (taken.setSlot i { q with late := q.late ++ m.part.who })) ∧
      (m.bad = false → m.sig = q.sig → q.phase = 0 →
        let q' := { q with parts := put m.idx m.part q.parts }
        exec (.slotContributionArrival id) s = .next (
          if (s.slotKids q').all (fun k => (find? k q'.parts).isSome) then taken.slotDone i q' false else taken.setSlot i q'))) ∧
    (∀ m t, find? id s.colMsgs = some m → m.refused = some t → t + 64 ≤ s.tick →
      exec (.contributionRefusedResend id) s = .next { s with colMsgs := put id { m with refused := none } s.colMsgs }) ∧
    (∀ q, find? i s.slots = some q →
      (q.alloc + q.tier * q.tmo ≤ s.tick → (q.phase = 0 → exec (.slotTimeout i) s = .next (s.slotDone i q true)) ∧
        (q.phase = 4 → q.since = 0 → exec (.slotTimeout i) s = .next (s.dropSlot i))) ∧
      (q.phase = 2 ∨ q.phase = 3 ∨ q.phase = 4 → q.since ≠ 0 → q.since + q.tmo ≤ s.tick →
        let key := markKey q.tier q.block q.grp
        let mark := match find? key s.marks with | some k => if seqAtMost q.seq k then k else q.seq | none => q.seq
        exec (.lateWindowEnd i) s = .next { (if q.phase = 2 && !q.late.isEmpty then s.setSlot i { q with phase := 5 } else s.dropSlot i) with
          marks := put key mark s.marks })) ∧
    (∀ x m, find? id s.colMsgs = some x → x.up = false → s.linked x.die = true →
      (s.die x.die).coll.queue.find? (fun q => numbered q.2.op && !q.2.rej && q.2.phase == 2 && q.2.grp == x.grp && q.2.seq == x.seq) = some (k, m) →
      ∀ whole, ({ s.wake x.die with colMsgs := del id s.colMsgs }).colPieces m m.dsp m.dbase true (resultBytes m x) = .ok (whole, r) →
      exec (.resultDelivery id) s = .next (r.modCol x.die k (fun c =>
        ({ c with got := put x.chunk ⟨x.ans, x.part.nan, x.part.miss, if m.sig.kind = 4 then ofBytes ((getD 0 [] x.part.data).drop 4) else 0,
                                      if m.sig.kind = 3 && !m.lastExchange then x.part.data else []⟩ c.got,
                  fault := if whole then c.fault else some (c.fault.getD 4) } : ColCmd).advanced))) ∧
    (∀ m, find? id s.qMsgs = some m →
      (∀ t, m.refused = some t → t + 64 ≤ s.tick → exec (.queueMessageResend id) s = .next { s with qMsgs := put id { m with refused := none } s.qMsgs }) ∧
      (m.refused = none → m.src = m.dst ∨ (s.linked m.src = true ∧ s.linked m.dst = true) → s.qMsgs.any (fun q => decide (q.1 < id) && q.2.src == m.src && q.2.dst == m.dst && q.2.grp == m.grp && q.2.q == m.q) = false →
        let x := s.grp m.dst m.grp
        let before := s
        let s := s.wake m.dst
        let taken := { s with qMsgs := del id s.qMsgs }
        x.v = true → x.member ≠ none →
        (32 ≤ (getD m.q [] x.queues).length → exec (.queueMessageArrival id) before = .next { s with qMsgs := put id { m with refused := some s.tick } s.qMsgs }) ∧
        ((getD m.q [] x.queues).length < 32 → exec (.queueMessageArrival id) before = .next (
          ((taken.setGrp m.dst m.grp { x with queues := put m.q (getD m.q [] x.queues ++ [m.val]) x.queues }).learnAll m.dst).modCol m.src m.cmd (fun c =>
            { c with phase := 3 })))))

/-- A 64-bit write of a register of die d by master m is granted (R437, R441). -/
abbrev Sys2Proof.Claims.Granted (s : State) (m d off : Nat) : Prop := (s.pkg (d / 4)).on = true ∧ s.granted d m 0 off 8 true = true

/-- A register of a die after a granted write, which wakes the die (R437, R450). -/
abbrev Sys2Proof.Claims.wrote (s : State) (d off : Nat) (v : W64) : State := (s.wake d).writeReg64 d off v

/-- R147, R166, R344, R357, R359, R407, R437, R438, R441 to R445: the events that are accesses of a master to a die's registers, each at its register's
offset. A write acts when the access table grants it, and is recorded when it does not. A read answers with the register; a denied one
with all ones on the sideband, and as an Unsupported Request to a host. -/
def Obligations.RegisterEvents : Prop :=
  ∀ (s : State) (m d c : Nat) (v : W64), d < 2048 → c < 131072 →
    (∀ off, Granted s m d off → exec (.registerWrite m d off v) s = .next (wrote s d off v)) ∧
    (∀ off, (s.pkg (d / 4)).on = true → s.granted d m 0 off 8 true = false → exec (.registerWrite m d off v) s = .next (s.denied d m off)) ∧
    (∀ off, (s.pkg (d / 4)).on = true →
      (s.granted d m 0 off 8 false = true →
        (m = 32 → exec (.registerRead m d off) s = .next ((s.wake d).answerMc (d / 4) [s.readReg64 d off])) ∧
        (m ≠ 32 → exec (.registerRead m d off) s = .next ((s.wake d).answerHost (d / 4) (some (bytes8 (s.readReg64 d off)))))) ∧
      (s.granted d m 0 off 8 false = false →
        (m = 32 → exec (.registerRead m d off) s = .next ((s.denied d m off).answerMc (d / 4) [w64 (2 ^ 64 - 1)])) ∧
        (m ≠ 32 → exec (.registerRead m d off) s = .next ((s.denied d m off).answerHost (d / 4) none)))) ∧
    (∀ p ∈ [(Instr.hostGraphSubmit, (0x00 : Nat)), (Instr.hostGraphDisable, 0x08), (Instr.pageInRefuse, 0x20), (Instr.hrCfg1Write, 0x110), (Instr.hrHeadWrite, 0x120)],
      Granted s m d p.2 → exec (p.1 m d v) s = .next (wrote s d p.2 v)) ∧
    (Granted s m d 0x100030 → exec (.haUopWriteLeaf m d) s = .next (wrote s d 0x100030 1) ∧ exec (.haUopCreate m d) s = .next (wrote s d 0x100030 2) ∧
      exec (.haUopRemove m d) s = .next (wrote s d 0x100030 3)) ∧
    (Granted s m d 0x200028 → exec (.stWatchArm m d v) s = .next (wrote s d 0x200028 (w64 (setBitsN v.toNat 63 63 1))) ∧
      exec (.stWatchDisarm m d v) s = .next (wrote s d 0x200028 (w64 (setBitsN v.toNat 63 63 0)))) ∧
    (Granted s m d 0x300008 → exec (.cgGroupCreate m d v) s = .next (wrote s d 0x300008 (w64 (setBitsN v.toNat 63 63 1))) ∧
      exec (.cgGroupDelete m d v) s = .next (wrote s d 0x300008 (w64 (setBitsN v.toNat 63 63 0)))) ∧
    (let reg := fun (i : Nat) => 0x1000000 + 65536 * (c % 64) + 8 * i
     (Granted s m (c / 64) (reg 1) → exec (.eventSetWrite m c v) s = .next (wrote s (c / 64) (reg 1) v)) ∧
     (Granted s m (c / 64) (reg 2) → exec (.eventClrWrite m c v) s = .next (wrote s (c / 64) (reg 2) v)) ∧
     (Granted s m (c / 64) (reg 3) → exec (.hostRunRequest m c v) s = .next (wrote s (c / 64) (reg 3) v)))

/-- R7, R9, R179, R406, R439 to R454: accesses through BAR2 and BAR4 that the access tables grant; the entries of a ring, and its interrupt; errors, links, power, reset, boot, attestation and the management controller. That an access through BAR2 is checked at the owner of its page (log 63), that one that must wait
stays posted, with the later ones of its function behind it (log 99), the HBM at power-on (log 1), the cause of a class-2 record and the layout
of the controller's answers (logs 62, 66, 15), and the lanes of a trained link (log 45) are the model's choices;
SHAKE256 (log 10) is taken from its standard. -/
def Obligations.PlatformEvents : Prop :=
  (∀ (s r : State) (pk fn x n v ring : Nat), pk < 512 →
     (∀ wr p h, (s.pkg pk).on = true → fn < 32 → x + n ≤ 2 ^ 36 → (s.pkg pk).posted = [] →
       let d := 4 * pk + 2 * (fn / 16 % 2)
       let ia := (getD (fn % 16) 0 (s.die d).apb * 2 ^ 36 + x) % 2 ^ 52
       let posted := s.modPkg pk (fun p => { p with posted := [.access fn x wr n v] })
       let u := (posted.wake d).wake h.owner
       let deps := (getD fn [] (s.pkg pk).fnDeps).filter (fun e => !u.covered e)
       let ps := pagePieces (n / 65536 + 2) ia n
       let write := u.writeMany d (2 ^ 32 - 1) deps (ps.map (fun p => (p.1, (bytesOf n v).drop (p.1 - ia) |>.take p.2)))
       posted.homeRec? d ia = some (p, h) → u.granted h.owner fn 1 ia n wr = true →
       (wr = true → write = .ok r → exec (.bar2Access pk fn x true n v) s = .next (r.modPkg pk (fun p => { p with posted := [] }))) ∧
       (∀ need, wr = true → write = .wait need →
         exec (.bar2Access pk fn x true n v) s = .next ((posted.meet need).modPkg pk (fun p => { p with posted := [.access fn x true n v] }))) ∧
       (∀ bs key st big, wr = false → u.readMany d .load deps ps = .ok bs key st big →
         exec (.bar2Access pk fn x false n v) s = .next (((u.modPkg pk (fun p => { p with fnDeps := put fn (st.foldl mergeEnt deps) p.fnDeps })).answerHost pk
           (some bs)).modPkg pk (fun p => { p with posted := [] })))) ∧
     (∀ x' wr wr' n' v' need, (s.pkg pk).on = true → fn < 32 → x + n ≤ 2 ^ 36 → (s.pkg pk).posted = [.access fn x' wr' n' v'] →
       let two := s.modPkg pk (fun p => { p with posted := [.access fn x' wr' n' v', .access fn x wr n v] })
       two.runPosted pk (.access fn x' wr' n' v') = .wait need →
       exec (.bar2Access pk fn x wr n v) s = .next ((two.meet need).modPkg pk (fun p => { p with posted := [.access fn x' wr' n' v', .access fn x wr n v] }))) ∧
     (let t := 4 * pk + x / 2 ^ 40 % 4
      let u := s.wake t
      let pa := x % 2 ^ 40
      let inside := Nat.min n (hbmBytes - pa)
      (s.pkg pk).on = true → x + n ≤ 2 ^ 42 →
       (s.granted t (16 * (fn % 2)) 3 x n true = true → exec (.bar4Access pk fn x true n v) s = .next ((u.writePA t pa ((bytesOf n v).take inside)).heal t pa inside)) ∧
       (s.granted t (16 * (fn % 2)) 3 x n false = true →
         exec (.bar4Access pk fn x false n v) s = .next (u.answerHost pk (some (u.readPA t pa inside ++ List.replicate (n - inside) 0xFF))))) ∧
     (let q := (s.pkg pk).ring ring
      (∀ e, q.en = true → q.full = false → ring < 1024 → (s.pkg pk).waiting.find? (fun e => e.ring == ring) = some e →
       let u := s.modPkg pk (fun p => { p with waiting := p.waiting.erase e })
       u.entryGranted pk e = true → exec (.ringEntryWrite pk ring) s = .next (u.modPkg pk (fun p => p.writeEntry u.tick e))) ∧
      (q.pending ≠ 0 → q.oldest + q.ctim ≤ s.tick → exec (.ringCoalesceTimeout pk ring) s = .next (s.modPkg pk (fun p => p.interrupt ring))))) ∧
  (∀ (s : State) (d c pk k src a i digest nonce n m : Nat) (img : List Byte), d < 2048 → c < 131072 → pk < 512 →
     ((∀ p, (s.pkg p).posted = []) → exec .referenceTick s = .next { s with tick := s.tick + 1, cyc := 0 }) ∧
     exec (.idleWake d) s = .next (s.wake d) ∧
     (s.idle d = true → exec (.idleEntry d) s = .next (s.modDie d (fun k =>
       { k with pwState := if 200000 ≤ (s.pkg (d / 4)).ltr then 3 else if 20000 ≤ (s.pkg (d / 4)).ltr then 2 else if 2000 ≤ (s.pkg (d / 4)).ltr then 1 else 0 }))) ∧
     exec (.droopStretch c) s = .next (s.modCore c (fun k => { k with droop := Nat.min (k.droop + 1) (2 ^ 32 - 1), stretched := true })) ∧
     exec (.droopRelease c) s = .next (s.modCore c (fun k => { k with stretched := false })) ∧
     exec (.uncorrectableError d src a) s = .next ((s.poisonWord d src a).errorRecord d 2 (errorCore src a) (errorEngine src a) (w64 a) 0x16 0 0 0) ∧
     exec (.eccCorrected d src a) s = .next (
       ({ s.modDie d (fun k => { k with hiEcc := Nat.min (k.hiEcc + 1) (2 ^ 32 - 1) }) with free := s.free + 1 }).errorRecord d 1 (errorCore src a) (errorEngine src a) (w64 a) (Config.freeWord s.free) 0 0 0) ∧
     (∀ v, (s.core c).hashPend = some v → s.allocated c = false →
       exec (.spadHashApply c) s = .next (s.modCore c (fun k => { k with hash := w64 (bits v 59 0 + bits v 63 60 * 2 ^ 60), hashPend := none }))) ∧
     (k < 24 →
       ((s.port d k).up = true → exec (.portLinkDown d k) s = .next (
         (State.resent { s.modPort d k (fun p => { p with up := false, lanes := 0 }) with
            net := s.net.map (fun (q : Nat × Msg) =>
              if q.2.origin = d && q.2.kind.causal && !q.2.ids.isEmpty then (q.1, { q.2 with last := s.tick }) else q) } d).errorRecord d 6 255 0 0 (w64 k) 0 0 0)) ∧
       exec (.portLinkUp d k) s = .next (({ s with free := s.free + 1 }).modPort d k (fun p =>
         { p with up := true, lanes := 1 + (Config.freeWord s.free).toNat % 2 })) ∧
       exec (.flitReceiveError d k) s = .next (s.modPort d k (fun p => { p with err := Nat.min (p.err + 1) 65535 }))) ∧
     ((s.pkg pk).on = true → exec (.coldReset pk) s = .next (s.coldReset pk) ∧ exec (.mcColdReset pk) s = .next (s.coldReset pk)) ∧
     ((s.pkg pk).on = false → exec (.mcPowerOn pk) s = .next (
       (((upFrom (4 * pk) 4).foldl (fun s d => { s with mem := cellsClear s.mem (paKey d 0) (2 ^ 40) }) s).modPkg pk (fun p => { p with on := true })).coldReset pk)) ∧
     exec (.mcPowerOff pk) s = .next ((s.clearPkg pk).modPkg pk (fun p => { p with on := false })) ∧
     (i < 8 → exec (.stageMeasurement d i digest) s = .next (s.modDie d (fun k =>
       { k with measure := put i (ofBytes (shake256 (bytesOf 64 (getD i 0 k.measure) ++ bytesOf 64 digest))) k.measure }))) ∧
     ((s.die d).recovery = false ∨ m = 32 → exec (.attestationRequest m d nonce) s = .next (s.attest d nonce)) ∧
     exec (.mcAttestation d nonce) s = .next (s.attest d nonce) ∧
     ((s.pkg pk).on = true → 
       let read := fun (s : State) (d : Nat) => s.hostRead 32 d 0x28
       let s1 := read s (4 * pk)
       let s2 := read s1 (4 * pk + 1)
       let s3 := read s2 (4 * pk + 2)
       let s4 := read s3 (4 * pk + 3)
       exec (.mcReadErrors pk) s = .next (s4.answerMc pk ((s.pkg pk).errors.flatten ++ [s1, s2, s3, s4].flatMap (fun t => (t.pkg pk).mcOut)))) ∧
     exec (.mcReadSensors pk) s = .next (({ s with free := s.free + 2 }).modPkg pk (fun p => { p with mcOut := [Config.freeWord s.free, Config.freeWord (s.free + 1)] })) ∧
     exec (.mcFirmwareUpdate pk img) s = .next (s.modPkg pk (fun p => { p with flash := img })) ∧
     exec (.mcSetPackageNumber pk n) s = .next (s.modPkg pk (fun p => { p with number := n % 512 })))

-- Encoding --------------------------------------------------------------------------------------------------------------------

/-- R60 to R68: words written out field by field from the layouts decode to the instruction they stand for, and refused words are refused with
the cause R46 gives them. -/
def Obligations.DecodeExamples : Prop :=
  decodeWord .s0 0b000001_00000001_10_001_1111111111111#32 = .ok (.jmp (-1)) ∧
  decodeWord .s0 0b001001_00000000_01_010_00011_00000111#32 = .ok (.loop 1 2 3 7) ∧
  decodeWord .s1 0b0000001_1100_0000001_1011000_0000011#32 = .ok (.add 12 1 88 3) ∧
  decodeWord .s2 0b0010110_0000_0000111_11111111111110#32 = .ok (.li 0 7 0x3FFE) ∧
  decodeWord .s3 0b000100_0000_0001010_0000011_11111110#32 = .ok (.ldD 0 10 3 0xFE) ∧
  decodeWord .s3 0b101000_0000_0000101_0000010_1000_01_11#32 = .ok (.amoW 0 5 2 8 1 3) ∧
  decodeWord .s4 0b000001_001_00_0000011_0000010_0000001#32 = .ok (.vadd 1 0 3 2 1) ∧
  decodeWord .s5 0b001110_000_00_0000100_0000010_1_100001#32 = .ok (.vcvt 0 0 4 2 1 0x21) ∧
  decodeWord .s6 0b000110_0000_0000001_0000010_1_00000_11#32 = .ok (.msp 0 1 2 1 3) ∧
  decodeWord .s7 0b000001_0000_0000001_0000010_00000101#32 = .ok (.cpy 0 1 2 5) ∧
  decodeWord .s7 0b100011_0000_0000001_0000000_11111111#32 = .ok (.own 0 1) ∧
  decodeWord .s0 0b001111_00000000_00_000_0000000000000#32 = .error .undefinedEncoding ∧
  decodeWord .s0 0b000000_00000000_00_000_0000000000001#32 = .error .reservedField ∧
  decodeWord .s0 0b000000_00000000_01_110_0000000000000#32 = .error .undefinedEncoding

/-- R18, R46, R60 to R68: decoding the word of a well-formed instruction gives the instruction back, in every slot that can hold it and with
every operand and every header, and so does decoding a bundle with the word in that slot. -/
def Obligations.EncodeDecode : Prop :=
  ∀ (sl : Sys2Proof.Slot) (i : Instr) (h : Header), i.wf sl = true → h.wf i = true →
    decodeWord sl (i.encode h) = .ok i ∧
    (sl = .s0 → headerIn sl i (i.encode h) = h) ∧
    (bundleWords (bundleBytes sl (i.encode h)))[sl.num]? = some (sl, i.encode h)

-- Steps -----------------------------------------------------------------------------------------------------------------------

/-- What is true of a slot as it runs: its number and its word are those of the frame (R48), and it has found nothing yet. -/
abbrev Sys2Proof.Claims.slotState (s : State) (n : Nat) (w : BitVec 32) : State :=
  { s with bun := { s.bun with slot := n, word := w, trap := none, stall := false, busy := false, need := none, probe := false, refill := false, sync := false } }

/-- R18, R19, R42, R43, R47, R55, R128, R148, R150: a step is exec of the next event; the issue of the context that the selector takes runs the eight
words at its PC, S0 last, each word's effect being exec of what it decodes to on what the earlier slots left; a word that names an instruction but
breaks a reserved field has no effect, and the issue-time 0x01 it would raise comes first (R47); a slot that stalls, waits or
raises a cause leaves nothing, a bundle with none of these commits, and its PC becomes that of the jump, or that of the end-of-body
action. The agenda and the order of events without one (log 3), that a slot instruction in the agenda is dropped (log 4), and the rank of
waiting slots among the causes (log 75) are the model's choices. -/
def Obligations.StepRunsDecoded : Prop :=
  (∀ (s : State) (i : Instr) (rest : List Instr), s.agenda = i :: rest →
    (i.space? = none → step s = exec i { s with agenda := rest }) ∧ (i.space? ≠ none → step s = .next { s with agenda := rest })) ∧
  (∀ (s : State), s.agenda = [] → (eventTries s).findSome? (changes s) = none → s.cyc < 10 →
    ∀ t, s.busyCores.findSome? s.coreNext = some t → step s = .next t) ∧
  (∀ (s : State) (g key ia : Nat) (bs : List Byte), g < 524288 → s.ready g = true → let u := s.noteStall (g / 4)
    u.selected (g / 4) = some g → (u.ctx g).issuable = true → u.bundleAt g = .ok (.bytes bs key ia) → keyReads (u.ctx g).pkr key = true →
    exec (.bundleIssue g) s = .next (u.runBundle g (u.taken g) (slotsOf bs))) ∧
  (∀ (bs : List Byte) (k : Nat) (sl : Sys2Proof.Slot), allSlots[k]? = some sl →
    ((slotsOf bs)[k]?).map (fun x => (x.slot, x.word, x.instr?)) =
      some (sl, wordAt bs k, match decodeWord sl (wordAt bs k) with | .ok i => some i | .error _ => none)) ∧
  (∀ (s : State) (g n : Nat) (xs : List SlotWord), xs ≠ [] → (s.ctx g).suppresses (s0Of xs) = false → s.lowestPending g = none →
    staticCauses xs ++ repeatedDests (s.ctx g) [] xs = [] →
    let w := s.considerWait g n (s0Of xs)
    let p := (s.plan g n w [] xs).spilled s g n w [] xs
    (p.found = [] → s.popCause g xs = none →
      s.runBundle g n xs = if p.stall || p.busy then s.stalled g w p else s.commit p.s g (headerOf (s0Of xs).word).pop.toNat)) ∧
  (∀ (p : Plan) (x : SlotWord) (i : Instr), x.instr? = some i → i.space? ≠ none →
    ∃ t, exec i (slotState p.s x.slot.num x.word) = .next t ∧
      (t.bun.trap = none → t.bun.stall = false → t.bun.busy = false → p.run x = { p with s := t }) ∧
      (t.bun.trap = none → t.bun.stall = true → (p.run x).stall = true ∧ (p.run x).s = p.s) ∧
      (t.bun.trap = none → t.bun.busy = true → (p.run x).busy = true ∧ (p.run x).s = p.s) ∧
      (∀ c, t.bun.trap = some c → p.run x = { p with found := p.found ++ [⟨x.slot.num, c.1, c.2⟩] })) ∧
  (∀ (p : Plan) (x : SlotWord), x.instr? = none →
    (x.named? = none → p.run x = p) ∧
    (∀ i, x.named? = some i →
      (∀ info, (p.after x i).bun.trap = some (1, info) → p.run x = { p with found := p.found ++ [⟨x.slot.num, 1, info⟩] }) ∧
      ((∀ info, (p.after x i).bun.trap ≠ some (1, info)) → p.run x = p))) ∧
  (∀ (s t : State) (g : Nat), t.bun.stop = none →
    let ended := fun (c : Ctx) => { c with wait := none, fetched := none, halted := c.halted || t.bun.halt }
    (t.bun.jumped = true → (t.ctx g).pc.toNat < 2 ^ 57 → (s.commit t g 0).ctx g = ended (t.ctx g)) ∧
    (t.bun.jumped = false → ((t.ctx g).afterBundle (s.ctx g)).pc.toNat < 2 ^ 57 → (s.commit t g 0).ctx g = ended ((t.ctx g).afterBundle (s.ctx g)))) ∧
  (∀ c pre : Ctx, c.levels = [] → c.afterBundle pre = { c with pc := pre.pc + 32 })

/-- R49: a slot whose guard evaluates false has no effect; the guard's high bit inverts and its low three bits name a predicate, p0 being always
true; S0, S4 and S5 have no guard. -/
def Obligations.FalseGuard : Prop :=
  (∀ (i : Instr) (sl : Sys2Proof.Slot) (g : BitVec 4) (s : State), i.wf sl = true → guardOf i = some g → s.pre.guardValue g = some false → exec i s = .next s) ∧
  (∀ i : Instr, i.space? = some .control ∨ i.space? = some .vector0 ∨ i.space? = some .vector1 → guardOf i = none) ∧
  (∀ (c : Ctx) (g : BitVec 4), c.pending (128 + g.toNat % 8) = false →
    c.guardValue g = some ((g.toNat % 8 == 0 || c.pred.toNat.testBit (g.toNat % 8)) != decide (8 ≤ g.toNat)))

/-- R50: a scalar operand specifier read as a source names a register, a queue latch, as the bundle finds it, or a constant from −16 to 15;
86 and 87 raise cause 0x01. A register whose write is pending stalls the slot (R42); a queue entry with an uncorrectable error raises 0x16 (of R36, for this source). -/
def Obligations.SourceSpecifier : Prop :=
  ∀ (s : State) (x : BitVec 7) (k : W64 → State),
    (x.toNat < 86 → s.pre.pending x.toNat = false → find? x.toNat s.pre.poison = none → s.withSource x k = k (s.pre.reg x.toNat)) ∧
    (x.toNat < 86 → s.pre.pending x.toNat = true → s.withSource x k = s.stall) ∧
    (x = 86 ∨ x = 87 → s.withSource x k = s.raise 1 s.slotInfo) ∧
    (88 ≤ x.toNat → x.toNat < 96 → s.withSource x k = match s.preLatch (x.toNat - 88) with
      | [] => s.stall
      | v :: _ => match (if s.bun.on then s.bun.latches else s.latches s.cur).bind (fun q => s.headBad (dieOfCtx s.cur) q.1 (x.toNat - 88)) with
        | some info => s.raise 0x16 info
        | none => k v) ∧
    (96 ≤ x.toNat → s.withSource x k = k (BitVec.ofInt 64 ((x.toNat : Int) - 112)))

-- Traps and reset -------------------------------------------------------------------------------------------------------------

/-- R124, R162, R163: a trap that is not fatal enters the handler: trap.cause takes the cause with act, trap.pc and trap.info are written, the
next PC is trap.vec's, the loop nest is kept for the handler's issue modes, and nothing else changes. Cause 0x06 and a fatal trap end the task, which becomes FAULTED with code 3 and
leaves its context; a fatal trap's cause goes to the host's error record with its trap.pc and trap.info. -/
def Obligations.TrapEntry : Prop :=
  ∀ (s : State) (g cause : Nat) (pc info : W64), cause < 256 →
    let c := s.ctx g
    let t := s.takeTrap g cause pc info
    let fatal := bit c.trap.cause 8 || !bit c.trap.vec 0
    (cause ≠ 6 → fatal = false →
      t = s.setCtx g { c with pc := w64 (c.trap.vec.toNat / 32 % 2 ^ 52 * 32), wait := none,
                              trap := ⟨w64 (256 + cause), pc, info, c.trap.vec, c.trap.keep0, c.trap.keep1⟩, entryLevels := c.levels }) ∧
    (∀ u v, c.task = some u → s.task? (dieOfCtx g) u = some v → cause = 6 ∨ fatal = true →
      (t.ctx g).life = .free ∧ (t.ctx g).task = none ∧ (t.ctx g).trap.cause = 6 ∧ (t.ctx g).regs = c.regs ∧ t.mem = s.mem ∧
      (∃ v', t.task? (dieOfCtx g) u = some v' ∧ v'.stop = some (.faulted 3) ∧ v'.ctx = none ∧ v'.words = v.words) ∧
      (∀ h, h ≠ g → t.ctx h = s.ctx h) ∧
      (cause = 6 → t.pkgs = s.pkgs ∧ (t.ctx g).trap.pc = pc ∧ (t.ctx g).trap.info = info) ∧
      (cause ≠ 6 → (t.pkg (dieOfCtx g / 4)).errors =
        (s.pkg (dieOfCtx g / 4)).errors ++ [[w64 (3 + 256 * (coreOfCtx g % 64) + 65536 * causeEngine cause info), 0, w64 cause, pc, info, w64 v.ia, w64 (s.dieTick (dieOfCtx g))]]))

/-- R9, R133, R147, R162, R357, R407, R452: after a cold reset of its package every context, core and die is as at power-on: contexts FREE with
p0 alone true and no handler installed, no event bit, no home agent at work, the tick register at 0, no measurement. Other packages stay as
they are; that the HBM stays too is the model's choice (log 1), and the values that the spec does not give are those of log 2. At power-on the memory is in its canonical form. -/
def Obligations.ResetState : Prop :=
  (∀ (g c d : Nat), let s := State.reset
    Memory.wf s.mem = true ∧ s.tick = 0 ∧ (s.ctx g).life = .free ∧ (s.ctx g).pred = 1 ∧ (s.ctx g).fpstat = 0 ∧ (s.ctx g).trap = ⟨0, 0, 0, 0, 0, 0⟩ ∧ (s.ctx g).vbind = 0 ∧
    (s.core c).event = 0 ∧ (s.core c).hash = 0 ∧ s.serving d = false ∧ (s.die d).homeRecs = [] ∧ (s.die d).measure = [] ∧
    (∀ n, (s.grp d n).v = false ∧ (s.grp d n).member = none)) ∧
  (∀ (s : State) (pk : Nat), pk < 512 → (s.pkg pk).on = true → ∃ t, exec (.coldReset pk) s = .next t ∧
    (∀ g, t.ctx g = if g / 1024 = pk then Ctx.init else s.ctx g) ∧
    (∀ c, t.core c = if c / 256 = pk then Core.init else s.core c) ∧
    (∀ d, d / 4 = pk → (t.die d).tickBase = s.tick ∧ (t.die d).haCtl = 0 ∧ (t.die d).compass = Die.init.compass ∧ (t.die d).pages = [] ∧
      (t.die d).access = [] ∧ (t.die d).measure = []) ∧
    (∀ d, d / 4 ≠ pk → t.die d = s.die d) ∧ t.mem = s.mem ∧ t.tick = s.tick)

-- Frames ----------------------------------------------------------------------------------------------------------------------

/-- What a slot instruction leaves of the memory, of the registers it does not name, and of the other contexts. -/
abbrev Sys2Proof.Claims.Untouched (s t : State) (ds : List Nat) : Prop :=
  (∀ a, cellGet t.mem a = cellGet s.mem a) ∧ (∀ n, n ∉ ds → t.me.reg n = s.me.reg n) ∧ (∀ g, g ≠ s.cur → t.ctx g = s.ctx g)

/-- The scalar instructions that raise floating-point conditions (R147, R172). -/
abbrev Sys2Proof.Claims.floats : Instr → Bool
  | .faddF32 _ _ _ _ | .fsubF32 _ _ _ _ | .fmulF32 _ _ _ _ | .ffmaF32 _ _ _ _ | .fcmpF32 _ _ _ _ _ | .fcvt _ _ _ _ _
  | .faddF64 _ _ _ _ | .fsubF64 _ _ _ _ | .fmulF64 _ _ _ _ | .ffmaF64 _ _ _ _ | .fcmpF64 _ _ _ _ _ => true
  | _ => false

/-- The control instructions that act on their context alone (R41, R158, R159, R164 to R166). -/
abbrev Sys2Proof.Claims.local : Instr → Bool
  | .jmp _ | .jmpc _ _ | .jmpi _ | .jmpm _ | .loop _ _ _ _ | .loopi _ _ _ _ | .lbrk _ | .trap _ | .brk _ | .halt | .eret => true
  | _ => false

/-- R19, R41, R147, R156, R157, R160, R164 to R166, R170 to R173: a scalar instruction changes no byte of memory, no other context, and no register
and no predicate but its destination; in a bundle it changes nothing else of its context but, when it is a floating-point one, fpstat, and
nothing of any core or die. A control instruction changes no register, no predicate (sysw apart, which may write pred) and no row but its
destination (s59 for call, calli and ret; the predicate pt of wait's control word), and, gsub apart, no other context. Besides gsub, only call
and calli change a byte of memory, and only the 16 KiB of the shadow-stack block that they spill; only they and ret change a scratchpad. The
jumps, the loops, trap, brk, halt and eret of a bundle change nothing of any core or die, and send nothing. -/
def Obligations.ScalarFrame : Prop :=
  (∀ (i : Instr) (s t : State), i.space? = some .scalar → exec i s = .next t →
     Untouched s t (destinations i) ∧ (∀ k, k < 8 → 128 + k ∉ destinations i → t.me.p k = s.me.p k) ∧
     (s.bun.on = true → t.cores = s.cores ∧ t.dies = s.dies ∧ t.net = s.net ∧ (floats i = false → t.me.fpstat = s.me.fpstat) ∧
       { t.me with regs := s.me.regs, poison := s.me.poison, l5 := s.me.l5, pred := s.me.pred, fpstat := s.me.fpstat } = s.me)) ∧
  (∀ (i : Instr) (s t : State), i.space? = some .control → exec i s = .next t →
     (∀ n, n ∉ destinations i → t.me.reg n = s.me.reg n) ∧
     ((∀ r x, i ≠ .sysw r x) → ∀ k, k < 8 → 128 + k ∉ destinations i → (∀ w, i = .wait w → k ≠ waitPt (s.pre.waitWord w.toNat 0)) → t.me.p k = s.me.p k) ∧
     (∀ c r, (t.core c).row r = (s.core c).row r) ∧
     (s.bun.on = true → Claims.local i = true → t.cores = s.cores ∧ t.dies = s.dies ∧ t.net = s.net) ∧
     ((∀ x, i ≠ .gsub x) →
       (∀ g, g ≠ s.cur → t.ctx g = s.ctx g) ∧
       ((∀ j, i ≠ .call j) → (∀ x, i ≠ .calli x) → (∀ a, cellGet t.mem a = cellGet s.mem a) ∧ (i ≠ .ret → ∀ c, (t.core c).spad = (s.core c).spad)) ∧
       ((∃ j, i = .call j) ∨ (∃ x, i = .calli x) →
         let spills := fun (ia d pa : Nat) => shadowDep s.pre.shadowTop = 2048 ∧ s.bun.on = false ∧ s.shadowIA (shadowBlk s.pre.shadowTop) true = .inl ia ∧
           s.placeOf s.myDie ia (s.pendingSet s.cur) = .at_ d ∧ ∃ e, s.checkAt d ia (.spill true) = .ok pa e
         (∀ ia d pa, spills ia d pa → ∀ a, a < paKey d pa ∨ paKey d pa + 16384 ≤ a → cellGet t.mem a = cellGet s.mem a) ∧
         (shadowDep s.pre.shadowTop ≤ 2048 → (∀ ia d pa, ¬ spills ia d pa) → ∀ a, cellGet t.mem a = cellGet s.mem a))))

/-- R182, R187, R206 to R212: an S3 instruction changes no byte of memory when it issues (its stores leave as requests), no other context, and no
register but its destinations; only sts and vsts write the scratchpad, and only vlds a row. -/
def Obligations.MemoryPortFrame : Prop :=
  ∀ (i : Instr) (s t : State), i.space? = some .memory → exec i s = .next t →
    Untouched s t (destinations i) ∧
    ((∀ g d b z o, i ≠ .sts g d b z o) → (∀ g v b o, i ≠ .vsts g v b o) → ∀ c, (t.core c).spad = (s.core c).spad) ∧
    ((∀ g v b o, i ≠ .vlds g v b o) → ∀ c, (t.core c).rows = (s.core c).rows)

/-- R19, R240: a vector instruction changes no byte of memory, no other context, no scratchpad, no register but vred's four, and no row but that of its
destination. -/
def Obligations.VectorFrame : Prop :=
  ∀ (i : Instr) (s t : State), i.space? = some .vector0 ∨ i.space? = some .vector1 → exec i s = .next t →
    Untouched s t (destinations i) ∧ (∀ c, (t.core c).spad = (s.core c).spad) ∧
    (∀ r, (∀ k, 256 + k ∈ destinations i → r ≠ s.vrow k) → ∀ c, (t.core c).row r = (s.core c).row r)

/-- R23, R26, R264, R457: an S6 or S7 instruction changes no byte of memory when it issues, no other context, no register but mst's destination and l5,
no row, and, mstr apart (which arms on its stream's handle), no byte of the scratchpad outside the task's barrier page. -/
def Obligations.CommandFrame : Prop :=
  ∀ (i : Instr) (s t : State), i.space? = some .array ∨ i.space? = some .engine → exec i s = .next t →
    Untouched s t (85 :: destinations i) ∧ (∀ c r, (t.core c).row r = (s.core c).row r) ∧
    (∀ v, s.boundTask s.cur = some v → s.pre.task = s.me.task → (∀ g a b st, i ≠ .mstr g a b st) → ∀ x, (∀ j, j < 4096 → x ≠ v.spadAddr j) →
      cellGet (t.core s.myCore).spad x = cellGet (s.core s.myCore).spad x)

/-- Bytes written at a die's physical address, and nothing else: byte j of the bytes stands at pa + j, and every other byte is as before; the memory
keeps its canonical form. -/
abbrev Sys2Proof.Claims.Stored (s t : State) (d pa : Nat) (bs : List Byte) : Prop :=
  (∀ j v, bs[j]? = some v → cellGet t.mem (paKey d pa + j) = v) ∧
  (∀ a, a < paKey d pa ∨ paKey d pa + bs.length ≤ a → cellGet t.mem a = cellGet s.mem a) ∧
  (Memory.wf s.mem = true → Memory.wf t.mem = true)

/-- R187, R195, R197, R201, R210, R440: a write applied at its owner stores its bytes at the address its page translates to, and no other byte; one in two
pieces (a sector and its block-scale byte, R93) stores both where both pass, and none otherwise; an atomic update its new value; a rejected one
stores nothing. A write through BAR4 stores its bytes. -/
def Obligations.StoredBytes : Prop :=
  (∀ (s0 : State) (id : Nat) (m : Msg), Sent s0 id m → let s := s0.arrive m
    s.servable m = true →
    (m.kind = .write ∧ s.inSequence m = true ∨ m.kind = .writeNc →
      (∀ c rej key, m.ia2 = none → s.writeCheck m = (c, rej, key) → ∃ t, exec (.causalWriteApply id) s0 = .next t ∧
        (∀ pa e, c = .ok pa e → Stored s t m.target pa (m.data.take m.n)) ∧ (∀ w, c = .denied w → t.mem = s.mem)) ∧
      (∀ a c rej key c2 rej2 key2, m.ia2 = some a → s.writeCheck m = (c, rej, key) → s.writeCheckAt m a = (c2, rej2, key2) →
        ∃ t, exec (.causalWriteApply id) s0 = .next t ∧
          (∀ pa e pb e2, c = .ok pa e → c2 = .ok pb e2 → ∃ u, Stored s u m.target pa (m.data.take m.n) ∧ Stored u t m.target pb (m.data.drop m.n)) ∧
          ((∃ w, c = .denied w) ∨ (∃ w, c2 = .denied w) → t.mem = s.mem))) ∧
    (∀ a lv big le c rej key, m.ia2 = none → m.kind = .atomic a → s.inSequence m = true → s.myTurn m.target m.ia m.origin id = true →
      s.walk m.target m.ia = .leaf lv big le → s.writeCheck m = (c, rej, key) →
      ∃ t, exec (.atomicUpdateServe id) s0 = .next t ∧
        (∀ pa e, c = .ok pa e → s.badAt m.target pa m.n = none →
          let old := ofBytes (s.readPA m.target (leafPA big le m.ia) m.n)
          (a.fails old = false → Stored s t m.target pa (bytesOf m.n (a.newValue old))) ∧ (a.fails old = true → t.mem = s.mem)) ∧
        (∀ w, c = .denied w → t.mem = s.mem))) ∧
  (∀ (s : State) (pk fn x n v : Nat), pk < 512 → (s.pkg pk).on = true → x + n ≤ 2 ^ 42 → s.granted (4 * pk + x / 2 ^ 40 % 4) (16 * (fn % 2)) 3 x n true = true →
    ∃ t, exec (.bar4Access pk fn x true n v) s = .next t ∧
      Stored s t (4 * pk + x / 2 ^ 40 % 4) (x % 2 ^ 40) ((bytesOf n v).take (Nat.min n (hbmBytes - x % 2 ^ 40))))

/-- R13: the memory keeps its canonical form (log 1): addresses rise strictly, and no listed byte is one that an unlisted address reads as. -/
abbrev Sys2Proof.Claims.Canonical (s : State) : Prop := Memory.wf s.mem = true

/-- Every step keeps the canonical form of the memory; ResetState says that it holds after reset. -/
def Obligations.MemoryCanonical : Prop :=
  ∀ s s' : State, Canonical s → step s = .next s' → Canonical s'
end

