-- ==== Sys2Proof/Laws/Bits.lean ====
section
/-! SUPPORT. The bit counts and fields of Machine/Bits.lean, said in Lean's own terms. -/

namespace Sys2Proof.Machine

/-- popcountN counts the bits that are set (R170). -/
theorem popcountN_eq (w x : Nat) : popcountN w x = (List.range w).countP x.testBit := by
  induction w generalizing x with
  | zero => rfl
  | succ w ih =>
    rw [List.range_succ_eq_map, List.countP_cons, List.countP_map, popcountN, ih]
    have h : (x.testBit ∘ Nat.succ) = (x / 2).testBit := by funext k; simp [Nat.testBit_succ]
    rw [h, Nat.testBit_zero]
    rcases Nat.mod_two_eq_zero_or_one x with e | e <;> simp [e, Nat.add_comm]

/-- ctzN is the lowest bit that is set, or the width (R170). -/
theorem ctzN_eq (w x : Nat) : ctzN w x = ((List.range w).find? x.testBit).getD w := by
  induction w generalizing x with
  | zero => rfl
  | succ w ih =>
    rw [List.range_succ_eq_map, List.find?_cons, List.find?_map, ctzN, ih]
    have h : (x.testBit ∘ Nat.succ) = (x / 2).testBit := by funext k; simp [Nat.testBit_succ]
    rw [h, Nat.testBit_zero]
    rcases Nat.mod_two_eq_zero_or_one x with e | e <;> simp [e]
    cases List.find? (x / 2).testBit (List.range w) <;> simp [Nat.add_comm]

/-- clzN counts the zeros above the highest bit that is set (R170). -/
theorem clzN_eq (x : Nat) (h : x < 2 ^ 64) : clzN 64 x = ((List.range 64).find? (fun k => x.testBit (63 - k))).getD 64 := by
  unfold clzN
  rw [Nat.mod_eq_of_lt h]
  split
  · rename_i h0
    subst h0
    simp only [Nat.zero_testBit]
    rfl
  · rename_i h0
    have hl : Nat.log2 x < 64 := (Nat.log2_lt h0).2 h
    have e : (List.range 64).find? (fun k => x.testBit (63 - k)) = some (63 - Nat.log2 x) := by
      rw [List.find?_range_eq_some]
      refine ⟨?_, ?_, ?_⟩
      · rw [show 63 - (63 - x.log2) = x.log2 by omega, Nat.testBit_log2 h0]
      · simp; omega
      · intro j hj
        have : x < 2 ^ (63 - j) := (Nat.log2_lt h0).1 (by omega)
        simp [Nat.testBit_lt_two_pow this]
    rw [e]
    simp

/-- A 57-bit address has no high bits (R148). -/
theorem bits_high_zero {v : W64} (h : v.toNat < 2 ^ 57) : bits v 63 57 = 0 := by
  simp only [bits, bitsN]
  rw [Nat.div_eq_of_lt h, Nat.zero_mod]

theorem bits_high_ne {v : W64} (h : 2 ^ 57 ≤ v.toNat) : bits v 63 57 ≠ 0 := by
  have := v.isLt
  simp only [bits, bitsN]
  omega

end Sys2Proof.Machine
end

