-- ==== Sys2Proof/Laws/Access.lean ====
section
/-! SUPPORT. What the address checks, the synchronous loads and the jumps do when their conditions hold. -/

namespace Sys2Proof.Machine

/-- Bytes that no faulting work writes are read (R34). -/
theorem State.readsMem_ok {s : State} {ia n : Nat} (h : s.memFaulted ia n = false) (k : State) : s.readsMem ia n k = k := by simp [State.readsMem, h]
theorem State.readsSpad_ok {s : State} {a n : Nat} (h : s.spadFaulted a n = false) (k : State) : s.readsSpad a n k = k := by simp [State.readsSpad, h]

/-- An access that waits for no acquire and for no room goes on (R32, R192). -/
theorem State.afterAcquire_ok {s : State} (ha : s.acquireOut s.cur = false) (hp : s.portFull s.myCore = false) (k : State) : s.afterAcquire k = k := by
  simp [State.afterAcquire, State.waitWhile, ha, hp]

/-- An access that lies in a window, is aligned and stays inside the footprint goes on (R205); a read meets no result of faulting work (R34). -/
theorem State.globalCheck_ok {s : State} {wr : Bool} {ea n align ia w : Nat} (ht : translate s.pre.wnd ea n = some (ia, w))
    (ha : ea % align = 0) (hf : footprintMiss (s.card s.cur) wr ia n = none) (hm : wr = true ∨ s.memFaulted ia n = false) (k : Nat → Nat → State) :
    s.globalCheck wr ea n align k = k ia w := by
  unfold State.globalCheck
  simp only [ht, hf, ha]
  rcases hm with h | h <;> simp [h, State.readsMem]

theorem State.globalCheck_window {s : State} {wr : Bool} {ea n align : Nat} (ht : translate s.pre.wnd ea n = none)
    (k : Nat → Nat → State) : s.globalCheck wr ea n align k = s.raise 5 (vaInfo wr ea) := by
  simp [State.globalCheck, ht]

theorem State.globalCheck_align {s : State} {wr : Bool} {ea n align ia w : Nat} (ht : translate s.pre.wnd ea n = some (ia, w))
    (ha : ea % align ≠ 0) (k : Nat → Nat → State) : s.globalCheck wr ea n align k = s.raise 4 (vaInfo wr ea) := by
  simp [State.globalCheck, ht, ha]

theorem State.globalCheck_footprint {s : State} {wr : Bool} {ea n align ia w x : Nat} (ht : translate s.pre.wnd ea n = some (ia, w))
    (ha : ea % align = 0) (hf : footprintMiss (s.card s.cur) wr ia n = some x) (k : Nat → Nat → State) :
    s.globalCheck wr ea n align k = s.raise 6 (fpInfo wr x) := by
  simp [State.globalCheck, ht, hf, ha]

/-- The state after a synchronous load that brought stamps (R154, R189). -/
abbrev State.afterSync (s : State) (st : List Ent) : State :=
  (s.modMe (fun c => { c with deps := mergedDeps s.tick s.nextId s.me.deps st })).learnAll s.myDie

/-- A synchronous load that waits for nothing and is read at once goes on with its bytes (R154, R157). -/
theorem State.syncLoad_ok {s : State} {ia n key e : Nat} {bs : List Byte} {st : List Ent} (ha : s.acquireOut s.cur = false)
    (hp : s.portFull s.myCore = false) (hw : (s.loadsOut s.cur || s.unnumbered s.cur) = false)
    (hr : s.readMany s.myDie .load (s.pendingSet s.cur) (pagePieces 3 ia n) = .ok bs key st e) (hk : keyReads s.pre.pkr key = true)
    (hd : (mergedDeps s.tick s.nextId s.me.deps st).length ≤ 8) (k : List Byte → State → State) : s.syncLoad ia n k = k bs (s.afterSync st) := by
  unfold State.syncLoad
  rw [State.afterAcquire_ok ha hp, State.waitWhile_false hw, hr]
  simp only [hk]
  rw [if_neg (by simp), if_neg (by omega)]

/-- The data of a store: one register, or a group (R51, R206). -/
theorem State.withStoreData_ok {s : State} {d : BitVec 7} {n : Nat} {vs : List W64} (h8 : 8 < n)
    (h : (groupRegs d (n / 8)).map (fun r => s.pre.source (BitVec.ofNat 7 r)) = vs.map Rd.ok) (k : List Byte → State) :
    s.withStoreData d n k = k (vs.map (fun v => bytesOf 8 v.toNat)).flatten := by
  unfold State.withStoreData
  rw [if_neg (by omega), State.withGroup_ok h]

/-- A row access whose span lies in one window, is aligned and stays inside the footprint goes on with its units (R208). -/
theorem State.rowCheck_ok {s : State} {wr big : Bool} {ea w e : Nat} {us : List (Nat × Nat × Option Nat)} (hw : windowOf s.pre.wnd ea = some w)
    (hl : (s.leafOf s.myDie (windowIA s.pre.wnd w ea)).getD (false, 0) = (big, e))
    (hm : windowMatches s.pre.wnd w (ea + unitsSpan (pageFmt (leafFmt e) s.pre.laneType) (leafGeo e) (lanesOf s.pre.laneType) (windowIA s.pre.wnd w ea) big - 1) = true)
    (hu : rowUnits (pageFmt (leafFmt e) s.pre.laneType) (leafGeo e) (lanesOf s.pre.laneType) (windowIA s.pre.wnd w ea) big (windowSD s.pre.wnd w)
      (leafGeo e == 2 && ((s.leafOf s.myDie (scaleIA (windowIA s.pre.wnd w ea) (windowSD s.pre.wnd w))).getD (big, 0)).1) = some us)
    (hf : rowMiss (s.card s.cur) wr (pageFmt (leafFmt e) s.pre.laneType) (leafGeo e) (lanesOf s.pre.laneType) (windowIA s.pre.wnd w ea) big
      (windowSD s.pre.wnd w) = none)
    (hs : wr = true ∨ s.memFaulted (windowIA s.pre.wnd w ea)
      (unitsSpan (pageFmt (leafFmt e) s.pre.laneType) (leafGeo e) (lanesOf s.pre.laneType) (windowIA s.pre.wnd w ea) big) = false)
    (k : Nat → Nat → List (Nat × Nat × Option Nat) → State) :
    s.rowCheck wr ea k = k (pageFmt (leafFmt e) s.pre.laneType) (leafGeo e) us := by
  unfold State.rowCheck
  simp only [hw, hl, hm, hu, hf]
  rcases hs with h | h <;> simp [h, State.readsMem]

/-- A jump inside the VA space (R148). -/
theorem State.jumpTo_in {s : State} {v : W64} (h : v.toNat < 2 ^ 57) :
    s.jumpTo v = (s.modMe (fun c => { c with pc := v })).modBun (fun f => { f with jumped := true }) := by
  unfold State.jumpTo
  rw [if_neg (by simp [bits_high_zero h])]

/-- A jump out of the VA space raises cause 0x05 (R148). -/
theorem State.jumpTo_out {s : State} {v : W64} (h : 2 ^ 57 ≤ v.toNat) : s.jumpTo v = s.raise 5 v := by
  unfold State.jumpTo
  rw [if_pos (by simpa using bits_high_ne h)]

/-- With no loop active a bundle falls through to the next one (R150). -/
theorem Ctx.afterBundle_next {c : Ctx} (h : c.levels = []) (pre : Ctx) : c.afterBundle pre = { c with pc := pre.pc + 32 } := by
  unfold Ctx.afterBundle Ctx.endOfBody
  have h0 : ∀ n, (c.level n).act = false := by
    intro n
    simp [Ctx.level, h, getD]
  simp [Ctx.bodyEnd, h0]
  apply BitVec.eq_of_toNat_eq
  simp [w64]

end Sys2Proof.Machine
end

