-- ==== Sys2Proof/Laws/Engines.lean ====
section
/-! SUPPORT. What the shared operations of the vector slots, the array and the engines do when their checks pass. -/

namespace Sys2Proof.Machine

-- Vector slots ----------------------------------------------------------------------------------------------------------------

/-- A draw changes the counter of its context's seed and nothing else (R100, R242). -/
theorem State.draw_bun (s : State) (r n : Nat) : (s.draw r n).2.bun = s.bun := by unfold State.draw; split <;> rfl
theorem State.draw_cores (s : State) (r n : Nat) : (s.draw r n).2.cores = s.cores := by unfold State.draw; split <;> rfl
theorem State.draw_dies (s : State) (r n : Nat) : (s.draw r n).2.dies = s.dies := by unfold State.draw; split <;> rfl
theorem State.draw_cur (s : State) (r n : Nat) : (s.draw r n).2.cur = s.cur := by unfold State.draw; split <;> rfl
theorem State.draw_mem (s : State) (r n : Nat) : (s.draw r n).2.mem = s.mem := by unfold State.draw; split <;> rfl

theorem State.draw_ctx (s : State) (r n : Nat) : ∃ v, (s.draw r n).2.ctx s.cur = { s.ctx s.cur with seedCtr := v } := by
  unfold State.draw
  split
  · exact ⟨_, by simp [State.modMe]; rfl⟩
  · exact ⟨(s.ctx s.cur).seedCtr, rfl⟩

theorem State.draw_task (s : State) (r n : Nat) : (s.draw r n).2.boundTask s.cur = s.boundTask s.cur := by
  obtain ⟨v, h⟩ := s.draw_ctx r n
  simp [State.boundTask, h, State.task?, State.die, State.draw_dies]

theorem State.draw_pre (s : State) (r n : Nat) : ∃ v, (s.draw r n).2.pre = { s.pre with seedCtr := v } := by
  unfold State.pre
  rw [State.draw_bun]
  split
  · exact ⟨_, rfl⟩
  · unfold State.me
    rw [State.draw_cur]
    exact s.draw_ctx r n

theorem State.draw_pending (s : State) (r n k : Nat) : (s.draw r n).2.pre.pending k = s.pre.pending k := by
  obtain ⟨v, h⟩ := s.draw_pre r n
  rw [h]
  rfl

theorem State.draw_vrow (s : State) (r n k : Nat) : (s.draw r n).2.vrow k = s.vrow k := by
  obtain ⟨v, h⟩ := s.draw_pre r n
  unfold State.vrow
  rw [State.draw_cur, State.draw_task, h]
  rfl

theorem State.draw_preRows (s : State) (r n : Nat) : (s.draw r n).2.preRows = s.preRows := by
  unfold State.preRows State.myCore State.core
  rw [State.draw_bun, State.draw_cur, State.draw_cores]

theorem State.draw_destWaits (s : State) (r n k : Nat) : (s.draw r n).2.destWaits k = s.destWaits k := by
  obtain ⟨v, h⟩ := s.draw_ctx r n
  unfold State.destWaits State.arrayHolds
  simp only [State.draw_pending, State.draw_cur, h, State.core, State.draw_cores, State.before, State.draw_bun]

/-- A vector slot that acts goes on (R49, R58, R232). -/
theorem State.vec_live {s : State} {g : BitVec 2} (h1 : s.pre.gateBad g.toNat = false) (h2 : s.pre.gateLive g.toNat = true) (k : State) :
    s.vec g true k = k := by
  simp [State.vec, h1, h2]

/-- Lanes written to a row that nothing holds: those that the mask enables (R236, R240). -/
theorem State.writeLanes_free {s : State} {d : BitVec 7} (h : s.destWaits (s.vrow d.toNat) = false) (e n : Nat) (m : W512) (new : List Nat) :
    s.writeLanes d e n m new =
      s.writeRow (s.vrow d.toNat) (BitVec.ofNat 4096 (ofLanes e (mergeLanes m (rowLanes e n (getD (s.vrow d.toNat) 0 s.preRows)) new))) (everyLane m n) := by
  unfold State.writeLanes
  rw [State.withRowDest_ok h]

/-- The same after a draw. -/
theorem State.writeLanes_drawn {s : State} {d : BitVec 7} (h : s.destWaits (s.vrow d.toNat) = false) (r x e n : Nat) (m : W512) (new : List Nat) :
    (s.draw r x).2.writeLanes d e n m new =
      (s.draw r x).2.writeRow (s.vrow d.toNat) (BitVec.ofNat 4096 (ofLanes e (mergeLanes m (rowLanes e n (getD (s.vrow d.toNat) 0 s.preRows)) new)))
        (everyLane m n) := by
  rw [State.writeLanes_free (by rw [State.draw_vrow, State.draw_destWaits]; exact h), State.draw_vrow, State.draw_preRows]

-- The array -------------------------------------------------------------------------------------------------------------------

theorem oneOperand_ok {s : State} {a : BitVec 7} {x : W64} (h : s.source a = .ok x) (k : W64 → W64 → State) : oneOperand s a k = k x 0 := by
  unfold oneOperand
  rw [State.withSource_ok h]

theorem noOperands_ok (s : State) (k : W64 → W64 → State) : noOperands s k = k 0 0 := State.waitWhile_false rfl _

/-- An array instruction whose checks pass enters the queue when there is room (R264, R293). -/
theorem State.arraySlot_ok {s : State} {g : BitVec 4} {t : Task} (hg : s.pre.guardValue g = some true) (ht : s.boundTask s.cur = some t)
    (hb : s.arrayTaken = false) (hq : s.arrayFull = false) {op ctl : Nat} {operands : (W64 → W64 → State) → State}
    {check : Task → ArrayView → W64 → W64 → ArrayCheck}
    {before : W64 → State → State} {x y : W64} (ho : ∀ k, operands k = k x y) {reads : List (Nat × Nat)} {rows : List (Nat × Bool)} {draw : Nat} {img : List Nat}
    (h : check t (s.core s.myCore).array.view x y = .ok reads rows draw img) :
    s.arraySlot g op ctl operands check before = (before x s).enterArray t op ctl x y img reads rows draw := by
  unfold State.arraySlot
  rw [State.guarded_live hg, ht]
  simp only []
  rw [ho, State.waitWhile_false hb, h]
  simp only []
  rw [State.waitWhile_false hq]

/-- One whose checks fail raises what they find (R300). -/
theorem State.arraySlot_fault {s : State} {g : BitVec 4} {t : Task} (hg : s.pre.guardValue g = some true) (ht : s.boundTask s.cur = some t)
    (hb : s.arrayTaken = false) {op ctl : Nat} {operands : (W64 → W64 → State) → State} {check : Task → ArrayView → W64 → W64 → ArrayCheck}
    {before : W64 → State → State} {x y : W64} (ho : ∀ k, operands k = k x y) {c : Nat} {i : W64}
    (h : check t (s.core s.myCore).array.view x y = .fault c i) : s.arraySlot g op ctl operands check before = s.raise c i := by
  unfold State.arraySlot
  rw [State.guarded_live hg, ht]
  simp only []
  rw [ho, State.waitWhile_false hb, h]

/-- One that finds the array held by another task waits (R264). -/
theorem State.arraySlot_busy {s : State} {g : BitVec 4} {t : Task} (hg : s.pre.guardValue g = some true) (ht : s.boundTask s.cur = some t)
    (hb : s.arrayTaken = true) {op ctl : Nat} {operands : (W64 → W64 → State) → State} {check : Task → ArrayView → W64 → W64 → ArrayCheck}
    {before : W64 → State → State} {x y : W64} (ho : ∀ k, operands k = k x y) : s.arraySlot g op ctl operands check before = s.hold := by
  unfold State.arraySlot
  rw [State.guarded_live hg, ht]
  simp only []
  rw [ho, State.waitWhile_true hb]

-- Commands --------------------------------------------------------------------------------------------------------------------

/-- An engine slot whose guard is true and whose context's acquires are over goes on with its task (R49, R192). -/
theorem State.engineSlot_ok {s : State} {g : BitVec 4} {t : Task} (hg : s.pre.guardValue g = some true) (ht : s.boundTask s.cur = some t)
    (ha : s.acquireOut s.cur = false) (k : Task → State) : s.engineSlot g k = k t := by
  unfold State.engineSlot
  rw [State.guarded_live hg, ht]
  simp only [State.waitWhile_false ha]

/-- Parameters without an uncorrectable error are read (R36). -/
theorem State.goodParams_ok {s : State} {t : Task} {a n : Nat} (h : s.spadBad s.myCore t a n = false) (k : State) : s.goodParams t a n k = k := by
  simp [State.goodParams, h]

/-- Scratchpad that a command may name (R155, R177). -/
theorem State.engineSpad_ok {s : State} {t : Task} {wr page : Bool} {a n al : Nat} (h1 : a % al = 0) (h2 : a < 2 ^ 22) (h3 : a + n + 16384 ≤ t.spadBytes)
    (h4 : page = true ∨ 4096 ≤ a) (h5 : page = false ∨ wr = true ∨ s.spadBad s.myCore t a n = false) (k : State) :
    s.engineSpad t wr a n al page k = k := by
  unfold State.engineSpad
  rw [if_neg (by simp [h1]), if_pos]
  · rcases h5 with h | h | h <;> simp [h, State.goodParams]
  · simp only [Bool.and_eq_true, decide_eq_true_eq, Bool.or_eq_true]
    exact ⟨⟨h2, h3⟩, h4⟩

/-- A scratchpad side of a copy (R219). -/
theorem State.copySide_spad {s : State} {t : Task} {wr apart : Bool} {a back len : Nat} (hb : back ≤ a) (h2 : a - back < 2 ^ 22)
    (h3 : a - back + len + 16384 ≤ t.spadBytes) (h4 : 4096 ≤ a - back) (k : Side → State) :
    s.copySide t wr true apart a back len k = k ⟨a, 0, a - back, len⟩ := by
  unfold State.copySide
  rw [if_pos rfl, if_pos hb, State.engineSpad_ok (Nat.mod_one _) h2 h3 (.inr h4) (.inl rfl)]

/-- A global side of a copy (R219). -/
theorem State.copySide_global {s : State} {t : Task} {wr : Bool} {a back len ia w : Nat} (hb : back ≤ a)
    (ht : translate s.pre.wnd (a - back) len = some (ia, w)) (hf : footprintMiss t.card wr ia len = none) (k : Side → State) :
    s.copySide t wr false false a back len k = k ⟨ia + back, windowSD s.pre.wnd w, ia, len⟩ := by
  unfold State.copySide State.engineRange
  rw [if_neg (by decide), if_neg (by omega), if_neg (by decide)]
  simp only [ht, hf]

/-- The sides of a collective (R419). -/
theorem State.colSide_spad {s : State} {t : Task} {wr : Bool} {a n : Nat} (h2 : a < 2 ^ 22) (h3 : a + n + 16384 ≤ t.spadBytes) (h4 : 4096 ≤ a)
    (hn : n ≠ 0) (k : Nat → State) : s.colSide t wr true a n k = k a := by
  unfold State.colSide
  rw [if_neg hn, if_pos rfl, State.engineSpad_ok (Nat.mod_one _) h2 h3 (.inr h4) (.inl rfl)]

theorem State.colSide_global {s : State} {t : Task} {wr : Bool} {a n ia w : Nat} (ht : translate s.pre.wnd a n = some (ia, w))
    (hf : footprintMiss t.card wr ia n = none) (hn : n ≠ 0) (k : Nat → State) : s.colSide t wr false a n k = k ia := by
  unfold State.colSide State.engineRange
  rw [if_neg hn, if_neg (by decide)]
  simp only [ht, hf]

/-- The state in which a command of n bytes has issued: its bytes armed, or l5 claimed (R26, R216). -/
abbrev State.issuedCommand (s : State) (t : Task) (h n draw : Nat) : State :=
  let u := (s.newTag t h draw).2
  if h = 255 then u.claimL5 u.cur (s.newTag t h draw).1.tok else u.updateBarrier u.myCore t h (fun b => b.arm n)

/-- The object that a handle names is good and its count takes n bytes more; 255 names none (R216). -/
abbrev State.takesBytes (s : State) (t : Task) (h n : Nat) : Prop :=
  h = 255 ∨ s.spadBad s.myCore t (16 * h) 16 = false ∧ (s.barrier s.myCore t h).exp + n ≤ maxCount

theorem State.armCause_none {s : State} {t : Task} {h n : Nat} (hc : s.takesBytes t h n) (q : Nat × W64) : s.armCause t h n q = none := by
  unfold State.armCause
  by_cases h1 : h = 255
  · rw [if_pos h1]
  · obtain ⟨hb, h2⟩ := hc.resolve_left h1
    rw [if_neg h1, hb, if_neg (by decide), if_neg (by omega)]

/-- Bytes that its object takes let a command go on (R216). -/
theorem State.armable_ok {s : State} {t : Task} {h : BitVec 8} {n : Nat} (hc : s.takesBytes t h.toNat n) (r : W64) (k : State) : s.armable t h n r k = k := by
  unfold State.armable
  rw [State.armCause_none hc]

/-- Bytes that a good object does not take are refused (R216). -/
theorem State.armable_refused {s : State} {t : Task} {h : BitVec 8} {n : Nat} (h1 : h.toNat ≠ 255) (hb : s.spadBad s.myCore t (16 * h.toNat) 16 = false)
    (h2 : maxCount < (s.barrier s.myCore t h.toNat).exp + n) (r : W64) (k : State) : s.armable t h n r k = s.raise 0x11 r := by
  unfold State.armable State.armCause
  rw [if_neg h1, hb, if_neg (by decide), if_pos h2]

/-- An object with an uncorrectable error takes none: 0x16 (R36). -/
theorem State.armable_bad {s : State} {t : Task} {h : BitVec 8} {n : Nat} (h1 : h.toNat ≠ 255) (hb : s.spadBad s.myCore t (16 * h.toNat) 16 = true) (r : W64) (k : State) :
    s.armable t h n r k = s.raise 0x16 (info16 3 (16 * h.toNat / 32 * 32)) := by
  unfold State.armable State.armCause
  rw [if_neg h1, hb, if_pos rfl]

/-- A command whose bytes its object takes issues (R216). -/
theorem State.issueCommand_ok {s : State} {t : Task} {h : BitVec 8} {n : Nat} (hc : s.takesBytes t h.toNat n) (draw : Nat) (r : W64) (k : Tag → State → State) :
    s.issueCommand t h n draw r k = k (s.newTag t h.toNat draw).1 (s.issuedCommand t h.toNat n draw) := by
  unfold State.issueCommand
  rw [State.armable_ok hc]

/-- One whose bytes it does not take is refused (R216). -/
theorem State.issueCommand_refused {s : State} {t : Task} {h : BitVec 8} {n : Nat} (h1 : h.toNat ≠ 255) (hb : s.spadBad s.myCore t (16 * h.toNat) 16 = false)
    (h2 : maxCount < (s.barrier s.myCore t h.toNat).exp + n) (draw : Nat) (r : W64) (k : Tag → State → State) :
    s.issueCommand t h n draw r k = s.raise 0x11 r := by
  unfold State.issueCommand
  rw [State.armable_refused h1 hb h2]

/-- A command whose bytes its object takes and whose queue has room issues; with a full queue it waits (R42, R47, R216). -/
theorem State.issueQueued_ok {s : State} {t : Task} {h : BitVec 8} {n : Nat} (hc : s.takesBytes t h.toNat n) (r : W64) (k : Tag → State → State) :
    s.issueQueued t h n r false k = k (s.newTag t h.toNat 0).1 (s.issuedCommand t h.toNat n 0) := by
  unfold State.issueQueued
  rw [State.armable_ok hc, State.waitWhile_false rfl, State.issueCommand_ok hc]

theorem State.issueQueued_full {s : State} {t : Task} {h : BitVec 8} {n : Nat} (hc : s.takesBytes t h.toNat n) (r : W64) (k : Tag → State → State) :
    s.issueQueued t h n r true k = s.hold := by
  unfold State.issueQueued
  rw [State.armable_ok hc, State.waitWhile_true rfl]

/-- One whose bytes its object does not take is refused, whether the queue has room or not (R47, R216). -/
theorem State.issueQueued_refused {s : State} {t : Task} {h : BitVec 8} {n : Nat} (h1 : h.toNat ≠ 255) (hb : s.spadBad s.myCore t (16 * h.toNat) 16 = false)
    (h2 : maxCount < (s.barrier s.myCore t h.toNat).exp + n) (r : W64) (full : Bool) (k : Tag → State → State) :
    s.issueQueued t h n r full k = s.raise 0x11 r := by
  unfold State.issueQueued
  rw [State.armable_refused h1 hb h2]

/-- Areas and a global summary that pass their checks (R328). -/
theorem State.surveyCheck_ok {s : State} {t : Task} {h ia : Nat} {areas : List Area} {glob : Option (Nat × Nat × Bool)}
    (h1 : ∀ r ∈ areas, r.off % r.align = 0 ∧ t.usable r.off r.len = true)
    (h2 : match glob with
      | none => ia = 0
      | some (va, n, rw_) => va % n = 0 ∧ (∃ w, translate s.pre.wnd va n = some (ia, w)) ∧
          (if rw_ then rwMiss t.card ia n else footprintMiss t.card false ia n) = none) (k : Nat → State) :
    s.surveyCheck t h areas glob false k = k ia := by
  have findNone : ∀ {p : Area → Bool}, (∀ r ∈ areas, p r = false) → areas.find? p = none := by
    intro p hp
    rw [List.find?_eq_none]
    intro x hx
    simp [hp x hx]
  unfold State.surveyCheck
  rw [findNone (by intro r hr; simp [(h1 r hr).1])]
  simp only []
  rw [if_neg, findNone (by intro r hr; simp [(h1 r hr).2])]
  · cases glob with
    | none => simp only [Bool.false_eq_true, if_false]; rw [h2]
    | some gl =>
      obtain ⟨va, n, rw_⟩ := gl
      obtain ⟨q1, ⟨w, q2⟩, q3⟩ := h2
      simp only [q2, q3, Bool.false_eq_true, if_false]
  · cases glob with
    | none => simp
    | some gl => simp [h2.1]

/-- A descriptor of a collective command that stands in scratchpad is read (R416). -/
theorem State.colDesc_ok {s : State} {t : Task} {a n : Nat} (h1 : a % n = 0) (h2 : a < 2 ^ 22) (h3 : a + n + 16384 ≤ t.spadBytes)
    (h4 : s.spadBad s.myCore t a n = false) (k : List W64 → State) : s.colDesc t a n k = k (wordsOf (n / 8) (s.spadRead s.myCore t a n)) := by
  unfold State.colDesc
  rw [State.engineSpad_ok h1 h2 h3 (.inl rfl) (.inr (.inr h4))]

-- Events ----------------------------------------------------------------------------------------------------------------------

/-- An event of a unit that exists happens. -/
theorem onUnit_ok {b : Bool} (h : b = true) (t : State) : onUnit b t = .next t := by
  unfold onUnit
  rw [h]
  rfl

theorem ctxOk_lt {g : Nat} (h : g < 524288) : ctxOk g = true := by unfold ctxOk; simpa using h
theorem coreOk_lt {c : Nat} (h : c < 131072) : coreOk c = true := by unfold coreOk; simpa using h
theorem dieOk_lt {d : Nat} (h : d < 2048) : dieOk d = true := by unfold dieOk; simpa using h
theorem pkgOk_lt {k : Nat} (h : k < 512) : pkgOk k = true := by unfold pkgOk; simpa using h

/-- An event of a request that is under way. -/
theorem State.onMsg_found {s : State} {id : Nat} {m : Msg} (h : find? id s.net = some m) (f : State → Msg → State) : s.onMsg id f = f (s.arrive m) m := by
  unfold State.onMsg
  rw [h]

/-- System mode runs a system instruction (R69). -/
theorem State.systemOnly_ok {s : State} (h : s.sysMode s.cur = true) (k : State) : s.systemOnly k = k := by
  unfold State.systemOnly
  rw [if_pos h]

/-- A system instruction of an engine goes on in system mode, and raises 0x03 in task mode, acquires or not (R47, R69). -/
theorem State.systemSlot_ok {s : State} {g : BitVec 4} {t : Task} (hg : s.pre.guardValue g = some true) (ht : s.boundTask s.cur = some t)
    (hs : s.sysMode s.cur = true) (ha : s.acquireOut s.cur = false) (k : Task → State) : s.systemSlot g k = k t := by
  unfold State.systemSlot
  rw [State.guarded_live hg, State.systemOnly_ok hs, State.engineSlot_ok hg ht ha]

theorem State.systemSlot_task {s : State} {g : BitVec 4} (hg : s.pre.guardValue g = some true) (hs : s.sysMode s.cur = false) (k : Task → State) :
    s.systemSlot g k = s.raise 3 s.slotInfo := by
  unfold State.systemSlot State.systemOnly
  rw [State.guarded_live hg, hs, if_neg (by decide)]

end Sys2Proof.Machine
end

