-- ==== Sys2Proof/Laws/Memory.lean ====
section
/-! SUPPORT. The cells of a memory: a read after a write, the canonical form that every write keeps, and equal memories as equal data; the
operations of State that write the HBM or a scratchpad keep the form. -/

namespace Sys2Proof.Machine

-- A read after a write --------------------------------------------------------------------------------------------------------

theorem find?_filter_ne {α : Type} (a b : Nat) (m : Map α) : find? b (m.filter (fun c => c.1 != a)) = if b = a then none else find? b m := by
  induction m with
  | nil => simp [find?]
  | cons p m ih =>
    obtain ⟨i, x⟩ := p
    by_cases h : i = a
    · subst h; rw [List.filter_cons_of_neg (by simp), ih]; split
      · rfl
      · rename_i h; simp [find?, Ne.symm h]
    · rw [List.filter_cons_of_pos (by simp [h])]; simp only [find?, ih]; split
      · rename_i e; subst e; simp [h]
      · rfl

theorem cellGet_cellPut (m : List Host.Cell) (a b : Nat) (v : Byte) : cellGet (cellPut m a v) b = if b = a then v else cellGet m b := by
  unfold cellGet cellPut
  split
  · subst v; simp only [getD, find?_filter_ne]; split <;> rfl
  · split
    · rename_i h; subst h; exact getD_put_self ..
    · rename_i h; exact getD_put_other h ..

@[simp] theorem cellGet_cellPut_self (m : List Host.Cell) (a : Nat) (v : Byte) : cellGet (cellPut m a v) a = v := by simp [cellGet_cellPut]

theorem cellGet_cellsPut_outside (bs : List Byte) : ∀ (m : List Host.Cell) (a b : Nat), b < a ∨ a + bs.length ≤ b → cellGet (cellsPut m a bs) b = cellGet m b := by
  induction bs with
  | nil => intro m a b _; rfl
  | cons v bs ih =>
    intro m a b h
    simp only [List.length_cons] at h
    rw [cellsPut, ih _ _ _ (by omega), cellGet_cellPut, if_neg (by omega)]

theorem cellGet_cellsPut_inside (bs : List Byte) : ∀ (m : List Host.Cell) (a j : Nat) (v : Byte), bs[j]? = some v → cellGet (cellsPut m a bs) (a + j) = v := by
  induction bs with
  | nil => intro m a j v h; simp at h
  | cons w bs ih =>
    intro m a j v h
    rw [cellsPut]
    cases j with
    | zero => rw [cellGet_cellsPut_outside _ _ _ _ (by omega)]; simp_all
    | succ j => rw [show a + (j + 1) = a + 1 + j by omega]; exact ih _ _ _ _ (by simpa using h)

theorem upFrom_getElem? (a n j : Nat) (h : j < n) : (upFrom a n)[j]? = some (a + j) := by
  induction n generalizing a j with
  | zero => omega
  | succ n ih =>
    cases j with
    | zero => simp [upFrom]
    | succ j => simp only [upFrom, List.getElem?_cons_succ]; rw [ih _ _ (by omega)]; congr 1; omega

theorem upFrom_length (a n : Nat) : (upFrom a n).length = n := by
  induction n generalizing a with
  | zero => rfl
  | succ n ih => simp [upFrom, ih]

/-- The bytes written are the bytes read. -/
theorem cellsGet_cellsPut (m : List Host.Cell) (a : Nat) (bs : List Byte) : cellsGet (cellsPut m a bs) a bs.length = bs := by
  apply List.ext_getElem?
  intro j
  by_cases h : j < bs.length
  · rw [cellsGet, List.getElem?_map, upFrom_getElem? _ _ _ h, Option.map_some,
      cellGet_cellsPut_inside bs m a j bs[j] (List.getElem?_eq_getElem h), List.getElem?_eq_getElem h]
  · rw [List.getElem?_eq_none (by simp [cellsGet, upFrom_length]; omega), List.getElem?_eq_none (by omega)]

theorem cellGet_cellsClear (m : List Host.Cell) (a n b : Nat) : cellGet (cellsClear m a n) b = if a ≤ b ∧ b < a + n then 0 else cellGet m b := by
  unfold cellGet cellsClear
  induction m with
  | nil => simp [getD]
  | cons p m ih =>
    obtain ⟨i, x⟩ := p
    by_cases h : a ≤ i ∧ i < a + n
    · rw [List.filter_cons_of_neg (by simp; omega), ih]; split
      · rfl
      · simp only [getD, find?, show i ≠ b by omega, if_false]
    · rw [List.filter_cons_of_pos (by simp; omega)]
      simp only [getD, find?] at ih ⊢
      split
      · rename_i e; subst e; simp [h]
      · exact ih

-- The canonical form ----------------------------------------------------------------------------------------------------------

theorem cellsWfFrom_cons (lo a : Nat) (v : Byte) (m : List Host.Cell) :
    cellsWfFrom lo ((a, v) :: m) = true ↔ lo ≤ a ∧ v ≠ 0 ∧ cellsWfFrom (a + 1) m = true := by
  simp [cellsWfFrom, and_assoc]

theorem cellsWfFrom_mono {lo lo' : Nat} (h : lo' ≤ lo) : ∀ m, cellsWfFrom lo m = true → cellsWfFrom lo' m = true
  | [], _ => rfl
  | (a, v) :: m, hm => by rw [cellsWfFrom_cons] at *; exact ⟨by omega, hm.2⟩

theorem cellsWfFrom_filter (p : Host.Cell → Bool) : ∀ (m : List Host.Cell) (lo : Nat), cellsWfFrom lo m = true → cellsWfFrom lo (m.filter p) = true
  | [], _, _ => rfl
  | (a, v) :: m, lo, hm => by
    rw [cellsWfFrom_cons] at hm
    have ih := cellsWfFrom_filter p m (a + 1) hm.2.2
    by_cases h : p (a, v) = true
    · rw [List.filter_cons_of_pos h, cellsWfFrom_cons]; exact ⟨hm.1, hm.2.1, ih⟩
    · rw [List.filter_cons_of_neg h]; exact cellsWfFrom_mono (by omega) _ ih

theorem cellsWfFrom_put (a : Nat) (v : Byte) (hv : v ≠ 0) : ∀ (m : List Host.Cell) (lo : Nat), lo ≤ a → cellsWfFrom lo m = true → cellsWfFrom lo (put a v m) = true
  | [], lo, h, _ => by rw [put, cellsWfFrom_cons]; exact ⟨h, hv, rfl⟩
  | (b, w) :: m, lo, h, hm => by
    have hm' := (cellsWfFrom_cons ..).1 hm
    rw [put]
    split
    · rename_i e; subst e; rw [cellsWfFrom_cons]; exact ⟨h, hv, hm'.2.2⟩
    · split
      · rw [cellsWfFrom_cons, cellsWfFrom_cons]; exact ⟨h, hv, by omega, hm'.2⟩
      · rw [cellsWfFrom_cons]; exact ⟨hm'.1, hm'.2.1, cellsWfFrom_put a v hv m _ (by omega) hm'.2.2⟩

@[simp] theorem cellPut_wf {m : List Host.Cell} (h : Memory.wf m = true) (a : Nat) (v : Byte) : Memory.wf (cellPut m a v) = true := by
  unfold cellPut
  split
  · exact cellsWfFrom_filter _ m 0 h
  · exact cellsWfFrom_put a v ‹_› m 0 (Nat.zero_le _) h

@[simp] theorem cellsPut_wf {m : List Host.Cell} (h : Memory.wf m = true) (a : Nat) (bs : List Byte) : Memory.wf (cellsPut m a bs) = true := by
  induction bs generalizing m a with
  | nil => exact h
  | cons v bs ih => exact ih (cellPut_wf h a v) (a + 1)

@[simp] theorem cellsClear_wf {m : List Host.Cell} (h : Memory.wf m = true) (a n : Nat) : Memory.wf (cellsClear m a n) = true :=
  cellsWfFrom_filter _ m 0 h

/-- A fold of writes or of clearings keeps the form. -/
theorem foldl_wf {α : Type} {f : List Host.Cell → α → List Host.Cell} (hf : ∀ m x, Memory.wf m = true → Memory.wf (f m x) = true) :
    ∀ (xs : List α) {m : List Host.Cell}, Memory.wf m = true → Memory.wf (xs.foldl f m) = true
  | [], _, h => h
  | x :: xs, _, h => foldl_wf hf xs (hf _ x h)

theorem cellsWfFrom_below {lo a : Nat} : ∀ {m : List Host.Cell}, cellsWfFrom lo m = true → a < lo → cellGet m a = 0
  | [], _, _ => rfl
  | (b, w) :: m, hm, h => by
    rw [cellsWfFrom_cons] at hm
    have := cellsWfFrom_below (a := a) hm.2.2 (by omega)
    simp only [cellGet, getD, find?, show b ≠ a by omega, if_false] at this ⊢
    exact this

/-- Two memories in canonical form that read alike are the same data. -/
theorem cells_ext : ∀ {m n : List Host.Cell} {lo lo' : Nat}, cellsWfFrom lo m = true → cellsWfFrom lo' n = true → (∀ a, cellGet m a = cellGet n a) → m = n
  | [], [], _, _, _, _, _ => rfl
  | [], (b, w) :: n, _, _, _, hn, h => by
    rw [cellsWfFrom_cons] at hn
    have := h b; simp [cellGet, getD, find?] at this; exact absurd this.symm hn.2.1
  | (a, v) :: m, [], _, _, hm, _, h => by
    rw [cellsWfFrom_cons] at hm
    have := h a; simp [cellGet, getD, find?] at this; exact absurd this hm.2.1
  | (a, v) :: m, (b, w) :: n, _, _, hm, hn, h => by
    rw [cellsWfFrom_cons] at hm hn
    have ha := h a
    have hb := h b
    have e : a = b := by
      rcases Nat.lt_trichotomy a b with l | e | l
      · have := cellsWfFrom_below (a := a) hn.2.2 (by omega)
        simp only [cellGet, getD, find?, show b ≠ a by omega, if_false, if_true, Option.getD_some] at ha this
        exact absurd (ha.trans this) hm.2.1
      · exact e
      · have := cellsWfFrom_below (a := b) hm.2.2 (by omega)
        simp only [cellGet, getD, find?, show a ≠ b by omega, if_false, if_true, Option.getD_some] at hb this
        exact absurd (hb.symm.trans this) hn.2.1
    subst e
    have e : v = w := by simpa [cellGet, getD, find?] using ha
    subst e
    rw [cells_ext hm.2.2 hn.2.2 fun x => ?_]
    by_cases hx : a = x
    · subst hx; rw [cellsWfFrom_below hm.2.2 (by omega), cellsWfFrom_below hn.2.2 (by omega)]
    · have := h x; simpa only [cellGet, getD, find?, hx, if_false] using this

-- The HBM and the scratchpads -------------------------------------------------------------------------------------------------

theorem reset_wf : Memory.wf State.reset.mem = true := rfl

@[simp] theorem State.writePA_wf {s : State} (h : Memory.wf s.mem = true) (d pa : Nat) (bs : List Byte) : Memory.wf (s.writePA d pa bs).mem = true :=
  cellsPut_wf h ..

/-- The bytes written at a physical address are the bytes read there. -/
theorem State.readPA_writePA (s : State) (d pa : Nat) (bs : List Byte) : (s.writePA d pa bs).readPA d pa bs.length = bs := cellsGet_cellsPut ..

theorem State.heal_mem (s : State) (d pa n : Nat) : (s.heal d pa n).mem = s.mem := by unfold State.heal; split <;> rfl

theorem State.copyBytes_wf {s : State} (h : Memory.wf s.mem = true) (t pa t2 pb n : Nat) : Memory.wf (s.copyBytes t pa t2 pb n).mem = true := by
  unfold State.copyBytes
  dsimp only
  split <;> simp only [State.modDie, State.setDie, State.heal_mem] <;> exact foldl_wf (fun m x hm => cellPut_wf hm ..) _ (cellsClear_wf h ..)

theorem State.writeAt_wf {s : State} (h : Memory.wf s.mem = true) (t pa ia : Nat) (bs : List Byte) (stamp : List Ent) :
    Memory.wf (s.writeAt t pa ia bs stamp).mem = true := by
  show Memory.wf ((s.writePA t pa bs).heal t pa bs.length).mem = true
  rw [State.heal_mem]; exact State.writePA_wf h ..

theorem State.installLeaf_wf (t ia e : Nat) : ∀ (ls : List Nat) {s : State} (table : Nat) (ts : List Nat) {r : State × List Nat},
    Memory.wf s.mem = true → s.installLeaf t ia e table ls ts = some r → Memory.wf r.1.mem = true
  | [], s, table, ts, r, _, hr => by simp [State.installLeaf] at hr
  | lo :: ls, s, table, ts, r, h, hr => by
    simp only [State.installLeaf] at hr
    split at hr
    · simp only [Option.some.injEq] at hr; subst hr; exact State.writePA_wf h ..
    · split at hr
      · split at hr
        · cases hr
        · exact State.installLeaf_wf t ia e ls _ ts h hr
      · split at hr
        · cases hr
        · exact State.installLeaf_wf t ia e ls _ _ (State.writePA_wf (cellsClear_wf h ..) ..) hr

theorem State.modCore_core (s : State) (c : Nat) (f : Core → Core) : (s.modCore c f).core c = f (s.core c) := by simp [State.modCore, State.core, State.setCore]

theorem State.spadWrite_wf {s : State} {c : Nat} (h : Memory.wf (s.core c).spad = true) (t : Task) (a : Nat) (bs : List Byte) :
    Memory.wf ((s.spadWrite c t a bs).core c).spad = true := by
  rw [State.spadWrite, State.modCore_core]; exact foldl_wf (fun m x hm => cellPut_wf hm ..) _ h

theorem State.zeroAlloc_wf {s : State} {c : Nat} (h : Memory.wf (s.core c).spad = true) (us ts : List Nat) : Memory.wf ((s.zeroAlloc c us ts).core c).spad = true := by
  rw [State.zeroAlloc, State.modCore_core]; exact foldl_wf (fun m x hm => cellsClear_wf hm ..) _ h

end Sys2Proof.Machine
end

