-- ==== Sys2Proof/Laws/PerInstr.lean ====
section
/-! SUPPORT. One lemma for each instruction: its reserved fields (R46) lie inside the 26 bits below the opcode of a word, in rising order and
apart from each other, and an event has neither a word nor such fields. -/

namespace Sys2Proof

/-- Fields of a word in rising order, apart from each other, from bit `lo` on. -/
def fieldsFrom : Nat → List (Nat × Nat) → Bool
  | lo, [] => decide (lo ≤ 26)
  | lo, f :: fs => decide (lo ≤ f.1) && decide (0 < f.2) && fieldsFrom (f.1 + f.2) fs

/-- What holds of the reserved fields of every instruction. -/
abbrev Laws.ReservedFields.Statement (i : Instr) : Prop :=
  fieldsFrom 0 i.zeroFields = true ∧ (i.space? = none → i.zeroFields = [] ∧ i.encodeBody = 0)

theorem Laws.ReservedFields.jmp (j : BitVec 13) : Laws.ReservedFields.Statement (.jmp j) := ⟨rfl, fun h => by cases h⟩
theorem Laws.ReservedFields.jmpc (q : BitVec 3) (j : BitVec 10) : Laws.ReservedFields.Statement (.jmpc q j) := ⟨rfl, fun h => by cases h⟩
theorem Laws.ReservedFields.jmpi (s : BitVec 7) : Laws.ReservedFields.Statement (.jmpi s) := ⟨rfl, fun h => by cases h⟩
theorem Laws.ReservedFields.jmpt (t : BitVec 6) (i : BitVec 7) : Laws.ReservedFields.Statement (.jmpt t i) := ⟨rfl, fun h => by cases h⟩
theorem Laws.ReservedFields.jmpm (j : BitVec 13) : Laws.ReservedFields.Statement (.jmpm j) := ⟨rfl, fun h => by cases h⟩
theorem Laws.ReservedFields.call (j : BitVec 13) : Laws.ReservedFields.Statement (.call j) := ⟨rfl, fun h => by cases h⟩
theorem Laws.ReservedFields.calli (s : BitVec 7) : Laws.ReservedFields.Statement (.calli s) := ⟨rfl, fun h => by cases h⟩
theorem Laws.ReservedFields.loop (s : BitVec 2) (n : BitVec 3) (c : BitVec 5) (b : BitVec 8) : Laws.ReservedFields.Statement (.loop s n c b) := ⟨rfl, fun h => by cases h⟩
theorem Laws.ReservedFields.loopi (s : BitVec 2) (n : BitVec 3) (c : BitVec 5) (b : BitVec 8) : Laws.ReservedFields.Statement (.loopi s n c b) := ⟨rfl, fun h => by cases h⟩
theorem Laws.ReservedFields.lbrk (n : BitVec 3) : Laws.ReservedFields.Statement (.lbrk n) := ⟨rfl, fun h => by cases h⟩
theorem Laws.ReservedFields.wait (w : BitVec 3) : Laws.ReservedFields.Statement (.wait w) := ⟨rfl, fun h => by cases h⟩
theorem Laws.ReservedFields.trap (k : BitVec 8) : Laws.ReservedFields.Statement (.trap k) := ⟨rfl, fun h => by cases h⟩
theorem Laws.ReservedFields.brk (k : BitVec 8) : Laws.ReservedFields.Statement (.brk k) := ⟨rfl, fun h => by cases h⟩
theorem Laws.ReservedFields.spawn (b : BitVec 3) (s : BitVec 7) : Laws.ReservedFields.Statement (.spawn b s) := ⟨rfl, fun h => by cases h⟩
theorem Laws.ReservedFields.tld (w : BitVec 3) (d : BitVec 7) : Laws.ReservedFields.Statement (.tld w d) := ⟨rfl, fun h => by cases h⟩
theorem Laws.ReservedFields.tst (w : BitVec 3) (s : BitVec 7) : Laws.ReservedFields.Statement (.tst w s) := ⟨rfl, fun h => by cases h⟩
theorem Laws.ReservedFields.sysr (r : BitVec 6) (d : BitVec 7) : Laws.ReservedFields.Statement (.sysr r d) := ⟨rfl, fun h => by cases h⟩
theorem Laws.ReservedFields.sysw (r : BitVec 6) (s : BitVec 7) : Laws.ReservedFields.Statement (.sysw r s) := ⟨rfl, fun h => by cases h⟩
theorem Laws.ReservedFields.gsub (s : BitVec 7) : Laws.ReservedFields.Statement (.gsub s) := ⟨rfl, fun h => by cases h⟩
theorem Laws.ReservedFields.add (g : BitVec 4) (d : BitVec 7) (a : BitVec 7) (b : BitVec 7) : Laws.ReservedFields.Statement (.add g d a b) := ⟨rfl, fun h => by cases h⟩
theorem Laws.ReservedFields.sub (g : BitVec 4) (d : BitVec 7) (a : BitVec 7) (b : BitVec 7) : Laws.ReservedFields.Statement (.sub g d a b) := ⟨rfl, fun h => by cases h⟩
theorem Laws.ReservedFields.mul (g : BitVec 4) (d : BitVec 7) (a : BitVec 7) (b : BitVec 7) : Laws.ReservedFields.Statement (.mul g d a b) := ⟨rfl, fun h => by cases h⟩
theorem Laws.ReservedFields.mulh (g : BitVec 4) (d : BitVec 7) (a : BitVec 7) (b : BitVec 7) : Laws.ReservedFields.Statement (.mulh g d a b) := ⟨rfl, fun h => by cases h⟩
theorem Laws.ReservedFields.mulhn (g : BitVec 4) (d : BitVec 7) (a : BitVec 7) (b : BitVec 7) : Laws.ReservedFields.Statement (.mulhn g d a b) := ⟨rfl, fun h => by cases h⟩
theorem Laws.ReservedFields.div (g : BitVec 4) (d : BitVec 7) (a : BitVec 7) (b : BitVec 7) : Laws.ReservedFields.Statement (.div g d a b) := ⟨rfl, fun h => by cases h⟩
theorem Laws.ReservedFields.divn (g : BitVec 4) (d : BitVec 7) (a : BitVec 7) (b : BitVec 7) : Laws.ReservedFields.Statement (.divn g d a b) := ⟨rfl, fun h => by cases h⟩
theorem Laws.ReservedFields.and (g : BitVec 4) (d : BitVec 7) (a : BitVec 7) (b : BitVec 7) : Laws.ReservedFields.Statement (.and g d a b) := ⟨rfl, fun h => by cases h⟩
theorem Laws.ReservedFields.or (g : BitVec 4) (d : BitVec 7) (a : BitVec 7) (b : BitVec 7) : Laws.ReservedFields.Statement (.or g d a b) := ⟨rfl, fun h => by cases h⟩
theorem Laws.ReservedFields.xor (g : BitVec 4) (d : BitVec 7) (a : BitVec 7) (b : BitVec 7) : Laws.ReservedFields.Statement (.xor g d a b) := ⟨rfl, fun h => by cases h⟩
theorem Laws.ReservedFields.andn (g : BitVec 4) (d : BitVec 7) (a : BitVec 7) (b : BitVec 7) : Laws.ReservedFields.Statement (.andn g d a b) := ⟨rfl, fun h => by cases h⟩
theorem Laws.ReservedFields.shl (g : BitVec 4) (d : BitVec 7) (a : BitVec 7) (b : BitVec 7) : Laws.ReservedFields.Statement (.shl g d a b) := ⟨rfl, fun h => by cases h⟩
theorem Laws.ReservedFields.shr (g : BitVec 4) (d : BitVec 7) (a : BitVec 7) (b : BitVec 7) : Laws.ReservedFields.Statement (.shr g d a b) := ⟨rfl, fun h => by cases h⟩
theorem Laws.ReservedFields.sra (g : BitVec 4) (d : BitVec 7) (a : BitVec 7) (b : BitVec 7) : Laws.ReservedFields.Statement (.sra g d a b) := ⟨rfl, fun h => by cases h⟩
theorem Laws.ReservedFields.min (g : BitVec 4) (d : BitVec 7) (a : BitVec 7) (b : BitVec 7) : Laws.ReservedFields.Statement (.min g d a b) := ⟨rfl, fun h => by cases h⟩
theorem Laws.ReservedFields.max (g : BitVec 4) (d : BitVec 7) (a : BitVec 7) (b : BitVec 7) : Laws.ReservedFields.Statement (.max g d a b) := ⟨rfl, fun h => by cases h⟩
theorem Laws.ReservedFields.minn (g : BitVec 4) (d : BitVec 7) (a : BitVec 7) (b : BitVec 7) : Laws.ReservedFields.Statement (.minn g d a b) := ⟨rfl, fun h => by cases h⟩
theorem Laws.ReservedFields.maxn (g : BitVec 4) (d : BitVec 7) (a : BitVec 7) (b : BitVec 7) : Laws.ReservedFields.Statement (.maxn g d a b) := ⟨rfl, fun h => by cases h⟩
theorem Laws.ReservedFields.cmp (g : BitVec 4) (c : BitVec 4) (k : BitVec 3) (a : BitVec 7) (b : BitVec 7) : Laws.ReservedFields.Statement (.cmp g c k a b) := ⟨rfl, fun h => by cases h⟩
theorem Laws.ReservedFields.sel (s : BitVec 4) (d : BitVec 7) (a : BitVec 7) (b : BitVec 7) : Laws.ReservedFields.Statement (.sel s d a b) := ⟨rfl, fun h => by cases h⟩
theorem Laws.ReservedFields.li (g : BitVec 4) (d : BitVec 7) (i : BitVec 14) : Laws.ReservedFields.Statement (.li g d i) := ⟨rfl, fun h => by cases h⟩
theorem Laws.ReservedFields.lih (g : BitVec 4) (d : BitVec 7) (i : BitVec 14) : Laws.ReservedFields.Statement (.lih g d i) := ⟨rfl, fun h => by cases h⟩
theorem Laws.ReservedFields.clz (g : BitVec 4) (d : BitVec 7) (a : BitVec 7) : Laws.ReservedFields.Statement (.clz g d a) := ⟨rfl, fun h => by cases h⟩
theorem Laws.ReservedFields.ctz (g : BitVec 4) (d : BitVec 7) (a : BitVec 7) : Laws.ReservedFields.Statement (.ctz g d a) := ⟨rfl, fun h => by cases h⟩
theorem Laws.ReservedFields.popc (g : BitVec 4) (d : BitVec 7) (a : BitVec 7) : Laws.ReservedFields.Statement (.popc g d a) := ⟨rfl, fun h => by cases h⟩
theorem Laws.ReservedFields.bext (g : BitVec 4) (d : BitVec 7) (a : BitVec 7) (b : BitVec 7) : Laws.ReservedFields.Statement (.bext g d a b) := ⟨rfl, fun h => by cases h⟩
theorem Laws.ReservedFields.bins (g : BitVec 4) (d : BitVec 7) (a : BitVec 7) (b : BitVec 7) : Laws.ReservedFields.Statement (.bins g d a b) := ⟨rfl, fun h => by cases h⟩
theorem Laws.ReservedFields.addsh1 (g : BitVec 4) (d : BitVec 7) (a : BitVec 7) (b : BitVec 7) : Laws.ReservedFields.Statement (.addsh1 g d a b) := ⟨rfl, fun h => by cases h⟩
theorem Laws.ReservedFields.addsh2 (g : BitVec 4) (d : BitVec 7) (a : BitVec 7) (b : BitVec 7) : Laws.ReservedFields.Statement (.addsh2 g d a b) := ⟨rfl, fun h => by cases h⟩
theorem Laws.ReservedFields.addsh3 (g : BitVec 4) (d : BitVec 7) (a : BitVec 7) (b : BitVec 7) : Laws.ReservedFields.Statement (.addsh3 g d a b) := ⟨rfl, fun h => by cases h⟩
theorem Laws.ReservedFields.addsh5 (g : BitVec 4) (d : BitVec 7) (a : BitVec 7) (b : BitVec 7) : Laws.ReservedFields.Statement (.addsh5 g d a b) := ⟨rfl, fun h => by cases h⟩
theorem Laws.ReservedFields.pand (g : BitVec 4) (d : BitVec 3) (a : BitVec 3) (b : BitVec 3) : Laws.ReservedFields.Statement (.pand g d a b) := ⟨rfl, fun h => by cases h⟩
theorem Laws.ReservedFields.por (g : BitVec 4) (d : BitVec 3) (a : BitVec 3) (b : BitVec 3) : Laws.ReservedFields.Statement (.por g d a b) := ⟨rfl, fun h => by cases h⟩
theorem Laws.ReservedFields.pnot (g : BitVec 4) (d : BitVec 3) (a : BitVec 3) : Laws.ReservedFields.Statement (.pnot g d a) := ⟨rfl, fun h => by cases h⟩
theorem Laws.ReservedFields.faddF32 (g : BitVec 4) (d : BitVec 7) (a : BitVec 7) (b : BitVec 7) : Laws.ReservedFields.Statement (.faddF32 g d a b) := ⟨rfl, fun h => by cases h⟩
theorem Laws.ReservedFields.fsubF32 (g : BitVec 4) (d : BitVec 7) (a : BitVec 7) (b : BitVec 7) : Laws.ReservedFields.Statement (.fsubF32 g d a b) := ⟨rfl, fun h => by cases h⟩
theorem Laws.ReservedFields.fmulF32 (g : BitVec 4) (d : BitVec 7) (a : BitVec 7) (b : BitVec 7) : Laws.ReservedFields.Statement (.fmulF32 g d a b) := ⟨rfl, fun h => by cases h⟩
theorem Laws.ReservedFields.ffmaF32 (g : BitVec 4) (d : BitVec 7) (a : BitVec 7) (b : BitVec 7) : Laws.ReservedFields.Statement (.ffmaF32 g d a b) := ⟨rfl, fun h => by cases h⟩
theorem Laws.ReservedFields.fcmpF32 (g : BitVec 4) (c : BitVec 4) (k : BitVec 3) (a : BitVec 7) (b : BitVec 7) : Laws.ReservedFields.Statement (.fcmpF32 g c k a b) := ⟨rfl, fun h => by cases h⟩
theorem Laws.ReservedFields.fcvt (g : BitVec 4) (d : BitVec 7) (a : BitVec 7) (r : BitVec 3) (c : BitVec 4) : Laws.ReservedFields.Statement (.fcvt g d a r c) := ⟨rfl, fun h => by cases h⟩
theorem Laws.ReservedFields.faddF64 (g : BitVec 4) (d : BitVec 7) (a : BitVec 7) (b : BitVec 7) : Laws.ReservedFields.Statement (.faddF64 g d a b) := ⟨rfl, fun h => by cases h⟩
theorem Laws.ReservedFields.fsubF64 (g : BitVec 4) (d : BitVec 7) (a : BitVec 7) (b : BitVec 7) : Laws.ReservedFields.Statement (.fsubF64 g d a b) := ⟨rfl, fun h => by cases h⟩
theorem Laws.ReservedFields.fmulF64 (g : BitVec 4) (d : BitVec 7) (a : BitVec 7) (b : BitVec 7) : Laws.ReservedFields.Statement (.fmulF64 g d a b) := ⟨rfl, fun h => by cases h⟩
theorem Laws.ReservedFields.ffmaF64 (g : BitVec 4) (d : BitVec 7) (a : BitVec 7) (b : BitVec 7) : Laws.ReservedFields.Statement (.ffmaF64 g d a b) := ⟨rfl, fun h => by cases h⟩
theorem Laws.ReservedFields.fcmpF64 (g : BitVec 4) (c : BitVec 4) (k : BitVec 3) (a : BitVec 7) (b : BitVec 7) : Laws.ReservedFields.Statement (.fcmpF64 g c k a b) := ⟨rfl, fun h => by cases h⟩
theorem Laws.ReservedFields.ldB (g : BitVec 4) (d : BitVec 7) (b : BitVec 7) (o : BitVec 8) : Laws.ReservedFields.Statement (.ldB g d b o) := ⟨rfl, fun h => by cases h⟩
theorem Laws.ReservedFields.ldH (g : BitVec 4) (d : BitVec 7) (b : BitVec 7) (o : BitVec 8) : Laws.ReservedFields.Statement (.ldH g d b o) := ⟨rfl, fun h => by cases h⟩
theorem Laws.ReservedFields.ldW (g : BitVec 4) (d : BitVec 7) (b : BitVec 7) (o : BitVec 8) : Laws.ReservedFields.Statement (.ldW g d b o) := ⟨rfl, fun h => by cases h⟩
theorem Laws.ReservedFields.ldD (g : BitVec 4) (d : BitVec 7) (b : BitVec 7) (o : BitVec 8) : Laws.ReservedFields.Statement (.ldD g d b o) := ⟨rfl, fun h => by cases h⟩
theorem Laws.ReservedFields.ldQ (g : BitVec 4) (d : BitVec 7) (b : BitVec 7) (o : BitVec 8) : Laws.ReservedFields.Statement (.ldQ g d b o) := ⟨rfl, fun h => by cases h⟩
theorem Laws.ReservedFields.ldO (g : BitVec 4) (d : BitVec 7) (b : BitVec 7) (o : BitVec 8) : Laws.ReservedFields.Statement (.ldO g d b o) := ⟨rfl, fun h => by cases h⟩
theorem Laws.ReservedFields.ldnB (g : BitVec 4) (d : BitVec 7) (b : BitVec 7) (o : BitVec 8) : Laws.ReservedFields.Statement (.ldnB g d b o) := ⟨rfl, fun h => by cases h⟩
theorem Laws.ReservedFields.ldnH (g : BitVec 4) (d : BitVec 7) (b : BitVec 7) (o : BitVec 8) : Laws.ReservedFields.Statement (.ldnH g d b o) := ⟨rfl, fun h => by cases h⟩
theorem Laws.ReservedFields.ldnW (g : BitVec 4) (d : BitVec 7) (b : BitVec 7) (o : BitVec 8) : Laws.ReservedFields.Statement (.ldnW g d b o) := ⟨rfl, fun h => by cases h⟩
theorem Laws.ReservedFields.ldWAcq (g : BitVec 4) (d : BitVec 7) (b : BitVec 7) (o : BitVec 8) : Laws.ReservedFields.Statement (.ldWAcq g d b o) := ⟨rfl, fun h => by cases h⟩
theorem Laws.ReservedFields.ldDAcq (g : BitVec 4) (d : BitVec 7) (b : BitVec 7) (o : BitVec 8) : Laws.ReservedFields.Statement (.ldDAcq g d b o) := ⟨rfl, fun h => by cases h⟩
theorem Laws.ReservedFields.stB (g : BitVec 4) (d : BitVec 7) (b : BitVec 7) (o : BitVec 8) : Laws.ReservedFields.Statement (.stB g d b o) := ⟨rfl, fun h => by cases h⟩
theorem Laws.ReservedFields.stH (g : BitVec 4) (d : BitVec 7) (b : BitVec 7) (o : BitVec 8) : Laws.ReservedFields.Statement (.stH g d b o) := ⟨rfl, fun h => by cases h⟩
theorem Laws.ReservedFields.stW (g : BitVec 4) (d : BitVec 7) (b : BitVec 7) (o : BitVec 8) : Laws.ReservedFields.Statement (.stW g d b o) := ⟨rfl, fun h => by cases h⟩
theorem Laws.ReservedFields.stD (g : BitVec 4) (d : BitVec 7) (b : BitVec 7) (o : BitVec 8) : Laws.ReservedFields.Statement (.stD g d b o) := ⟨rfl, fun h => by cases h⟩
theorem Laws.ReservedFields.stQ (g : BitVec 4) (d : BitVec 7) (b : BitVec 7) (o : BitVec 8) : Laws.ReservedFields.Statement (.stQ g d b o) := ⟨rfl, fun h => by cases h⟩
theorem Laws.ReservedFields.stO (g : BitVec 4) (d : BitVec 7) (b : BitVec 7) (o : BitVec 8) : Laws.ReservedFields.Statement (.stO g d b o) := ⟨rfl, fun h => by cases h⟩
theorem Laws.ReservedFields.stWRel (g : BitVec 4) (d : BitVec 7) (b : BitVec 7) (o : BitVec 8) : Laws.ReservedFields.Statement (.stWRel g d b o) := ⟨rfl, fun h => by cases h⟩
theorem Laws.ReservedFields.stDRel (g : BitVec 4) (d : BitVec 7) (b : BitVec 7) (o : BitVec 8) : Laws.ReservedFields.Statement (.stDRel g d b o) := ⟨rfl, fun h => by cases h⟩
theorem Laws.ReservedFields.ldroW (g : BitVec 4) (d : BitVec 7) (b : BitVec 7) (o : BitVec 8) : Laws.ReservedFields.Statement (.ldroW g d b o) := ⟨rfl, fun h => by cases h⟩
theorem Laws.ReservedFields.ldroD (g : BitVec 4) (d : BitVec 7) (b : BitVec 7) (o : BitVec 8) : Laws.ReservedFields.Statement (.ldroD g d b o) := ⟨rfl, fun h => by cases h⟩
theorem Laws.ReservedFields.ldroQ (g : BitVec 4) (d : BitVec 7) (b : BitVec 7) (o : BitVec 8) : Laws.ReservedFields.Statement (.ldroQ g d b o) := ⟨rfl, fun h => by cases h⟩
theorem Laws.ReservedFields.ldroO (g : BitVec 4) (d : BitVec 7) (b : BitVec 7) (o : BitVec 8) : Laws.ReservedFields.Statement (.ldroO g d b o) := ⟨rfl, fun h => by cases h⟩
theorem Laws.ReservedFields.stncD (g : BitVec 4) (d : BitVec 7) (b : BitVec 7) (o : BitVec 8) : Laws.ReservedFields.Statement (.stncD g d b o) := ⟨rfl, fun h => by cases h⟩
theorem Laws.ReservedFields.stncQ (g : BitVec 4) (d : BitVec 7) (b : BitVec 7) (o : BitVec 8) : Laws.ReservedFields.Statement (.stncQ g d b o) := ⟨rfl, fun h => by cases h⟩
theorem Laws.ReservedFields.stncO (g : BitVec 4) (d : BitVec 7) (b : BitVec 7) (o : BitVec 8) : Laws.ReservedFields.Statement (.stncO g d b o) := ⟨rfl, fun h => by cases h⟩
theorem Laws.ReservedFields.lds (g : BitVec 4) (d : BitVec 7) (b : BitVec 7) (z : BitVec 2) (o : BitVec 6) : Laws.ReservedFields.Statement (.lds g d b z o) := ⟨rfl, fun h => by cases h⟩
theorem Laws.ReservedFields.sts (g : BitVec 4) (d : BitVec 7) (b : BitVec 7) (z : BitVec 2) (o : BitVec 6) : Laws.ReservedFields.Statement (.sts g d b z o) := ⟨rfl, fun h => by cases h⟩
theorem Laws.ReservedFields.vld (g : BitVec 4) (v : BitVec 7) (b : BitVec 7) (r : BitVec 3) (f : BitVec 1) (o : BitVec 4) : Laws.ReservedFields.Statement (.vld g v b r f o) := ⟨rfl, fun h => by cases h⟩
theorem Laws.ReservedFields.vst (g : BitVec 4) (v : BitVec 7) (b : BitVec 7) (r : BitVec 3) (f : BitVec 1) (o : BitVec 4) : Laws.ReservedFields.Statement (.vst g v b r f o) := ⟨rfl, fun h => by cases h⟩
theorem Laws.ReservedFields.vlds (g : BitVec 4) (v : BitVec 7) (b : BitVec 7) (o : BitVec 8) : Laws.ReservedFields.Statement (.vlds g v b o) := ⟨rfl, fun h => by cases h⟩
theorem Laws.ReservedFields.vsts (g : BitVec 4) (v : BitVec 7) (b : BitVec 7) (o : BitVec 8) : Laws.ReservedFields.Statement (.vsts g v b o) := ⟨rfl, fun h => by cases h⟩
theorem Laws.ReservedFields.amoW (g : BitVec 4) (d : BitVec 7) (b : BitVec 7) (c : BitVec 4) (o : BitVec 2) (s : BitVec 2) : Laws.ReservedFields.Statement (.amoW g d b c o s) := ⟨rfl, fun h => by cases h⟩
theorem Laws.ReservedFields.amoD (g : BitVec 4) (d : BitVec 7) (b : BitVec 7) (c : BitVec 4) (o : BitVec 2) (s : BitVec 2) : Laws.ReservedFields.Statement (.amoD g d b c o s) := ⟨rfl, fun h => by cases h⟩
theorem Laws.ReservedFields.casW (g : BitVec 4) (d : BitVec 7) (b : BitVec 7) (o : BitVec 2) (s : BitVec 2) : Laws.ReservedFields.Statement (.casW g d b o s) := ⟨rfl, fun h => by cases h⟩
theorem Laws.ReservedFields.casD (g : BitVec 4) (d : BitVec 7) (b : BitVec 7) (o : BitVec 2) (s : BitVec 2) : Laws.ReservedFields.Statement (.casD g d b o s) := ⟨rfl, fun h => by cases h⟩
theorem Laws.ReservedFields.xadd (g : BitVec 4) (d : BitVec 7) (b : BitVec 7) (w : BitVec 1) : Laws.ReservedFields.Statement (.xadd g d b w) := ⟨rfl, fun h => by cases h⟩
theorem Laws.ReservedFields.xget (g : BitVec 4) (d : BitVec 7) (b : BitVec 7) (r : BitVec 1) : Laws.ReservedFields.Statement (.xget g d b r) := ⟨rfl, fun h => by cases h⟩
theorem Laws.ReservedFields.fence (g : BitVec 4) (k : BitVec 3) (s : BitVec 3) : Laws.ReservedFields.Statement (.fence g k s) := ⟨rfl, fun h => by cases h⟩
theorem Laws.ReservedFields.prf (g : BitVec 4) (b : BitVec 7) (o : BitVec 8) : Laws.ReservedFields.Statement (.prf g b o) := ⟨rfl, fun h => by cases h⟩
theorem Laws.ReservedFields.probe (g : BitVec 4) (d : BitVec 7) : Laws.ReservedFields.Statement (.probe g d) := ⟨rfl, fun h => by cases h⟩
theorem Laws.ReservedFields.vadd (k : BitVec 3) (g : BitVec 2) (d : BitVec 7) (a : BitVec 7) (b : BitVec 7) : Laws.ReservedFields.Statement (.vadd k g d a b) := ⟨rfl, fun h => by cases h⟩
theorem Laws.ReservedFields.vsub (k : BitVec 3) (g : BitVec 2) (d : BitVec 7) (a : BitVec 7) (b : BitVec 7) : Laws.ReservedFields.Statement (.vsub k g d a b) := ⟨rfl, fun h => by cases h⟩
theorem Laws.ReservedFields.vmul (k : BitVec 3) (g : BitVec 2) (d : BitVec 7) (a : BitVec 7) (b : BitVec 7) : Laws.ReservedFields.Statement (.vmul k g d a b) := ⟨rfl, fun h => by cases h⟩
theorem Laws.ReservedFields.vfma (k : BitVec 3) (g : BitVec 2) (d : BitVec 7) (a : BitVec 7) (b : BitVec 7) : Laws.ReservedFields.Statement (.vfma k g d a b) := ⟨rfl, fun h => by cases h⟩
theorem Laws.ReservedFields.vfms (k : BitVec 3) (g : BitVec 2) (d : BitVec 7) (a : BitVec 7) (b : BitVec 7) : Laws.ReservedFields.Statement (.vfms k g d a b) := ⟨rfl, fun h => by cases h⟩
theorem Laws.ReservedFields.vmin (k : BitVec 3) (g : BitVec 2) (d : BitVec 7) (a : BitVec 7) (b : BitVec 7) : Laws.ReservedFields.Statement (.vmin k g d a b) := ⟨rfl, fun h => by cases h⟩
theorem Laws.ReservedFields.vmax (k : BitVec 3) (g : BitVec 2) (d : BitVec 7) (a : BitVec 7) (b : BitVec 7) : Laws.ReservedFields.Statement (.vmax k g d a b) := ⟨rfl, fun h => by cases h⟩
theorem Laws.ReservedFields.vabs (k : BitVec 3) (g : BitVec 2) (d : BitVec 7) (a : BitVec 7) : Laws.ReservedFields.Statement (.vabs k g d a) := ⟨rfl, fun h => by cases h⟩
theorem Laws.ReservedFields.vneg (k : BitVec 3) (g : BitVec 2) (d : BitVec 7) (a : BitVec 7) : Laws.ReservedFields.Statement (.vneg k g d a) := ⟨rfl, fun h => by cases h⟩
theorem Laws.ReservedFields.vclamp (k : BitVec 3) (g : BitVec 2) (d : BitVec 7) (a : BitVec 7) (b : BitVec 7) : Laws.ReservedFields.Statement (.vclamp k g d a b) := ⟨rfl, fun h => by cases h⟩
theorem Laws.ReservedFields.vand (k : BitVec 3) (g : BitVec 2) (d : BitVec 7) (a : BitVec 7) (b : BitVec 7) : Laws.ReservedFields.Statement (.vand k g d a b) := ⟨rfl, fun h => by cases h⟩
theorem Laws.ReservedFields.vor (k : BitVec 3) (g : BitVec 2) (d : BitVec 7) (a : BitVec 7) (b : BitVec 7) : Laws.ReservedFields.Statement (.vor k g d a b) := ⟨rfl, fun h => by cases h⟩
theorem Laws.ReservedFields.vxor (k : BitVec 3) (g : BitVec 2) (d : BitVec 7) (a : BitVec 7) (b : BitVec 7) : Laws.ReservedFields.Statement (.vxor k g d a b) := ⟨rfl, fun h => by cases h⟩
theorem Laws.ReservedFields.vshl (k : BitVec 3) (g : BitVec 2) (d : BitVec 7) (a : BitVec 7) (b : BitVec 7) : Laws.ReservedFields.Statement (.vshl k g d a b) := ⟨rfl, fun h => by cases h⟩
theorem Laws.ReservedFields.vshr (k : BitVec 3) (g : BitVec 2) (d : BitVec 7) (a : BitVec 7) (b : BitVec 7) : Laws.ReservedFields.Statement (.vshr k g d a b) := ⟨rfl, fun h => by cases h⟩
theorem Laws.ReservedFields.vsra (k : BitVec 3) (g : BitVec 2) (d : BitVec 7) (a : BitVec 7) (b : BitVec 7) : Laws.ReservedFields.Statement (.vsra k g d a b) := ⟨rfl, fun h => by cases h⟩
theorem Laws.ReservedFields.vcmp (k : BitVec 3) (g : BitVec 2) (c : BitVec 4) (q : BitVec 3) (a : BitVec 7) (b : BitVec 7) : Laws.ReservedFields.Statement (.vcmp k g c q a b) := ⟨rfl, fun h => by cases h⟩
theorem Laws.ReservedFields.vsel (k : BitVec 3) (g : BitVec 2) (d : BitVec 7) (a : BitVec 7) (b : BitVec 7) : Laws.ReservedFields.Statement (.vsel k g d a b) := ⟨rfl, fun h => by cases h⟩
theorem Laws.ReservedFields.vmov (k : BitVec 3) (g : BitVec 2) (d : BitVec 7) (a : BitVec 7) : Laws.ReservedFields.Statement (.vmov k g d a) := ⟨rfl, fun h => by cases h⟩
theorem Laws.ReservedFields.vbcs (k : BitVec 3) (g : BitVec 2) (d : BitVec 7) (b : BitVec 7) : Laws.ReservedFields.Statement (.vbcs k g d b) := ⟨rfl, fun h => by cases h⟩
theorem Laws.ReservedFields.vlane (k : BitVec 3) (g : BitVec 2) (d : BitVec 7) : Laws.ReservedFields.Statement (.vlane k g d) := ⟨rfl, fun h => by cases h⟩
theorem Laws.ReservedFields.vaddS (k : BitVec 3) (g : BitVec 2) (d : BitVec 7) (a : BitVec 7) (b : BitVec 7) : Laws.ReservedFields.Statement (.vaddS k g d a b) := ⟨rfl, fun h => by cases h⟩
theorem Laws.ReservedFields.vsubS (k : BitVec 3) (g : BitVec 2) (d : BitVec 7) (a : BitVec 7) (b : BitVec 7) : Laws.ReservedFields.Statement (.vsubS k g d a b) := ⟨rfl, fun h => by cases h⟩
theorem Laws.ReservedFields.vmulS (k : BitVec 3) (g : BitVec 2) (d : BitVec 7) (a : BitVec 7) (b : BitVec 7) : Laws.ReservedFields.Statement (.vmulS k g d a b) := ⟨rfl, fun h => by cases h⟩
theorem Laws.ReservedFields.vfmaS (k : BitVec 3) (g : BitVec 2) (d : BitVec 7) (a : BitVec 7) (b : BitVec 7) : Laws.ReservedFields.Statement (.vfmaS k g d a b) := ⟨rfl, fun h => by cases h⟩
theorem Laws.ReservedFields.vfmsS (k : BitVec 3) (g : BitVec 2) (d : BitVec 7) (a : BitVec 7) (b : BitVec 7) : Laws.ReservedFields.Statement (.vfmsS k g d a b) := ⟨rfl, fun h => by cases h⟩
theorem Laws.ReservedFields.vminS (k : BitVec 3) (g : BitVec 2) (d : BitVec 7) (a : BitVec 7) (b : BitVec 7) : Laws.ReservedFields.Statement (.vminS k g d a b) := ⟨rfl, fun h => by cases h⟩
theorem Laws.ReservedFields.vmaxS (k : BitVec 3) (g : BitVec 2) (d : BitVec 7) (a : BitVec 7) (b : BitVec 7) : Laws.ReservedFields.Statement (.vmaxS k g d a b) := ⟨rfl, fun h => by cases h⟩
theorem Laws.ReservedFields.vclampS (k : BitVec 3) (g : BitVec 2) (d : BitVec 7) (a : BitVec 7) (b : BitVec 7) : Laws.ReservedFields.Statement (.vclampS k g d a b) := ⟨rfl, fun h => by cases h⟩
theorem Laws.ReservedFields.vandS (k : BitVec 3) (g : BitVec 2) (d : BitVec 7) (a : BitVec 7) (b : BitVec 7) : Laws.ReservedFields.Statement (.vandS k g d a b) := ⟨rfl, fun h => by cases h⟩
theorem Laws.ReservedFields.vorS (k : BitVec 3) (g : BitVec 2) (d : BitVec 7) (a : BitVec 7) (b : BitVec 7) : Laws.ReservedFields.Statement (.vorS k g d a b) := ⟨rfl, fun h => by cases h⟩
theorem Laws.ReservedFields.vxorS (k : BitVec 3) (g : BitVec 2) (d : BitVec 7) (a : BitVec 7) (b : BitVec 7) : Laws.ReservedFields.Statement (.vxorS k g d a b) := ⟨rfl, fun h => by cases h⟩
theorem Laws.ReservedFields.vshlS (k : BitVec 3) (g : BitVec 2) (d : BitVec 7) (a : BitVec 7) (b : BitVec 7) : Laws.ReservedFields.Statement (.vshlS k g d a b) := ⟨rfl, fun h => by cases h⟩
theorem Laws.ReservedFields.vshrS (k : BitVec 3) (g : BitVec 2) (d : BitVec 7) (a : BitVec 7) (b : BitVec 7) : Laws.ReservedFields.Statement (.vshrS k g d a b) := ⟨rfl, fun h => by cases h⟩
theorem Laws.ReservedFields.vsraS (k : BitVec 3) (g : BitVec 2) (d : BitVec 7) (a : BitVec 7) (b : BitVec 7) : Laws.ReservedFields.Statement (.vsraS k g d a b) := ⟨rfl, fun h => by cases h⟩
theorem Laws.ReservedFields.vcmpS (k : BitVec 3) (g : BitVec 2) (c : BitVec 4) (q : BitVec 3) (a : BitVec 7) (b : BitVec 7) : Laws.ReservedFields.Statement (.vcmpS k g c q a b) := ⟨rfl, fun h => by cases h⟩
theorem Laws.ReservedFields.vselS (k : BitVec 3) (g : BitVec 2) (d : BitVec 7) (a : BitVec 7) (b : BitVec 7) : Laws.ReservedFields.Statement (.vselS k g d a b) := ⟨rfl, fun h => by cases h⟩
theorem Laws.ReservedFields.vexp (k : BitVec 3) (g : BitVec 2) (d : BitVec 7) (a : BitVec 7) : Laws.ReservedFields.Statement (.vexp k g d a) := ⟨rfl, fun h => by cases h⟩
theorem Laws.ReservedFields.vlog (k : BitVec 3) (g : BitVec 2) (d : BitVec 7) (a : BitVec 7) : Laws.ReservedFields.Statement (.vlog k g d a) := ⟨rfl, fun h => by cases h⟩
theorem Laws.ReservedFields.vtanh (k : BitVec 3) (g : BitVec 2) (d : BitVec 7) (a : BitVec 7) : Laws.ReservedFields.Statement (.vtanh k g d a) := ⟨rfl, fun h => by cases h⟩
theorem Laws.ReservedFields.vsig (k : BitVec 3) (g : BitVec 2) (d : BitVec 7) (a : BitVec 7) : Laws.ReservedFields.Statement (.vsig k g d a) := ⟨rfl, fun h => by cases h⟩
theorem Laws.ReservedFields.vgelu (k : BitVec 3) (g : BitVec 2) (d : BitVec 7) (a : BitVec 7) : Laws.ReservedFields.Statement (.vgelu k g d a) := ⟨rfl, fun h => by cases h⟩
theorem Laws.ReservedFields.vsilu (k : BitVec 3) (g : BitVec 2) (d : BitVec 7) (a : BitVec 7) : Laws.ReservedFields.Statement (.vsilu k g d a) := ⟨rfl, fun h => by cases h⟩
theorem Laws.ReservedFields.vrsqrt (k : BitVec 3) (g : BitVec 2) (d : BitVec 7) (a : BitVec 7) : Laws.ReservedFields.Statement (.vrsqrt k g d a) := ⟨rfl, fun h => by cases h⟩
theorem Laws.ReservedFields.vsqrt (k : BitVec 3) (g : BitVec 2) (d : BitVec 7) (a : BitVec 7) : Laws.ReservedFields.Statement (.vsqrt k g d a) := ⟨rfl, fun h => by cases h⟩
theorem Laws.ReservedFields.vrcp (k : BitVec 3) (g : BitVec 2) (d : BitVec 7) (a : BitVec 7) : Laws.ReservedFields.Statement (.vrcp k g d a) := ⟨rfl, fun h => by cases h⟩
theorem Laws.ReservedFields.vrcpe (k : BitVec 3) (g : BitVec 2) (d : BitVec 7) (a : BitVec 7) : Laws.ReservedFields.Statement (.vrcpe k g d a) := ⟨rfl, fun h => by cases h⟩
theorem Laws.ReservedFields.vrcpn (k : BitVec 3) (g : BitVec 2) (d : BitVec 7) (a : BitVec 7) (b : BitVec 7) : Laws.ReservedFields.Statement (.vrcpn k g d a b) := ⟨rfl, fun h => by cases h⟩
theorem Laws.ReservedFields.vrsqe (k : BitVec 3) (g : BitVec 2) (d : BitVec 7) (a : BitVec 7) : Laws.ReservedFields.Statement (.vrsqe k g d a) := ⟨rfl, fun h => by cases h⟩
theorem Laws.ReservedFields.vrsqn (k : BitVec 3) (g : BitVec 2) (d : BitVec 7) (a : BitVec 7) (b : BitVec 7) : Laws.ReservedFields.Statement (.vrsqn k g d a b) := ⟨rfl, fun h => by cases h⟩
theorem Laws.ReservedFields.vcvt (k : BitVec 3) (g : BitVec 2) (d : BitVec 7) (a : BitVec 7) (r : BitVec 1) (u : BitVec 6) : Laws.ReservedFields.Statement (.vcvt k g d a r u) := ⟨rfl, fun h => by cases h⟩
theorem Laws.ReservedFields.vperm (k : BitVec 3) (g : BitVec 2) (d : BitVec 7) (a : BitVec 7) (b : BitVec 7) : Laws.ReservedFields.Statement (.vperm k g d a b) := ⟨rfl, fun h => by cases h⟩
theorem Laws.ReservedFields.vslide (k : BitVec 3) (g : BitVec 2) (d : BitVec 7) (a : BitVec 7) (b : BitVec 7) : Laws.ReservedFields.Statement (.vslide k g d a b) := ⟨rfl, fun h => by cases h⟩
theorem Laws.ReservedFields.vsort (k : BitVec 3) (g : BitVec 2) (d : BitVec 7) (a : BitVec 7) : Laws.ReservedFields.Statement (.vsort k g d a) := ⟨rfl, fun h => by cases h⟩
theorem Laws.ReservedFields.vred (k : BitVec 3) (g : BitVec 2) (d : BitVec 7) (a : BitVec 7) : Laws.ReservedFields.Statement (.vred k g d a) := ⟨rfl, fun h => by cases h⟩
theorem Laws.ReservedFields.mpush (g : BitVec 2) (q : BitVec 3) : Laws.ReservedFields.Statement (.mpush g q) := ⟨rfl, fun h => by cases h⟩
theorem Laws.ReservedFields.minv (g : BitVec 2) : Laws.ReservedFields.Statement (.minv g) := ⟨rfl, fun h => by cases h⟩
theorem Laws.ReservedFields.mpop (g : BitVec 2) : Laws.ReservedFields.Statement (.mpop g) := ⟨rfl, fun h => by cases h⟩
theorem Laws.ReservedFields.mset (g : BitVec 2) (t : BitVec 1) (q : BitVec 3) (a : BitVec 7) : Laws.ReservedFields.Statement (.mset g t q a) := ⟨rfl, fun h => by cases h⟩
theorem Laws.ReservedFields.mget (g : BitVec 2) (d : BitVec 7) (t : BitVec 1) (q : BitVec 3) : Laws.ReservedFields.Statement (.mget g d t q) := ⟨rfl, fun h => by cases h⟩
theorem Laws.ReservedFields.vslideS (k : BitVec 3) (g : BitVec 2) (d : BitVec 7) (a : BitVec 7) (b : BitVec 7) : Laws.ReservedFields.Statement (.vslideS k g d a b) := ⟨rfl, fun h => by cases h⟩
theorem Laws.ReservedFields.mcfg (g : BitVec 4) (a : BitVec 7) (b : BitVec 7) : Laws.ReservedFields.Statement (.mcfg g a b) := ⟨rfl, fun h => by cases h⟩
theorem Laws.ReservedFields.cpl (g : BitVec 4) (a : BitVec 7) (l : BitVec 4) : Laws.ReservedFields.Statement (.cpl g a l) := ⟨rfl, fun h => by cases h⟩
theorem Laws.ReservedFields.mld (g : BitVec 4) (a : BitVec 7) (c : BitVec 1) : Laws.ReservedFields.Statement (.mld g a c) := ⟨rfl, fun h => by cases h⟩
theorem Laws.ReservedFields.mmk (g : BitVec 4) (a : BitVec 7) (b : BitVec 7) (z : BitVec 1) : Laws.ReservedFields.Statement (.mmk g a b z) := ⟨rfl, fun h => by cases h⟩
theorem Laws.ReservedFields.mmc (g : BitVec 4) (a : BitVec 7) (b : BitVec 7) (z : BitVec 1) : Laws.ReservedFields.Statement (.mmc g a b z) := ⟨rfl, fun h => by cases h⟩
theorem Laws.ReservedFields.msp (g : BitVec 4) (a : BitVec 7) (b : BitVec 7) (z : BitVec 1) (n : BitVec 2) : Laws.ReservedFields.Statement (.msp g a b z n) := ⟨rfl, fun h => by cases h⟩
theorem Laws.ReservedFields.mdp (g : BitVec 4) (a : BitVec 7) : Laws.ReservedFields.Statement (.mdp g a) := ⟨rfl, fun h => by cases h⟩
theorem Laws.ReservedFields.mdr (g : BitVec 4) (a : BitVec 7) (b : BitVec 7) (s : BitVec 7) : Laws.ReservedFields.Statement (.mdr g a b s) := ⟨rfl, fun h => by cases h⟩
theorem Laws.ReservedFields.mstr (g : BitVec 4) (a : BitVec 7) (b : BitVec 7) (s : BitVec 7) : Laws.ReservedFields.Statement (.mstr g a b s) := ⟨rfl, fun h => by cases h⟩
theorem Laws.ReservedFields.mzero (g : BitVec 4) : Laws.ReservedFields.Statement (.mzero g) := ⟨rfl, fun h => by cases h⟩
theorem Laws.ReservedFields.mtab (g : BitVec 4) (a : BitVec 7) (b : BitVec 7) : Laws.ReservedFields.Statement (.mtab g a b) := ⟨rfl, fun h => by cases h⟩
theorem Laws.ReservedFields.mhist (g : BitVec 4) (a : BitVec 7) (b : BitVec 7) (r : BitVec 1) (c : BitVec 1) (l : BitVec 1) : Laws.ReservedFields.Statement (.mhist g a b r c l) := ⟨rfl, fun h => by cases h⟩
theorem Laws.ReservedFields.mbind (g : BitVec 4) (a : BitVec 7) (t : BitVec 2) (y : BitVec 6) : Laws.ReservedFields.Statement (.mbind g a t y) := ⟨rfl, fun h => by cases h⟩
theorem Laws.ReservedFields.mst (g : BitVec 4) (a : BitVec 7) : Laws.ReservedFields.Statement (.mst g a) := ⟨rfl, fun h => by cases h⟩
theorem Laws.ReservedFields.mfence (g : BitVec 4) : Laws.ReservedFields.Statement (.mfence g) := ⟨rfl, fun h => by cases h⟩
theorem Laws.ReservedFields.cpy (g : BitVec 4) (a : BitVec 7) (b : BitVec 7) (h : BitVec 8) : Laws.ReservedFields.Statement (.cpy g a b h) := ⟨rfl, fun h => by cases h⟩
theorem Laws.ReservedFields.cpyt (g : BitVec 4) (a : BitVec 7) (b : BitVec 7) (h : BitVec 8) : Laws.ReservedFields.Statement (.cpyt g a b h) := ⟨rfl, fun h => by cases h⟩
theorem Laws.ReservedFields.cpyx (g : BitVec 4) (a : BitVec 7) (b : BitVec 7) (h : BitVec 8) : Laws.ReservedFields.Statement (.cpyx g a b h) := ⟨rfl, fun h => by cases h⟩
theorem Laws.ReservedFields.cpyc (g : BitVec 4) (a : BitVec 7) (b : BitVec 7) (h : BitVec 8) : Laws.ReservedFields.Statement (.cpyc g a b h) := ⟨rfl, fun h => by cases h⟩
theorem Laws.ReservedFields.barm (g : BitVec 4) (a : BitVec 7) (b : BitVec 7) (h : BitVec 8) : Laws.ReservedFields.Statement (.barm g a b h) := ⟨rfl, fun h => by cases h⟩
theorem Laws.ReservedFields.barr (g : BitVec 4) (a : BitVec 7) (h : BitVec 8) : Laws.ReservedFields.Statement (.barr g a h) := ⟨rfl, fun h => by cases h⟩
theorem Laws.ReservedFields.bq (g : BitVec 4) (a : BitVec 7) : Laws.ReservedFields.Statement (.bq g a) := ⟨rfl, fun h => by cases h⟩
theorem Laws.ReservedFields.qinit (g : BitVec 4) (a : BitVec 7) (b : BitVec 7) (h : BitVec 8) : Laws.ReservedFields.Statement (.qinit g a b h) := ⟨rfl, fun h => by cases h⟩
theorem Laws.ReservedFields.qadd (g : BitVec 4) (a : BitVec 7) (b : BitVec 7) (h : BitVec 8) : Laws.ReservedFields.Statement (.qadd g a b h) := ⟨rfl, fun h => by cases h⟩
theorem Laws.ReservedFields.qmerge (g : BitVec 4) (a : BitVec 7) (b : BitVec 7) (h : BitVec 8) : Laws.ReservedFields.Statement (.qmerge g a b h) := ⟨rfl, fun h => by cases h⟩
theorem Laws.ReservedFields.qmergeat (g : BitVec 4) (a : BitVec 7) (b : BitVec 7) (h : BitVec 8) : Laws.ReservedFields.Statement (.qmergeat g a b h) := ⟨rfl, fun h => by cases h⟩
theorem Laws.ReservedFields.qquery (g : BitVec 4) (a : BitVec 7) (b : BitVec 7) (h : BitVec 8) : Laws.ReservedFields.Statement (.qquery g a b h) := ⟨rfl, fun h => by cases h⟩
theorem Laws.ReservedFields.mmerge (g : BitVec 4) (a : BitVec 7) (b : BitVec 7) (h : BitVec 8) : Laws.ReservedFields.Statement (.mmerge g a b h) := ⟨rfl, fun h => by cases h⟩
theorem Laws.ReservedFields.hinit (g : BitVec 4) (a : BitVec 7) (h : BitVec 8) : Laws.ReservedFields.Statement (.hinit g a h) := ⟨rfl, fun h => by cases h⟩
theorem Laws.ReservedFields.hadd (g : BitVec 4) (a : BitVec 7) (b : BitVec 7) (h : BitVec 8) : Laws.ReservedFields.Statement (.hadd g a b h) := ⟨rfl, fun h => by cases h⟩
theorem Laws.ReservedFields.hmerge (g : BitVec 4) (a : BitVec 7) (b : BitVec 7) (h : BitVec 8) : Laws.ReservedFields.Statement (.hmerge g a b h) := ⟨rfl, fun h => by cases h⟩
theorem Laws.ReservedFields.htop (g : BitVec 4) (a : BitVec 7) (b : BitVec 7) (h : BitVec 8) : Laws.ReservedFields.Statement (.htop g a b h) := ⟨rfl, fun h => by cases h⟩
theorem Laws.ReservedFields.dinit (g : BitVec 4) (a : BitVec 7) (b : BitVec 7) (h : BitVec 8) : Laws.ReservedFields.Statement (.dinit g a b h) := ⟨rfl, fun h => by cases h⟩
theorem Laws.ReservedFields.dadd (g : BitVec 4) (a : BitVec 7) (b : BitVec 7) (h : BitVec 8) : Laws.ReservedFields.Statement (.dadd g a b h) := ⟨rfl, fun h => by cases h⟩
theorem Laws.ReservedFields.dmerge (g : BitVec 4) (a : BitVec 7) (b : BitVec 7) (h : BitVec 8) : Laws.ReservedFields.Statement (.dmerge g a b h) := ⟨rfl, fun h => by cases h⟩
theorem Laws.ReservedFields.dest (g : BitVec 4) (a : BitVec 7) (h : BitVec 8) : Laws.ReservedFields.Statement (.dest g a h) := ⟨rfl, fun h => by cases h⟩
theorem Laws.ReservedFields.stopen (g : BitVec 4) (a : BitVec 7) (b : BitVec 7) (h : BitVec 8) : Laws.ReservedFields.Statement (.stopen g a b h) := ⟨rfl, fun h => by cases h⟩
theorem Laws.ReservedFields.stld (g : BitVec 4) (a : BitVec 7) (b : BitVec 7) (h : BitVec 8) : Laws.ReservedFields.Statement (.stld g a b h) := ⟨rfl, fun h => by cases h⟩
theorem Laws.ReservedFields.stst (g : BitVec 4) (a : BitVec 7) (b : BitVec 7) (h : BitVec 8) : Laws.ReservedFields.Statement (.stst g a b h) := ⟨rfl, fun h => by cases h⟩
theorem Laws.ReservedFields.stmark (g : BitVec 4) (a : BitVec 7) (h : BitVec 8) : Laws.ReservedFields.Statement (.stmark g a h) := ⟨rfl, fun h => by cases h⟩
theorem Laws.ReservedFields.stback (g : BitVec 4) (a : BitVec 7) (b : BitVec 7) (h : BitVec 8) : Laws.ReservedFields.Statement (.stback g a b h) := ⟨rfl, fun h => by cases h⟩
theorem Laws.ReservedFields.stfork (g : BitVec 4) (a : BitVec 7) (b : BitVec 7) (h : BitVec 8) : Laws.ReservedFields.Statement (.stfork g a b h) := ⟨rfl, fun h => by cases h⟩
theorem Laws.ReservedFields.stpin (g : BitVec 4) (a : BitVec 7) (b : BitVec 7) (h : BitVec 8) : Laws.ReservedFields.Statement (.stpin g a b h) := ⟨rfl, fun h => by cases h⟩
theorem Laws.ReservedFields.stclose (g : BitVec 4) (a : BitVec 7) (h : BitVec 8) : Laws.ReservedFields.Statement (.stclose g a h) := ⟨rfl, fun h => by cases h⟩
theorem Laws.ReservedFields.stq (g : BitVec 4) (a : BitVec 7) (b : BitVec 7) : Laws.ReservedFields.Statement (.stq g a b) := ⟨rfl, fun h => by cases h⟩
theorem Laws.ReservedFields.mig (g : BitVec 4) (a : BitVec 7) (b : BitVec 7) (h : BitVec 8) : Laws.ReservedFields.Statement (.mig g a b h) := ⟨rfl, fun h => by cases h⟩
theorem Laws.ReservedFields.pkset (g : BitVec 4) (a : BitVec 7) (b : BitVec 7) : Laws.ReservedFields.Statement (.pkset g a b) := ⟨rfl, fun h => by cases h⟩
theorem Laws.ReservedFields.own (g : BitVec 4) (a : BitVec 7) : Laws.ReservedFields.Statement (.own g a) := ⟨rfl, fun h => by cases h⟩
theorem Laws.ReservedFields.ocinv (g : BitVec 4) (a : BitVec 7) (b : BitVec 7) (h : BitVec 8) : Laws.ReservedFields.Statement (.ocinv g a b h) := ⟨rfl, fun h => by cases h⟩
theorem Laws.ReservedFields.lrenew (g : BitVec 4) (h : BitVec 8) : Laws.ReservedFields.Statement (.lrenew g h) := ⟨rfl, fun h => by cases h⟩
theorem Laws.ReservedFields.hnote (g : BitVec 4) (a : BitVec 7) (b : BitVec 7) (h : BitVec 8) : Laws.ReservedFields.Statement (.hnote g a b h) := ⟨rfl, fun h => by cases h⟩
theorem Laws.ReservedFields.hintr (g : BitVec 4) (a : BitVec 7) (h : BitVec 8) : Laws.ReservedFields.Statement (.hintr g a h) := ⟨rfl, fun h => by cases h⟩
theorem Laws.ReservedFields.gath (g : BitVec 4) (a : BitVec 7) (h : BitVec 8) : Laws.ReservedFields.Statement (.gath g a h) := ⟨rfl, fun h => by cases h⟩
theorem Laws.ReservedFields.scat (g : BitVec 4) (a : BitVec 7) (h : BitVec 8) : Laws.ReservedFields.Statement (.scat g a h) := ⟨rfl, fun h => by cases h⟩
theorem Laws.ReservedFields.scata (g : BitVec 4) (a : BitVec 7) (h : BitVec 8) : Laws.ReservedFields.Statement (.scata g a h) := ⟨rfl, fun h => by cases h⟩
theorem Laws.ReservedFields.fqread (g : BitVec 4) (a : BitVec 7) (b : BitVec 7) (h : BitVec 8) : Laws.ReservedFields.Statement (.fqread g a b h) := ⟨rfl, fun h => by cases h⟩
theorem Laws.ReservedFields.frep (g : BitVec 4) (a : BitVec 7) : Laws.ReservedFields.Statement (.frep g a) := ⟨rfl, fun h => by cases h⟩
theorem Laws.ReservedFields.fdrop (g : BitVec 4) (a : BitVec 7) (b : BitVec 7) : Laws.ReservedFields.Statement (.fdrop g a b) := ⟨rfl, fun h => by cases h⟩
theorem Laws.ReservedFields.wlnew (g : BitVec 4) (a : BitVec 7) (b : BitVec 7) (h : BitVec 8) : Laws.ReservedFields.Statement (.wlnew g a b h) := ⟨rfl, fun h => by cases h⟩
theorem Laws.ReservedFields.wlpush (g : BitVec 4) (a : BitVec 7) (h : BitVec 8) : Laws.ReservedFields.Statement (.wlpush g a h) := ⟨rfl, fun h => by cases h⟩
theorem Laws.ReservedFields.wlpop (g : BitVec 4) (a : BitVec 7) (h : BitVec 8) : Laws.ReservedFields.Statement (.wlpop g a h) := ⟨rfl, fun h => by cases h⟩
theorem Laws.ReservedFields.wlins (g : BitVec 4) (a : BitVec 7) (b : BitVec 7) (h : BitVec 8) : Laws.ReservedFields.Statement (.wlins g a b h) := ⟨rfl, fun h => by cases h⟩
theorem Laws.ReservedFields.wlstat (g : BitVec 4) (a : BitVec 7) : Laws.ReservedFields.Statement (.wlstat g a) := ⟨rfl, fun h => by cases h⟩
theorem Laws.ReservedFields.cqsend (g : BitVec 4) (a : BitVec 7) (b : BitVec 7) (h : BitVec 8) : Laws.ReservedFields.Statement (.cqsend g a b h) := ⟨rfl, fun h => by cases h⟩
theorem Laws.ReservedFields.cst (g : BitVec 4) (a : BitVec 7) (b : BitVec 7) : Laws.ReservedFields.Statement (.cst g a b) := ⟨rfl, fun h => by cases h⟩
theorem Laws.ReservedFields.copen (g : BitVec 4) (a : BitVec 7) (b : BitVec 7) (h : BitVec 8) : Laws.ReservedFields.Statement (.copen g a b h) := ⟨rfl, fun h => by cases h⟩
theorem Laws.ReservedFields.cput (g : BitVec 4) (a : BitVec 7) (h : BitVec 8) : Laws.ReservedFields.Statement (.cput g a h) := ⟨rfl, fun h => by cases h⟩
theorem Laws.ReservedFields.cget (g : BitVec 4) (a : BitVec 7) (h : BitVec 8) : Laws.ReservedFields.Statement (.cget g a h) := ⟨rfl, fun h => by cases h⟩
theorem Laws.ReservedFields.cred (g : BitVec 4) (a : BitVec 7) (h : BitVec 8) : Laws.ReservedFields.Statement (.cred g a h) := ⟨rfl, fun h => by cases h⟩
theorem Laws.ReservedFields.cxf (g : BitVec 4) (a : BitVec 7) (h : BitVec 8) : Laws.ReservedFields.Statement (.cxf g a h) := ⟨rfl, fun h => by cases h⟩
theorem Laws.ReservedFields.cbar (g : BitVec 4) (a : BitVec 7) (h : BitVec 8) : Laws.ReservedFields.Statement (.cbar g a h) := ⟨rfl, fun h => by cases h⟩
theorem Laws.ReservedFields.csmp (g : BitVec 4) (a : BitVec 7) (h : BitVec 8) : Laws.ReservedFields.Statement (.csmp g a h) := ⟨rfl, fun h => by cases h⟩
theorem Laws.ReservedFields.cstr (g : BitVec 4) (a : BitVec 7) (b : BitVec 7) (h : BitVec 8) : Laws.ReservedFields.Statement (.cstr g a b h) := ⟨rfl, fun h => by cases h⟩
theorem Laws.ReservedFields.nop : Laws.ReservedFields.Statement .nop := ⟨rfl, fun h => by cases h⟩
theorem Laws.ReservedFields.ret : Laws.ReservedFields.Statement .ret := ⟨rfl, fun h => by cases h⟩
theorem Laws.ReservedFields.suspend : Laws.ReservedFields.Statement .suspend := ⟨rfl, fun h => by cases h⟩
theorem Laws.ReservedFields.yield : Laws.ReservedFields.Statement .yield := ⟨rfl, fun h => by cases h⟩
theorem Laws.ReservedFields.endTask : Laws.ReservedFields.Statement .endTask := ⟨rfl, fun h => by cases h⟩
theorem Laws.ReservedFields.eret : Laws.ReservedFields.Statement .eret := ⟨rfl, fun h => by cases h⟩
theorem Laws.ReservedFields.halt : Laws.ReservedFields.Statement .halt := ⟨rfl, fun h => by cases h⟩
theorem Laws.ReservedFields.nopScalar : Laws.ReservedFields.Statement .nopScalar := ⟨rfl, fun h => by cases h⟩
theorem Laws.ReservedFields.nopMemory : Laws.ReservedFields.Statement .nopMemory := ⟨rfl, fun h => by cases h⟩
theorem Laws.ReservedFields.nopVector0 : Laws.ReservedFields.Statement .nopVector0 := ⟨rfl, fun h => by cases h⟩
theorem Laws.ReservedFields.nopVector1 : Laws.ReservedFields.Statement .nopVector1 := ⟨rfl, fun h => by cases h⟩
theorem Laws.ReservedFields.nopArray : Laws.ReservedFields.Statement .nopArray := ⟨rfl, fun h => by cases h⟩
theorem Laws.ReservedFields.nopEngine : Laws.ReservedFields.Statement .nopEngine := ⟨rfl, fun h => by cases h⟩
theorem Laws.ReservedFields.bundleIssue (g : Nat) : Laws.ReservedFields.Statement (.bundleIssue g) := ⟨rfl, fun _ => ⟨rfl, rfl⟩⟩
theorem Laws.ReservedFields.bundleFetch (g : Nat) : Laws.ReservedFields.Statement (.bundleFetch g) := ⟨rfl, fun _ => ⟨rfl, rfl⟩⟩
theorem Laws.ReservedFields.fairnessBound (c : Nat) : Laws.ReservedFields.Statement (.fairnessBound c) := ⟨rfl, fun _ => ⟨rfl, rfl⟩⟩
theorem Laws.ReservedFields.loadAnswer (id : Nat) : Laws.ReservedFields.Statement (.loadAnswer id) := ⟨rfl, fun _ => ⟨rfl, rfl⟩⟩
theorem Laws.ReservedFields.writeAcknowledgement (id : Nat) : Laws.ReservedFields.Statement (.writeAcknowledgement id) := ⟨rfl, fun _ => ⟨rfl, rfl⟩⟩
theorem Laws.ReservedFields.storeRejection (id : Nat) : Laws.ReservedFields.Statement (.storeRejection id) := ⟨rfl, fun _ => ⟨rfl, rfl⟩⟩
theorem Laws.ReservedFields.probeAnswer (id : Nat) : Laws.ReservedFields.Statement (.probeAnswer id) := ⟨rfl, fun _ => ⟨rfl, rfl⟩⟩
theorem Laws.ReservedFields.dependencyEntryAgeProbe (g : Nat) (j : Nat) : Laws.ReservedFields.Statement (.dependencyEntryAgeProbe g j) := ⟨rfl, fun _ => ⟨rfl, rfl⟩⟩
theorem Laws.ReservedFields.causalWriteApply (id : Nat) : Laws.ReservedFields.Statement (.causalWriteApply id) := ⟨rfl, fun _ => ⟨rfl, rfl⟩⟩
theorem Laws.ReservedFields.readRequestServe (id : Nat) : Laws.ReservedFields.Statement (.readRequestServe id) := ⟨rfl, fun _ => ⟨rfl, rfl⟩⟩
theorem Laws.ReservedFields.probeRequestServe (id : Nat) : Laws.ReservedFields.Statement (.probeRequestServe id) := ⟨rfl, fun _ => ⟨rfl, rfl⟩⟩
theorem Laws.ReservedFields.atomicUpdateServe (id : Nat) : Laws.ReservedFields.Statement (.atomicUpdateServe id) := ⟨rfl, fun _ => ⟨rfl, rfl⟩⟩
theorem Laws.ReservedFields.writeResendTimeout (id : Nat) : Laws.ReservedFields.Statement (.writeResendTimeout id) := ⟨rfl, fun _ => ⟨rfl, rfl⟩⟩
theorem Laws.ReservedFields.targetUnreachable (id : Nat) : Laws.ReservedFields.Statement (.targetUnreachable id) := ⟨rfl, fun _ => ⟨rfl, rfl⟩⟩
theorem Laws.ReservedFields.gazetteerEntryExpiry (d : Nat) (p : Nat) : Laws.ReservedFields.Statement (.gazetteerEntryExpiry d p) := ⟨rfl, fun _ => ⟨rfl, rfl⟩⟩
theorem Laws.ReservedFields.homeOwnerQuery (id : Nat) : Laws.ReservedFields.Statement (.homeOwnerQuery id) := ⟨rfl, fun _ => ⟨rfl, rfl⟩⟩
theorem Laws.ReservedFields.homeOwnerAnswer (id : Nat) : Laws.ReservedFields.Statement (.homeOwnerAnswer id) := ⟨rfl, fun _ => ⟨rfl, rfl⟩⟩
theorem Laws.ReservedFields.redirect (id : Nat) : Laws.ReservedFields.Statement (.redirect id) := ⟨rfl, fun _ => ⟨rfl, rfl⟩⟩
theorem Laws.ReservedFields.notHere (id : Nat) : Laws.ReservedFields.Statement (.notHere id) := ⟨rfl, fun _ => ⟨rfl, rfl⟩⟩
theorem Laws.ReservedFields.signpostRelay (id : Nat) : Laws.ReservedFields.Statement (.signpostRelay id) := ⟨rfl, fun _ => ⟨rfl, rfl⟩⟩
theorem Laws.ReservedFields.writeResolution (id : Nat) : Laws.ReservedFields.Statement (.writeResolution id) := ⟨rfl, fun _ => ⟨rfl, rfl⟩⟩
theorem Laws.ReservedFields.lineageFrontierReport (d : Nat) (p : Nat) (t : Nat) : Laws.ReservedFields.Statement (.lineageFrontierReport d p t) := ⟨rfl, fun _ => ⟨rfl, rfl⟩⟩
theorem Laws.ReservedFields.signpostRetirement (d : Nat) (p : Nat) : Laws.ReservedFields.Statement (.signpostRetirement d p) := ⟨rfl, fun _ => ⟨rfl, rfl⟩⟩
theorem Laws.ReservedFields.lineageDrop (d : Nat) (p : Nat) : Laws.ReservedFields.Statement (.lineageDrop d p) := ⟨rfl, fun _ => ⟨rfl, rfl⟩⟩
theorem Laws.ReservedFields.signpostRemove (d : Nat) (p : Nat) : Laws.ReservedFields.Statement (.signpostRemove d p) := ⟨rfl, fun _ => ⟨rfl, rfl⟩⟩
theorem Laws.ReservedFields.migrationRequest (k : Nat) : Laws.ReservedFields.Statement (.migrationRequest k) := ⟨rfl, fun _ => ⟨rfl, rfl⟩⟩
theorem Laws.ReservedFields.migrationCopyRound (k : Nat) : Laws.ReservedFields.Statement (.migrationCopyRound k) := ⟨rfl, fun _ => ⟨rfl, rfl⟩⟩
theorem Laws.ReservedFields.migrationFreeze (k : Nat) : Laws.ReservedFields.Statement (.migrationFreeze k) := ⟨rfl, fun _ => ⟨rfl, rfl⟩⟩
theorem Laws.ReservedFields.freezeTimeout (k : Nat) : Laws.ReservedFields.Statement (.freezeTimeout k) := ⟨rfl, fun _ => ⟨rfl, rfl⟩⟩
theorem Laws.ReservedFields.migrationCutover (k : Nat) : Laws.ReservedFields.Statement (.migrationCutover k) := ⟨rfl, fun _ => ⟨rfl, rfl⟩⟩
theorem Laws.ReservedFields.migrationComplete (k : Nat) : Laws.ReservedFields.Statement (.migrationComplete k) := ⟨rfl, fun _ => ⟨rfl, rfl⟩⟩
theorem Laws.ReservedFields.leaseRequest (d : Nat) (u : Nat) (p : Nat) : Laws.ReservedFields.Statement (.leaseRequest d u p) := ⟨rfl, fun _ => ⟨rfl, rfl⟩⟩
theorem Laws.ReservedFields.leaseRelease (d : Nat) (u : Nat) (p : Nat) : Laws.ReservedFields.Statement (.leaseRelease d u p) := ⟨rfl, fun _ => ⟨rfl, rfl⟩⟩
theorem Laws.ReservedFields.haUopWriteLeaf (m : Nat) (d : Nat) : Laws.ReservedFields.Statement (.haUopWriteLeaf m d) := ⟨rfl, fun _ => ⟨rfl, rfl⟩⟩
theorem Laws.ReservedFields.haUopCreate (m : Nat) (d : Nat) : Laws.ReservedFields.Statement (.haUopCreate m d) := ⟨rfl, fun _ => ⟨rfl, rfl⟩⟩
theorem Laws.ReservedFields.haUopRemove (m : Nat) (d : Nat) : Laws.ReservedFields.Statement (.haUopRemove m d) := ⟨rfl, fun _ => ⟨rfl, rfl⟩⟩
theorem Laws.ReservedFields.homeRecordCreate (d : Nat) : Laws.ReservedFields.Statement (.homeRecordCreate d) := ⟨rfl, fun _ => ⟨rfl, rfl⟩⟩
theorem Laws.ReservedFields.hostGraphSubmit (m : Nat) (d : Nat) (v : BitVec 64) : Laws.ReservedFields.Statement (.hostGraphSubmit m d v) := ⟨rfl, fun _ => ⟨rfl, rfl⟩⟩
theorem Laws.ReservedFields.hostGraphDisable (m : Nat) (d : Nat) (v : BitVec 64) : Laws.ReservedFields.Statement (.hostGraphDisable m d v) := ⟨rfl, fun _ => ⟨rfl, rfl⟩⟩
theorem Laws.ReservedFields.taskPlacement (d : Nat) (u : Nat) : Laws.ReservedFields.Statement (.taskPlacement d u) := ⟨rfl, fun _ => ⟨rfl, rfl⟩⟩
theorem Laws.ReservedFields.passedOverReservation (d : Nat) (u : Nat) : Laws.ReservedFields.Statement (.passedOverReservation d u) := ⟨rfl, fun _ => ⟨rfl, rfl⟩⟩
theorem Laws.ReservedFields.taskLaunch (d : Nat) (u : Nat) : Laws.ReservedFields.Statement (.taskLaunch d u) := ⟨rfl, fun _ => ⟨rfl, rfl⟩⟩
theorem Laws.ReservedFields.residencyRefused (d : Nat) (u : Nat) : Laws.ReservedFields.Statement (.residencyRefused d u) := ⟨rfl, fun _ => ⟨rfl, rfl⟩⟩
theorem Laws.ReservedFields.recordWriteBack (d : Nat) (u : Nat) : Laws.ReservedFields.Statement (.recordWriteBack d u) := ⟨rfl, fun _ => ⟨rfl, rfl⟩⟩
theorem Laws.ReservedFields.overflowQueueRefill (d : Nat) : Laws.ReservedFields.Statement (.overflowQueueRefill d) := ⟨rfl, fun _ => ⟨rfl, rfl⟩⟩
theorem Laws.ReservedFields.conditionalNodeRun (d : Nat) (u : Nat) : Laws.ReservedFields.Statement (.conditionalNodeRun d u) := ⟨rfl, fun _ => ⟨rfl, rfl⟩⟩
theorem Laws.ReservedFields.copyNodeRun (d : Nat) (u : Nat) : Laws.ReservedFields.Statement (.copyNodeRun d u) := ⟨rfl, fun _ => ⟨rfl, rfl⟩⟩
theorem Laws.ReservedFields.collectiveNodeRun (d : Nat) (u : Nat) : Laws.ReservedFields.Statement (.collectiveNodeRun d u) := ⟨rfl, fun _ => ⟨rfl, rfl⟩⟩
theorem Laws.ReservedFields.notifyNodeRun (d : Nat) (u : Nat) : Laws.ReservedFields.Statement (.notifyNodeRun d u) := ⟨rfl, fun _ => ⟨rfl, rfl⟩⟩
theorem Laws.ReservedFields.joinNodeEnd (d : Nat) (u : Nat) : Laws.ReservedFields.Statement (.joinNodeEnd d u) := ⟨rfl, fun _ => ⟨rfl, rfl⟩⟩
theorem Laws.ReservedFields.quantumExpiry (d : Nat) (u : Nat) : Laws.ReservedFields.Statement (.quantumExpiry d u) := ⟨rfl, fun _ => ⟨rfl, rfl⟩⟩
theorem Laws.ReservedFields.hostPreemptionRequest (d : Nat) (u : Nat) (drain : Bool) : Laws.ReservedFields.Statement (.hostPreemptionRequest d u drain) := ⟨rfl, fun _ => ⟨rfl, rfl⟩⟩
theorem Laws.ReservedFields.preemptionTakeEffect (g : Nat) : Laws.ReservedFields.Statement (.preemptionTakeEffect g) := ⟨rfl, fun _ => ⟨rfl, rfl⟩⟩
theorem Laws.ReservedFields.saveComplete (g : Nat) : Laws.ReservedFields.Statement (.saveComplete g) := ⟨rfl, fun _ => ⟨rfl, rfl⟩⟩
theorem Laws.ReservedFields.spawnAnswer (g : Nat) : Laws.ReservedFields.Statement (.spawnAnswer g) := ⟨rfl, fun _ => ⟨rfl, rfl⟩⟩
theorem Laws.ReservedFields.waitComplete (g : Nat) : Laws.ReservedFields.Statement (.waitComplete g) := ⟨rfl, fun _ => ⟨rfl, rfl⟩⟩
theorem Laws.ReservedFields.waitTimeout (g : Nat) : Laws.ReservedFields.Statement (.waitTimeout g) := ⟨rfl, fun _ => ⟨rfl, rfl⟩⟩
theorem Laws.ReservedFields.copyCommandStart (c : Nat) (ch : Nat) : Laws.ReservedFields.Statement (.copyCommandStart c ch) := ⟨rfl, fun _ => ⟨rfl, rfl⟩⟩
theorem Laws.ReservedFields.copyUnitCredit (c : Nat) (ch : Nat) (k : Nat) : Laws.ReservedFields.Statement (.copyUnitCredit c ch k) := ⟨rfl, fun _ => ⟨rfl, rfl⟩⟩
theorem Laws.ReservedFields.copyFault (c : Nat) (ch : Nat) (k : Nat) : Laws.ReservedFields.Statement (.copyFault c ch k) := ⟨rfl, fun _ => ⟨rfl, rfl⟩⟩
theorem Laws.ReservedFields.copyCommandLeave (c : Nat) (ch : Nat) (k : Nat) : Laws.ReservedFields.Statement (.copyCommandLeave c ch k) := ⟨rfl, fun _ => ⟨rfl, rfl⟩⟩
theorem Laws.ReservedFields.surveyCommandRun (c : Nat) : Laws.ReservedFields.Statement (.surveyCommandRun c) := ⟨rfl, fun _ => ⟨rfl, rfl⟩⟩
theorem Laws.ReservedFields.qmergeatOwnerApply (id : Nat) : Laws.ReservedFields.Statement (.qmergeatOwnerApply id) := ⟨rfl, fun _ => ⟨rfl, rfl⟩⟩
theorem Laws.ReservedFields.qmergeatAck (id : Nat) : Laws.ReservedFields.Statement (.qmergeatAck id) := ⟨rfl, fun _ => ⟨rfl, rfl⟩⟩
theorem Laws.ReservedFields.tapRowInsert (c : Nat) : Laws.ReservedFields.Statement (.tapRowInsert c) := ⟨rfl, fun _ => ⟨rfl, rfl⟩⟩
theorem Laws.ReservedFields.arrayInstructionStart (c : Nat) : Laws.ReservedFields.Statement (.arrayInstructionStart c) := ⟨rfl, fun _ => ⟨rfl, rfl⟩⟩
theorem Laws.ReservedFields.arrayPassInterrupt (c : Nat) : Laws.ReservedFields.Statement (.arrayPassInterrupt c) := ⟨rfl, fun _ => ⟨rfl, rfl⟩⟩
theorem Laws.ReservedFields.arrayInstructionComplete (c : Nat) : Laws.ReservedFields.Statement (.arrayInstructionComplete c) := ⟨rfl, fun _ => ⟨rfl, rfl⟩⟩
theorem Laws.ReservedFields.arrayRelease (c : Nat) : Laws.ReservedFields.Statement (.arrayRelease c) := ⟨rfl, fun _ => ⟨rfl, rfl⟩⟩
theorem Laws.ReservedFields.streamRowCredit (c : Nat) (k : Nat) : Laws.ReservedFields.Statement (.streamRowCredit c k) := ⟨rfl, fun _ => ⟨rfl, rfl⟩⟩
theorem Laws.ReservedFields.stateCommandApply (d : Nat) : Laws.ReservedFields.Statement (.stateCommandApply d) := ⟨rfl, fun _ => ⟨rfl, rfl⟩⟩
theorem Laws.ReservedFields.stWatchArm (m : Nat) (d : Nat) (v : BitVec 64) : Laws.ReservedFields.Statement (.stWatchArm m d v) := ⟨rfl, fun _ => ⟨rfl, rfl⟩⟩
theorem Laws.ReservedFields.stWatchDisarm (m : Nat) (d : Nat) (v : BitVec 64) : Laws.ReservedFields.Statement (.stWatchDisarm m d v) := ⟨rfl, fun _ => ⟨rfl, rfl⟩⟩
theorem Laws.ReservedFields.indexElementIssue (c : Nat) (k : Nat) : Laws.ReservedFields.Statement (.indexElementIssue c k) := ⟨rfl, fun _ => ⟨rfl, rfl⟩⟩
theorem Laws.ReservedFields.indexElementArrival (c : Nat) (k : Nat) (e : Nat) : Laws.ReservedFields.Statement (.indexElementArrival c k e) := ⟨rfl, fun _ => ⟨rfl, rfl⟩⟩
theorem Laws.ReservedFields.elementPark (c : Nat) (k : Nat) (e : Nat) : Laws.ReservedFields.Statement (.elementPark c k e) := ⟨rfl, fun _ => ⟨rfl, rfl⟩⟩
theorem Laws.ReservedFields.bitmapTestAndSet (c : Nat) (k : Nat) (e : Nat) : Laws.ReservedFields.Statement (.bitmapTestAndSet c k e) := ⟨rfl, fun _ => ⟨rfl, rfl⟩⟩
theorem Laws.ReservedFields.contributionSend (d : Nat) (k : Nat) : Laws.ReservedFields.Statement (.contributionSend d k) := ⟨rfl, fun _ => ⟨rfl, rfl⟩⟩
theorem Laws.ReservedFields.slotContributionArrival (id : Nat) : Laws.ReservedFields.Statement (.slotContributionArrival id) := ⟨rfl, fun _ => ⟨rfl, rfl⟩⟩
theorem Laws.ReservedFields.contributionRefusedResend (id : Nat) : Laws.ReservedFields.Statement (.contributionRefusedResend id) := ⟨rfl, fun _ => ⟨rfl, rfl⟩⟩
theorem Laws.ReservedFields.slotTimeout (i : Nat) : Laws.ReservedFields.Statement (.slotTimeout i) := ⟨rfl, fun _ => ⟨rfl, rfl⟩⟩
theorem Laws.ReservedFields.lateWindowEnd (i : Nat) : Laws.ReservedFields.Statement (.lateWindowEnd i) := ⟨rfl, fun _ => ⟨rfl, rfl⟩⟩
theorem Laws.ReservedFields.resultDelivery (id : Nat) : Laws.ReservedFields.Statement (.resultDelivery id) := ⟨rfl, fun _ => ⟨rfl, rfl⟩⟩
theorem Laws.ReservedFields.collectiveComplete (d : Nat) (k : Nat) : Laws.ReservedFields.Statement (.collectiveComplete d k) := ⟨rfl, fun _ => ⟨rfl, rfl⟩⟩
theorem Laws.ReservedFields.queueMessageArrival (id : Nat) : Laws.ReservedFields.Statement (.queueMessageArrival id) := ⟨rfl, fun _ => ⟨rfl, rfl⟩⟩
theorem Laws.ReservedFields.queueMessageResend (id : Nat) : Laws.ReservedFields.Statement (.queueMessageResend id) := ⟨rfl, fun _ => ⟨rfl, rfl⟩⟩
theorem Laws.ReservedFields.cgGroupCreate (m : Nat) (d : Nat) (v : BitVec 64) : Laws.ReservedFields.Statement (.cgGroupCreate m d v) := ⟨rfl, fun _ => ⟨rfl, rfl⟩⟩
theorem Laws.ReservedFields.cgGroupDelete (m : Nat) (d : Nat) (v : BitVec 64) : Laws.ReservedFields.Statement (.cgGroupDelete m d v) := ⟨rfl, fun _ => ⟨rfl, rfl⟩⟩
theorem Laws.ReservedFields.portLinkDown (d : Nat) (k : Nat) : Laws.ReservedFields.Statement (.portLinkDown d k) := ⟨rfl, fun _ => ⟨rfl, rfl⟩⟩
theorem Laws.ReservedFields.portLinkUp (d : Nat) (k : Nat) : Laws.ReservedFields.Statement (.portLinkUp d k) := ⟨rfl, fun _ => ⟨rfl, rfl⟩⟩
theorem Laws.ReservedFields.bar2Access (pk : Nat) (fn : Nat) (x : Nat) (wr : Bool) (n : Nat) (v : Nat) : Laws.ReservedFields.Statement (.bar2Access pk fn x wr n v) := ⟨rfl, fun _ => ⟨rfl, rfl⟩⟩
theorem Laws.ReservedFields.bar4Access (pk : Nat) (port : Nat) (x : Nat) (wr : Bool) (n : Nat) (v : Nat) : Laws.ReservedFields.Statement (.bar4Access pk port x wr n v) := ⟨rfl, fun _ => ⟨rfl, rfl⟩⟩
theorem Laws.ReservedFields.registerWrite (m : Nat) (d : Nat) (off : Nat) (v : BitVec 64) : Laws.ReservedFields.Statement (.registerWrite m d off v) := ⟨rfl, fun _ => ⟨rfl, rfl⟩⟩
theorem Laws.ReservedFields.registerRead (m : Nat) (d : Nat) (off : Nat) : Laws.ReservedFields.Statement (.registerRead m d off) := ⟨rfl, fun _ => ⟨rfl, rfl⟩⟩
theorem Laws.ReservedFields.hostRunRequest (m : Nat) (c : Nat) (v : BitVec 64) : Laws.ReservedFields.Statement (.hostRunRequest m c v) := ⟨rfl, fun _ => ⟨rfl, rfl⟩⟩
theorem Laws.ReservedFields.eventSetWrite (m : Nat) (c : Nat) (v : BitVec 64) : Laws.ReservedFields.Statement (.eventSetWrite m c v) := ⟨rfl, fun _ => ⟨rfl, rfl⟩⟩
theorem Laws.ReservedFields.eventClrWrite (m : Nat) (c : Nat) (v : BitVec 64) : Laws.ReservedFields.Statement (.eventClrWrite m c v) := ⟨rfl, fun _ => ⟨rfl, rfl⟩⟩
theorem Laws.ReservedFields.pageInRefuse (m : Nat) (d : Nat) (v : BitVec 64) : Laws.ReservedFields.Statement (.pageInRefuse m d v) := ⟨rfl, fun _ => ⟨rfl, rfl⟩⟩
theorem Laws.ReservedFields.hrCfg1Write (m : Nat) (d : Nat) (v : BitVec 64) : Laws.ReservedFields.Statement (.hrCfg1Write m d v) := ⟨rfl, fun _ => ⟨rfl, rfl⟩⟩
theorem Laws.ReservedFields.hrHeadWrite (m : Nat) (d : Nat) (v : BitVec 64) : Laws.ReservedFields.Statement (.hrHeadWrite m d v) := ⟨rfl, fun _ => ⟨rfl, rfl⟩⟩
theorem Laws.ReservedFields.ringEntryWrite (pk : Nat) (r : Nat) : Laws.ReservedFields.Statement (.ringEntryWrite pk r) := ⟨rfl, fun _ => ⟨rfl, rfl⟩⟩
theorem Laws.ReservedFields.ringCoalesceTimeout (pk : Nat) (r : Nat) : Laws.ReservedFields.Statement (.ringCoalesceTimeout pk r) := ⟨rfl, fun _ => ⟨rfl, rfl⟩⟩
theorem Laws.ReservedFields.spadHashApply (c : Nat) : Laws.ReservedFields.Statement (.spadHashApply c) := ⟨rfl, fun _ => ⟨rfl, rfl⟩⟩
theorem Laws.ReservedFields.eccCorrected (d : Nat) (src : Nat) (a : Nat) : Laws.ReservedFields.Statement (.eccCorrected d src a) := ⟨rfl, fun _ => ⟨rfl, rfl⟩⟩
theorem Laws.ReservedFields.uncorrectableError (d : Nat) (src : Nat) (a : Nat) : Laws.ReservedFields.Statement (.uncorrectableError d src a) := ⟨rfl, fun _ => ⟨rfl, rfl⟩⟩
theorem Laws.ReservedFields.idleEntry (d : Nat) : Laws.ReservedFields.Statement (.idleEntry d) := ⟨rfl, fun _ => ⟨rfl, rfl⟩⟩
theorem Laws.ReservedFields.idleWake (d : Nat) : Laws.ReservedFields.Statement (.idleWake d) := ⟨rfl, fun _ => ⟨rfl, rfl⟩⟩
theorem Laws.ReservedFields.droopStretch (c : Nat) : Laws.ReservedFields.Statement (.droopStretch c) := ⟨rfl, fun _ => ⟨rfl, rfl⟩⟩
theorem Laws.ReservedFields.droopRelease (c : Nat) : Laws.ReservedFields.Statement (.droopRelease c) := ⟨rfl, fun _ => ⟨rfl, rfl⟩⟩
theorem Laws.ReservedFields.coldReset (pk : Nat) : Laws.ReservedFields.Statement (.coldReset pk) := ⟨rfl, fun _ => ⟨rfl, rfl⟩⟩
theorem Laws.ReservedFields.stageMeasurement (d : Nat) (i : Nat) (digest : Nat) : Laws.ReservedFields.Statement (.stageMeasurement d i digest) := ⟨rfl, fun _ => ⟨rfl, rfl⟩⟩
theorem Laws.ReservedFields.attestationRequest (m : Nat) (d : Nat) (nonce : Nat) : Laws.ReservedFields.Statement (.attestationRequest m d nonce) := ⟨rfl, fun _ => ⟨rfl, rfl⟩⟩
theorem Laws.ReservedFields.mcPowerOn (pk : Nat) : Laws.ReservedFields.Statement (.mcPowerOn pk) := ⟨rfl, fun _ => ⟨rfl, rfl⟩⟩
theorem Laws.ReservedFields.mcPowerOff (pk : Nat) : Laws.ReservedFields.Statement (.mcPowerOff pk) := ⟨rfl, fun _ => ⟨rfl, rfl⟩⟩
theorem Laws.ReservedFields.mcColdReset (pk : Nat) : Laws.ReservedFields.Statement (.mcColdReset pk) := ⟨rfl, fun _ => ⟨rfl, rfl⟩⟩
theorem Laws.ReservedFields.mcReadErrors (pk : Nat) : Laws.ReservedFields.Statement (.mcReadErrors pk) := ⟨rfl, fun _ => ⟨rfl, rfl⟩⟩
theorem Laws.ReservedFields.mcReadSensors (pk : Nat) : Laws.ReservedFields.Statement (.mcReadSensors pk) := ⟨rfl, fun _ => ⟨rfl, rfl⟩⟩
theorem Laws.ReservedFields.mcAttestation (d : Nat) (nonce : Nat) : Laws.ReservedFields.Statement (.mcAttestation d nonce) := ⟨rfl, fun _ => ⟨rfl, rfl⟩⟩
theorem Laws.ReservedFields.mcFirmwareUpdate (pk : Nat) (img : List (BitVec 8)) : Laws.ReservedFields.Statement (.mcFirmwareUpdate pk img) := ⟨rfl, fun _ => ⟨rfl, rfl⟩⟩
theorem Laws.ReservedFields.mcSetPackageNumber (pk : Nat) (n : Nat) : Laws.ReservedFields.Statement (.mcSetPackageNumber pk n) := ⟨rfl, fun _ => ⟨rfl, rfl⟩⟩
theorem Laws.ReservedFields.referenceTick : Laws.ReservedFields.Statement .referenceTick := ⟨rfl, fun _ => ⟨rfl, rfl⟩⟩
theorem Laws.ReservedFields.indexCommandApply (c : Nat) (k : Nat) : Laws.ReservedFields.Statement (.indexCommandApply c k) := ⟨rfl, fun _ => ⟨rfl, rfl⟩⟩
theorem Laws.ReservedFields.testAndSetAnswer (c : Nat) (k : Nat) (e : Nat) : Laws.ReservedFields.Statement (.testAndSetAnswer c k e) := ⟨rfl, fun _ => ⟨rfl, rfl⟩⟩
theorem Laws.ReservedFields.transferUnitCredit (d : Nat) (k : Nat) : Laws.ReservedFields.Statement (.transferUnitCredit d k) := ⟨rfl, fun _ => ⟨rfl, rfl⟩⟩
theorem Laws.ReservedFields.collectiveCommandStart (d : Nat) : Laws.ReservedFields.Statement (.collectiveCommandStart d) := ⟨rfl, fun _ => ⟨rfl, rfl⟩⟩
theorem Laws.ReservedFields.leaseRenewalComplete (d : Nat) (u : Nat) : Laws.ReservedFields.Statement (.leaseRenewalComplete d u) := ⟨rfl, fun _ => ⟨rfl, rfl⟩⟩
theorem Laws.ReservedFields.gazetteerEntryReplacement (d : Nat) (p : Nat) : Laws.ReservedFields.Statement (.gazetteerEntryReplacement d p) := ⟨rfl, fun _ => ⟨rfl, rfl⟩⟩
theorem Laws.ReservedFields.flitReceiveError (d : Nat) (k : Nat) : Laws.ReservedFields.Statement (.flitReceiveError d k) := ⟨rfl, fun _ => ⟨rfl, rfl⟩⟩

end Sys2Proof
end

