-- ==== Sys2Proof/Tests/Slice0.lean ====
section
/-! SUPPORT. Own tests: a state and operands that meet the hypotheses of each statement (met_), one word of every instruction decoded (test_decode_),
one step of a few instructions with results worked out from the spec (test_), and an ill-formed instruction for each check (smoke_). -/
open Sys2Proof Sys2Proof.Machine Sys2Proof.Claims
namespace Sys2Proof.Tests

set_option Elab.async false

-- Witnesses: for every statement with hypotheses, a state and operands that meet them ---------------------------------------------

/-- The placed machine with registers set. -/
abbrev demo (regs : List (Nat × Nat)) : State :=
  (State.reset.withFetchWord 32 0).modCtx 0 (fun c => { c with regs := regs.map (fun p => (p.1, w64 p.2)) })

/-- The same machine while it runs slot k of its bundle, with the word w. -/
abbrev inBundle (s : State) (k : Nat) (w : BitVec 32) : State :=
  let t := s.frame s.cur none 0
  { t with bun := { t.bun with slot := k, word := w } }

theorem met_IntegerResult :
    let s := demo [(1, 7), (2, 0), (3, 5)]
    (Free s [3] ∧ Reads s 1 7 ∧ Reads s 2 0 ∧ Reads s 3 5 ∧ Live s 0 ∧ (7 : W64) ≠ 0) ∧ s.pre.guardValue 0 = some true ∧ s.pre.guardValue 8 = some false ∧
    (Free s [135] ∧ Free s [129] ∧ Free s [128]) ∧ (0, decide ((7 : W64) = 0)) ∈ [(0, decide ((7 : W64) = 0)), (9, true)] := by
  refine ⟨⟨rfl, rfl, rfl, rfl, rfl, by decide⟩, rfl, rfl, ⟨rfl, rfl, rfl⟩, by decide⟩

theorem met_FloatResult :
    let s := demo [(1, 0x3F800000), (2, 0x40000000)]
    Live s 0 ∧ Free s [3] ∧ Free s [129] ∧ Reads s 1 0x3F800000 ∧ Reads s 2 0x40000000 ∧ Reads s 3 0 := ⟨rfl, rfl, rfl, rfl, rfl, rfl⟩

theorem met_JumpResult :
    let s := demo [(1, 0x120), (2, 0x121)]
    Free s [129] ∧ Reads s 1 0x120 ∧ (0x120 : W64).toNat % 32 = 0 ∧ Reads s 2 0x121 ∧ (0x121 : W64).toNat % 32 ≠ 0 := ⟨rfl, rfl, rfl, rfl, by decide⟩

/-- A table of one entry, offset 2, at VA 0x200. -/
abbrev demoTable : State := (demo [(1, 0x200)]).writePA 0 0x10200 [1, 0, 0, 0, 2, 0, 0, 0]

/-- Bytes of the placed page are read at once. -/
theorem demo_sync {s : State} {ia n e : Nat} {bs : List Byte}
    (h : s.acquireOut s.cur = false ∧ s.portFull s.myCore = false ∧ (s.loadsOut s.cur || s.unnumbered s.cur) = false ∧
      s.readMany s.myDie .load (s.pendingSet s.cur) (pagePieces 3 ia n) = .ok bs 0 [] e ∧ keyReads s.pre.pkr 0 = true ∧
      (mergedDeps s.tick s.nextId s.me.deps []).length ≤ 8) : ∀ k : List Byte → State → State, s.syncLoad ia n k = k bs (s.afterSync []) :=
  State.syncLoad_ok h.1 h.2.1 h.2.2.1 h.2.2.2.1 h.2.2.2.2.1 h.2.2.2.2.2

/-- What the placed page's leaf gives for every read of it. -/
abbrev leaf : Nat := 0xF000000000010000

theorem met_TableJumpResult :
    let s := demoTable
    (Reads s (BitVec.ofNat 7 1) 0x200 ∧ Reads s 2 0 ∧ translate s.pre.wnd 0x200 4 = some (0x200, 0) ∧ footprintMiss (s.card s.cur) false 0x200 4 = none ∧ s.memFaulted 0x200 4 = false ∧
      translate s.pre.wnd 0x204 4 = some (0x204, 0) ∧ footprintMiss (s.card s.cur) false 0x204 4 = none ∧ s.memFaulted 0x204 4 = false ∧
      (s.target (signedN 32 (ofBytes [2, 0, 0, 0]))).toNat < 2 ^ 57 ∧ ofBytes [1, 0, 0, 0] ≤ (1 : W64).toNat) ∧
    (let s := demo [(1, 0x202)]; Reads s (BitVec.ofNat 7 1) 0x202 ∧ (0x202 : W64).toNat % 4 ≠ 0) ∧
    (∀ k : List Byte → State → State, s.syncLoad 0x200 4 k = k [1, 0, 0, 0] (s.afterSync [])) ∧
    (∀ k : List Byte → State → State, (s.afterSync []).syncLoad 0x204 4 k = k [2, 0, 0, 0] ((s.afterSync []).afterSync [])) :=
  ⟨by decide +kernel, by decide +kernel, demo_sync (e := leaf) (by decide +kernel), demo_sync (e := leaf) (by decide +kernel)⟩

theorem met_LoopResult :
    let s := demo [(1, 7)]
    Reads s (BitVec.ofNat 7 1) 7 ∧
    ((upFrom 0 1).map s.pre.level).any (fun l => l.act && (decide (l.last < 0x100 + 32 * (0 + 1)) || l.stg != 0)) = false := ⟨rfl, rfl⟩

/-- A context whose shadow stack has b blocks spilled and n entries, with its page at IA 0, or with none. -/
abbrev demoDeep (b n : Nat) (page : Bool) : State :=
  (demo [(1, 0x120), (59, 0x300)]).modCtx 0 (fun c => { c with shadowBase := w64 (b2n page), shadowTop := shadowTopOf b n })

/-- A block that has been moved. -/
abbrev isMoved : Moved → Bool
  | .ok _ => true
  | _ => false

theorem moved_ok {x : Moved} (h : isMoved x = true) : ∃ u, x = .ok u := by
  cases x with
  | ok u => exact ⟨u, rfl⟩
  | _ => cases h

theorem met_CallResult :
    (∀ s ∈ [demo [(1, 0x120), (59, 0x300)], demoDeep 0 2048 true, inBundle (demoDeep 0 2048 true) 0 0],
      Free s [59] ∧ Reads s 59 0x300 ∧ (0x300 : W64).toNat % 8 = 0 ∧ s.boundTask s.cur = some placedTask ∧
      s.me.shadowTop = s.pre.shadowTop ∧ translate s.pre.wnd (effAddr (0x300 : W64) (-8)) 8 = some (0x2F8, 0) ∧
      footprintMiss (s.card s.cur) true 0x2F8 8 = none ∧ PortReady s ∧ (s.target (1 : BitVec 13).toInt).toNat < 2 ^ 57 ∧
      Reads s 1 0x120 ∧ (0x120 : W64).toNat % 32 = 0 ∧ (0x120 : W64).toNat < 2 ^ 57) ∧
    shadowDep (demo [(1, 0x120), (59, 0x300)]).pre.shadowTop < 2048 ∧
    (let s := demoDeep 0 2048 true
     2048 ≤ shadowDep s.pre.shadowTop ∧ bit s.pre.shadowBase 0 = true ∧ shadowBlk s.pre.shadowTop ≠ 4 ∧ s.shadowIA 0 true = .inl 0 ∧
       s.spadBad s.myCore placedTask (placedTask.shadowOff 0) 16384 = false ∧ s.bun.on = false ∧ (inBundle s 0 0).bun.on = true ∧ isMoved (s.spill placedTask 0) = true) ∧
    (let s := demoDeep 0 2048 false; 2048 ≤ shadowDep s.pre.shadowTop ∧ bit s.pre.shadowBase 0 = false) ∧ shadowBlk (demoDeep 4 2048 true).pre.shadowTop = 4 := by
  refine ⟨by decide +kernel, by decide +kernel, by decide +kernel, by decide +kernel, by decide +kernel⟩

/-- A context that has called once: the return address on the shadow stack, and one at s59. -/
abbrev demoCalled (ra : List Byte) : State :=
  (((demo [(59, 0x300)]).modCtx 0 (fun c => { c with shadowTop := shadowTopOf 0 1 })).writePA 0 0x10300 ra).spadWrite 0 placedTask
    (placedTask.shadowOff 0) [0x40, 1]

theorem met_ReturnResult :
    (let s := demoCalled [0x40, 1]
     (Free s [59] ∧ Reads s 59 0x300 ∧ translate s.pre.wnd (0x300 : W64).toNat 8 = some (0x300, 0) ∧ footprintMiss (s.card s.cur) false 0x300 8 = none ∧ s.memFaulted 0x300 8 = false ∧
       s.boundTask s.cur = some placedTask ∧ 0 < shadowDep s.pre.shadowTop ∧ (s.afterSync []).pre.shadowTop = s.pre.shadowTop ∧
       (s.afterSync []).pre.reg 59 = 0x300 ∧ (s.afterSync []).myCore = s.myCore ∧
       (w64 (ofBytes [0x40, 1, 0, 0, 0, 0, 0, 0])).toNat = ofBytes ((s.afterSync []).spadRead s.myCore placedTask (placedTask.shadowOff (shadowDep s.pre.shadowTop - 1)) 8) ∧
       (w64 (ofBytes [0x40, 1, 0, 0, 0, 0, 0, 0])).toNat % 32 = 0) ∧
     (∀ k : List Byte → State → State, s.syncLoad 0x300 8 k = k [0x40, 1, 0, 0, 0, 0, 0, 0] (s.afterSync []))) ∧
    (let s := demoCalled [0x60, 1]
     (w64 (ofBytes [0x60, 1, 0, 0, 0, 0, 0, 0])).toNat ≠ ofBytes ((s.afterSync []).spadRead s.myCore placedTask (placedTask.shadowOff (shadowDep s.pre.shadowTop - 1)) 8) ∧
     (∀ k : List Byte → State → State, s.syncLoad 0x300 8 k = k [0x60, 1, 0, 0, 0, 0, 0, 0] (s.afterSync []))) ∧
    (∃ u, (demoDeep 1 0 true).refill placedTask 1 = .ok u) ∧
    (let s := demoDeep 1 0 true
     shadowDep s.pre.shadowTop = 0 ∧ shadowBlk s.pre.shadowTop ≠ 0 ∧ s.bun.on = false ∧ s.shadowIA (1 - 1) false = .inl 0 ∧ s.loadsOut s.cur = false ∧
       (inBundle s 0 0).bun.on = true) ∧
    (let s := demoDeep 0 0 true; shadowDep s.pre.shadowTop = 0 ∧ shadowBlk s.pre.shadowTop = 0) ∧
    (let s := (demoCalled [0x40, 1]).modCore 0 (fun k => { k with badSpad := upFrom 0 65536 })
     s.spadBad s.myCore placedTask (placedTask.shadowOff 0) 8 = true) :=
  ⟨⟨by decide +kernel, demo_sync (e := leaf) (by decide +kernel)⟩, ⟨by decide +kernel, demo_sync (e := leaf) (by decide +kernel)⟩,
    moved_ok (by decide +kernel), by decide +kernel, by decide +kernel, by decide +kernel⟩

/-- A context whose wait descriptor 0 has control word w and waits for event bit 5 of its core. -/
abbrev demoWait (w event : Nat) : State :=
  ((demo []).modCtx 0 (fun c => { c with wd := [(0, w64 w), (1, w64 (4 * 2 ^ 61 + 2 ^ 6 + 5))] })).modCore 0 (fun k => { k with event := w64 event })

theorem met_WaitResult :
    let ok := fun (s : State) => s.pre.waitOk 0 = true ∧ s.waitBadOffset s.cur 0 = none ∧ s.waitBadData s.cur 0 = none ∧ waitPt (s.pre.waitWord 0 0) ≠ 0 ∧ s.pre.pending (128 + 1) = false
    (let s := demoWait (2 ^ 34) 0x20
     ok s ∧ s.pre.waitDone 0 (s.sampleWait s.cur 0 0) = true) ∧
    (let s := demoWait (2 ^ 34 + 2 ^ 32 - 1) 0
     ok s ∧ s.pre.waitDone 0 (s.sampleWait s.cur 0 0) = false ∧ s.pre.waitExpired 0 s.tick (s.sampleWait s.cur 0 0) = false) ∧
    (let s := demoWait (2 ^ 34 + 2 ^ 38) 0
     ok s ∧ s.pre.waitDone 0 (s.sampleWait s.cur 0 0) = false ∧ s.pre.waitExpired 0 s.tick (s.sampleWait s.cur 0 0) = true ∧ waitTrp (s.pre.waitWord 0 0) = true) ∧
    (∀ susp : Bool,
      let s := demoWait (2 ^ 34 + b2n susp * 2 ^ 39) 0
      ok s ∧ s.pre.waitDone 0 (s.sampleWait s.cur 0 0) = false ∧ s.pre.waitExpired 0 s.tick (s.sampleWait s.cur 0 0) = true ∧ waitTrp (s.pre.waitWord 0 0) = false ∧
        waitSusp (s.pre.waitWord 0 0) = susp ∧ ((s.dropRoc s.myCore).modMe (fun c => { c with wait := none })).pre.carryPending = false) := by
  decide +kernel

/-- The placed task in task mode. -/
abbrev userTask : Task := { placedTask with words := [w64 placedPC, w64 (4 * 2 ^ 26 + 2 ^ 23), 0, 0, 0, 0, 0, 0], sysOk := false }
abbrev userMode (s : State) : State := s.modTask 0 0 (fun _ => userTask)

theorem met_SystemInstructions :
    (let s := demo []; s.sysMode s.cur = true ∧ s.bun.on = false) ∧ (let s := inBundle (demo []) 0 0; s.sysMode s.cur = true ∧ s.bun.on = true) ∧
    (let s := userMode (demo []); s.sysMode s.cur = false ∧ sysRegOk 0 = true ∧ (sysReadOnly 0 || sysSystemOnly 0) = true) := by decide +kernel

theorem met_SystemRegisterResult :
    (let s := demo [(1, 7)]
     sysRegOk 7 = true ∧ s.pre.predPending = false ∧ Free s [2] ∧ Reads s 1 7 ∧ s.sysMode s.cur = true) := by decide +kernel

/-- An answer that is there. -/
abbrev isOk {α : Type} : Io α → Bool
  | .ok _ => true
  | _ => false

theorem io_ok {α : Type} {x : Io α} (h : isOk x = true) : ∃ a, x = .ok a := by
  cases x <;> simp [isOk] at h ⊢

theorem met_RecordInstructions :
    ((let s := demo [(1, 0x240)]
      s.boundTask s.cur = some placedTask ∧ s.me.task = some 0 ∧ Free s [2] ∧ Reads s 1 0x240 ∧ (2 : BitVec 3) ≠ 0 ∧ (0x240 : W64).toNat % 64 = 0 ∧
        s.bun.on = false ∧ s.pre.carryPending = false ∧
        translate s.pre.wnd (0x240 : W64).toNat 64 = some (0x240, 0) ∧ footprintMiss (s.card s.cur) false 0x240 64 = none ∧ s.memFaulted 0x240 64 = false ∧
        Free s [128 + 1, 128 + 2] ∧ PortReady s ∧ s.sysMode s.cur = true) ∧
     (let s := inBundle (demo [(1, 0x240)]) 0 0
      s.boundTask s.cur = some placedTask ∧ s.me.task = some 0 ∧ Free s [2] ∧ Reads s 1 0x240 ∧ s.bun.on = true ∧ s.pre.carryPending = false)) ∧
    (let s := demo [(1, 0x240)]
     (∀ k : List Byte → State → State, s.syncLoad 0x240 64 k = k (List.replicate 64 0) (s.afterSync [])) ∧
     (∃ s2, (s.afterSync []).submitGraph s.myDie (wordsOf 8 (List.replicate 64 0)) = .ok s2)) :=
  ⟨by decide +kernel, demo_sync (e := leaf) (by decide +kernel), io_ok (by decide +kernel)⟩

theorem met_LoadIssue :
    let s := demo [(1, 0x240)]
    Live s 0 ∧ Free s (loadRegs 2 1) ∧ Free s (loadRegs 2 32) ∧ Reads s 1 0x240 ∧ Passes s false (effAddr (0x240 : W64) 0) 32 0x240 0 ∧
      Passes s false (effAddr (0x240 : W64) 0) 1 0x240 0 ∧ Passes s false (effAddr (0x240 : W64) 0) 4 0x240 0 ∧ effAddr (0x240 : W64) 0 % 4 = 0 := by
  decide +kernel

theorem met_AccessTraps :
    (let s := (demo [(1, 0x242)]).modCtx 0 (fun c => { c with wnd := [] }); translate s.pre.wnd 0x242 8 = none) ∧
    (let s := demo [(1, 0x242)]
     translate s.pre.wnd 0x242 8 = some (0x242, 0) ∧ 0x242 % 8 ≠ 0 ∧
       translate s.pre.wnd 0x10000 8 = some (0x10000, 0) ∧ 0x10000 % 8 = 0 ∧ footprintMiss (s.card s.cur) true 0x10000 8 = some 0x10000 ∧
       Live s 0 ∧ Free s [2] ∧ Reads s 1 0x242 ∧ Reads s 2 0 ∧ translate s.pre.wnd (effAddr (0x242 : W64) 0) 4 = some (0x242, 0) ∧
       effAddr (0x242 : W64) 0 % 4 ≠ 0) ∧
    (let s := demo [(1, 0x248), (2, 7)]
     Live s 0 ∧ Reads s 1 0x248 ∧ effAddr (0x248 : W64) 0 % 16 ≠ 0 ∧ effAddr (0x248 : W64) 0 % 32 ≠ 0 ∧
       translate s.pre.wnd (effAddr (0x248 : W64) 0) 16 = some (0x248, 0) ∧ translate s.pre.wnd (effAddr (0x248 : W64) 0) 32 = some (0x248, 0)) ∧
    (∀ k : List W64 → State, (demo [(1, 0x248), (2, 7)]).withGroup 2 (16 / 8) k = k [7, 0]) :=
  ⟨by decide +kernel, by decide +kernel, by decide +kernel, State.withGroup_ok (by decide +kernel)⟩

theorem met_StoreIssue :
    (let s := demo [(1, 0x240), (2, 7)]
     Live s 0 ∧ Reads s 1 0x240 ∧ Reads s 2 7 ∧ Passes s true (effAddr (0x240 : W64) 0) 8 0x240 0 ∧ effAddr (0x240 : W64) 0 % 8 = 0 ∧
       (s.loadsOut s.cur || s.writesOut s.cur || s.ncOut s.cur) = false ∧ Passes s true (effAddr (0x240 : W64) 0) 32 0x240 0 ∧
       effAddr (0x240 : W64) 0 % 32 = 0) ∧
    (∀ k : List W64 → State, (demo [(1, 0x240), (2, 7)]).withGroup 2 (32 / 8) k = k [7, 0, 0, 0]) :=
  ⟨by decide +kernel, State.withGroup_ok (by decide +kernel)⟩

theorem met_ReadOnlyLoadIssue :
    let sectors := fun (s : State) => (sectorsOf 0x240 4).filterMap (fun k => (find? k (s.core s.myCore).roc).map (fun h => (k, h)))
    (let s := demo [(1, 0x240)]
     Live s 0 ∧ Free s (loadRegs 2 4) ∧ Reads s 1 0x240 ∧ Passes s false (effAddr (0x240 : W64) 0) 4 0x240 0 ∧
       (sectors s).length ≠ (sectorsOf 0x240 4).length ∧ translate s.pre.wnd (effAddr (0x240 : W64) 0) 1 = some (0x240, 0) ∧
       footprintMiss (s.card s.cur) false 0x240 1 = none ∧ PortReady s) ∧
    (let s := (demo [(1, 0x240)]).modCore 0 (fun k => { k with roc := [(0x240 / 32, (List.replicate 32 1, 0))] })
     (sectors s).length = (sectorsOf 0x240 4).length ∧ (sectors s).all (fun h => keyReads s.pre.pkr h.2.2) = true ∧
       (sectors s).findSome? (fun h => find? h.1 (s.core s.myCore).badRoc) = none) ∧
    (let s := (demo [(1, 0x240)]).modCore 0 (fun k => { k with roc := [(0x240 / 32, (List.replicate 32 1, 0))], badRoc := [(0x240 / 32, 5)] })
     (sectors s).findSome? (fun h => find? h.1 (s.core s.myCore).badRoc) = some 5) := by decide +kernel

/-- The placed machine with a bound tile and element type t. -/
abbrev demoVec (t : Nat) (regs : List (Nat × Nat)) : State := (demo regs).modCtx 0 (fun c => { c with vbind := w64 (2 ^ 63 + t) })

theorem met_ScratchpadResult :
    (let s := demoVec 4 [(1, 0x1000)]
     Live s 0 ∧ Reads s 1 0x1000 ∧ s.boundTask s.cur = some placedTask ∧ (0x1000 : W64).toNat < 2 ^ 22 ∧ PortReady s ∧
       effAddr (0x1000 : W64) 0 = 0x1000 ∧ 0x1000 + 512 + 16384 ≤ placedTask.spadBytes ∧ Free s (loadRegs 2 32) ∧ s.spadBad s.myCore placedTask 0x1000 32 = false ∧
       s.arrayReads s.cur 0x1000 32 = false ∧ s.pre.bound = true ∧ s.spadBad s.myCore placedTask 0x1000 512 = false ∧ s.arrayReads s.cur 0x1000 512 = false) ∧
    (∀ k : List Byte → State, (demoVec 4 [(1, 0x1000)]).withStoreData 2 32 k = k (List.replicate 32 0)) ∧
    (let s := demoVec 4 [(1, 0x1000)]; RowFree s 3 ∧ RowReads s 3 true 0 ∧ s.spadFaulted 0x1000 32 = false ∧ s.spadFaulted 0x1000 512 = false) :=
  ⟨by decide +kernel, State.withStoreData_ok (vs := [0, 0, 0, 0]) (by decide) (by decide +kernel), by decide +kernel⟩

theorem met_AtomicIssue :
    let s := demo [(1, 0x240), (2, 7), (3, 8)]
    Live s 0 ∧ Free s [2] ∧ Reads s 2 7 ∧ Reads s (2 + 1) 8 ∧ Reads s 1 0x240 ∧ PortReady s ∧
      (s.loadsOut s.cur || s.writesOut s.cur || s.ncOut s.cur) = false ∧ effAddr (0x240 : W64) 0 = 0x240 ∧
      (∀ n ∈ [4, 8, 64], translate s.pre.wnd 0x240 n = some (0x240, 0) ∧ 0x240 % n = 0 ∧ footprintMiss (s.card s.cur) true 0x240 n = none ∧ rwMiss (s.card s.cur) 0x240 n = none ∧
        s.memFaulted 0x240 n = false) ∧
      Passes s false (effAddr (0x240 : W64) 0) 64 0x240 0 ∧ Free s (groupRegs 2 8) := by decide +kernel

theorem met_FenceResult :
    let s := demo []
    Live s 0 ∧ s.ncOut s.cur = false ∧ (s.loadsOut s.cur || s.unnumbered s.cur) = false ∧ s.writesOut s.cur = false ∧ s.me.deps = [] ∧ Free s [2] ∧
      s.me.probeOp = none := by decide +kernel

/-- The units of a row of 32-bit lanes at IA 0x400. -/
abbrev demoUnits : List (Nat × Nat × Option Nat) :=
  (rowUnits (pageFmt (leafFmt leaf) 4) (leafGeo leaf) (lanesOf 4) 0x400 false 0 false).getD []

theorem met_RowAccessIssue :
    (let s := demoVec 4 [(1, 0x400)]
     Live s 0 ∧ s.pre.bound = true ∧ Reads s 1 0x400 ∧ PortReady s ∧ demoUnits ≠ [] ∧ RowFree s 3 ∧ RowReads s 3 true 0) ∧
    (∀ wr : Bool, ∀ k : Nat → Nat → List (Nat × Nat × Option Nat) → State,
      (demoVec 4 [(1, 0x400)]).rowCheck wr (effAddr (0x400 : W64) 0) k = k (pageFmt (leafFmt leaf) 4) (leafGeo leaf) demoUnits) :=
  ⟨by decide +kernel, fun wr => State.rowCheck_ok (w := 0) (big := false) (by decide +kernel) (by decide +kernel) (by decide +kernel) (by decide +kernel)
      (by cases wr <;> decide +kernel) (.inr (by decide +kernel))⟩

/-- R124, R219: one region covers the whole access; an access that reads and writes needs mode rw (log 76). -/
theorem test_one_region_covers :
    footprintMiss [⟨3, 0, 32⟩, ⟨3, 32, 32⟩] false 28 8 = some 28 ∧ footprintMiss [⟨1, 0, 64⟩] false 28 8 = none ∧
    footprintMiss [⟨1, 0, 64⟩] true 28 8 = some 28 ∧ rwMiss [⟨2, 0, 64⟩] 0 8 = some 0 ∧ rwMiss [⟨3, 0, 64⟩] 0 8 = none := by decide

/-- The element types of the witnesses: f32, u8 and s8 lanes. -/
theorem met_VectorTwoRowResult :
    (∀ t ∈ [0x22, 0x28], let s := demoVec t []; Gated s 0 ∧ anyFmt s.pre.laneFmt = true ∧ RowFree s 3) ∧
    (let s := demoVec 0x28 []; (!s.pre.laneFmt.isFloat) = true) ∧
    (∀ r : Bool, RowReads (demoVec 0x22 []) 1 r 0 ∧ RowReads (demoVec 0x28 []) 2 r 0) :=
  ⟨by decide +kernel, by decide +kernel, by decide +kernel⟩

theorem met_VectorScalarResult :
    (let s := demoVec 0x22 [(1, 7)]; Gated s 0 ∧ anyFmt s.pre.laneFmt = true ∧ RowFree s 3 ∧ Reads s 1 7) ∧
    (let s := demoVec 0x28 [(1, 7)]; (!s.pre.laneFmt.isFloat) = true) ∧ (∀ r : Bool, RowReads (demoVec 0x22 [(1, 7)]) 1 r 0) :=
  ⟨by decide +kernel, by decide +kernel, by decide +kernel⟩

theorem met_VectorOneRowResult :
    (let s := demoVec 0x22 []; Gated s 0 ∧ s.pre.laneFmt.isWide = true ∧ RowFree s 3) ∧ (∀ r : Bool, RowReads (demoVec 0x22 []) 1 r 0) :=
  ⟨by decide +kernel, by decide +kernel⟩

theorem met_VectorFmaResult :
    (let s := demoVec 0x22 [(1, 7)]; Gated s 0 ∧ s.pre.laneFmt.isWide = true ∧ RowFree s 3 ∧ Reads s 1 7 ∧ s.pre.laneFmt = .flt f32Fmt) ∧
    (let s := demoVec 0x28 [(1, 7)]; Gated s 0 ∧ RowFree s 3 ∧ Reads s 1 7 ∧ ∃ w sg, s.pre.laneFmt = .int w sg) ∧
    (∀ r : Bool, RowReads (demoVec 0x22 [(1, 7)]) 1 r 0 ∧ RowReads (demoVec 0x28 [(1, 7)]) 1 r 0) :=
  ⟨by decide +kernel, ⟨by decide +kernel, by decide +kernel, by decide +kernel, _, _, rfl⟩,
    by decide +kernel⟩

theorem met_VectorMoveResult :
    (let s := demoVec 0x22 [(1, 7)]; Gated s 0 ∧ Reads s 1 7 ∧ RowFree s 3 ∧ laneCodeOk 0x20 = true) ∧ (∀ r : Bool, RowReads (demoVec 0x22 [(1, 7)]) 1 r 0) :=
  ⟨by decide +kernel, by decide +kernel⟩

theorem met_VectorPermuteResult :
    (let s := demoVec 0x22 [(1, 7)]; Gated s 0 ∧ Reads s 1 7 ∧ RowFree s 3) ∧ (∀ r : Bool, RowReads (demoVec 0x22 [(1, 7)]) 1 r 0) :=
  ⟨by decide +kernel, by decide +kernel⟩

theorem met_VectorReduceResult :
    (let s := demoVec 0x22 []; Gated s 0 ∧ Free s (groupRegs 4 4)) ∧ (∀ r : Bool, RowReads (demoVec 0x22 []) 1 r 0) :=
  ⟨by decide +kernel, by decide +kernel⟩

theorem met_MaskResult :
    (∀ n ∈ [1, 15, 16], let s := (demoVec 0x22 []).modCtx 0 (fun c => { c with mstack := List.replicate n 5 })
      Gated s 0 ∧ RowFree s 3 ∧ (s.pre.mstack.length < 16 ↔ n ≠ 16) ∧ s.pre.mstack = 5 :: List.replicate (n - 1) 5) ∧
    RowReads ((demoVec 0x22 []).modCtx 0 (fun c => { c with mstack := [5] })) 1 true 0 :=
  ⟨by decide +kernel, by decide +kernel⟩

/-- The array of the placed core, configured for the placed task: element type a, f32 cells, a flow. -/
abbrev demoArray (a flow : Nat) : State :=
  (demo []).modCore 0 (fun k => { k with
    array := { k.array with holder := some 0, conf := true, cfg0 := w64 (0x22 * 2 ^ 24 + a * 2 ^ 16 + a * 2 ^ 8 + flow * 16) }
    streams := [(1, ⟨((demo []).newTag placedTask 0 0).1, 0, false, 0, 0, 0, 0, 0, []⟩)] })

/-- The checks of an array instruction pass. -/
abbrev passes : ArrayCheck → Bool
  | .ok _ _ _ _ => true
  | .fault _ _ => false

theorem passes_ok {c : ArrayCheck} (h : passes c = true) : ∃ reads rows draw img, c = .ok reads rows draw img := by
  cases c <;> simp [passes] at h ⊢

theorem check_fault {c : ArrayCheck} (h : passes c = false) : ∃ q i, c = .fault q i := by
  cases c <;> simp [passes] at h ⊢

theorem met_ArrayIssue :
    let s := demoArray 0x20 0
    let t := placedTask
    let v := (s.core s.myCore).array.view
    (Live s 0 ∧ s.boundTask s.cur = some t ∧ s.arrayTaken = false ∧ s.arrayFull = false ∧ Reads s 1 0) ∧
    (passes (s.mcfgCheck (s.core 0).array.cfg0 0) ∧ passes (s.cplCheck t v 0 0x1000) ∧ passes (s.mldCheck t v 0x1000) ∧ passes (s.mmkCheck t v 0x1000 0x2000) ∧
      passes (s.mmcCheck t v 0x200000 0x2000) ∧ passes (s.mdrCheck t v 0 0 0) ∧ passes (s.mstrCheck t v 0 (2 ^ 32) 0) ∧ passes (s.mzeroCheck v) ∧
      passes (s.mtabCheck t 0x1000 0x3F80000000000000) ∧ passes (s.mhistCheck t 1 0 128 0x1000 0)) ∧
    (let s := demoArray 0x01 0; passes (s.mspCheck t (s.core 0).array.view 0 0x1000 0x400000002000)) ∧
    (let s := demoArray 0x20 3; passes (s.mdpCheck t (s.core 0).array.view 0x1000)) := by decide +kernel

theorem met_ArrayControlResult :
    (let s := demo [(1, 7), (2, 0x1000), (3, 0x10)]
     Live s 0 ∧ s.boundTask s.cur = some placedTask ∧ Reads s 1 7 ∧ s.arrayTaken = false ∧ configOk 7 7 = false ∧ (s.core s.myCore).array.view.cfg = none ∧
       Reads s 2 0x1000 ∧ onlyFields 0x1000 [(21, 0)] = true ∧ Reads s 3 0x10 ∧ bits 0x10 63 5 = 0 ∧ bits 0x10 2 0 ≤ 4 ∧ bit 0x10 4 = true ∧
       Reads s 0 0 ∧ bits 0 63 5 = 0 ∧ bits 0 2 0 ≤ 4 ∧ bit 0 4 = false ∧ laneCodeOk 0x22 = true ∧ 0 < placedTask.tiles.length ∧ Free s [4] ∧
       (s.core s.myCore).array.queue.any (fun q => some q.2.tag.u == s.me.task && s.before q.1) = false) ∧
    (let s := (demo []).modCore 0 (fun k => { k with array := { k.array with holder := some 1 } }); s.arrayTaken = true) ∧
    (let s := demoArray 0x20 0
     let s := s.modArray 0 (fun a => { a with queue := (upFrom 0 4).map (fun k => (k, ⟨(s.newTag placedTask 0 0).1, 10, 0, 0, 0, 0, [], [], [], [], false, 0⟩)) })
     s.arrayTaken = false ∧ s.arrayFull = true ∧ configOk (s.core 0).array.cfg0 0 = true) ∧
    (let x : W64 := w64 (2 ^ 62)
     (∀ f ∈ [[(21, 0)], [(31, 24), (21, 0)], [(43, 32), (31, 24), (21, 0)], [(38, 32), (21, 16), (15, 8), (1, 0)]], onlyFields x f = false ∧ onlyFields 0 f = true) ∧
       ∀ stream : Bool, drainFields stream 2 x 0 = false ∧ drainFields stream 0 0 0 = true) ∧
    (let s := demo []
     ∃ q i, s.mcfgCheck 7 7 = .fault q i) := ⟨by decide +kernel, by decide +kernel, by decide +kernel, by decide +kernel, check_fault (by decide +kernel)⟩

/-- A machine whose scratchpad holds the words at 0x2000. -/
abbrev demoSpad (regs : List (Nat × Nat)) (ws : List Nat) : State := (demo regs).spadWrite 0 placedTask 0x2000 ((ws.map (bytesOf 8)).flatten)

/-- Descriptors of the four copies: from global 0x400, or from scratchpad 0x1000, to scratchpad 0x1800. -/
abbrev demoCopy : Nat → List Nat
  | 1 => [0x400, 2 ^ 63 + 0x1800, 2 ^ 60, 64, 0, 0, 0, 0]
  | 2 => [2 ^ 63 + 0x1000, 2 ^ 63 + 0x1800, 2 * 2 ^ 60, 0, 0, 0, 0, 0, 1, 0]
  | 3 => [2 ^ 63 + 0x1000, 2 ^ 63 + 0x1800, 3 * 2 ^ 60, 32 * 2 ^ 24 + 32, 32, 32, 0, 0]
  | _ => [2 ^ 63 + 0x1000, 2 ^ 63 + 0x1800, 4 * 2 ^ 60 + 0x22 * 2 ^ 54 + 2 ^ 49 + 0x22 * 2 ^ 43 + 2 ^ 38, 32, 0, 0, 0, 0]

/-- A side of a copy that is not mx.apart, as a concrete state decides it. -/
abbrev sideFound (s : State) (t : Task) (wr scratch : Bool) (a back len : Nat) (x : Side) : Prop :=
  back ≤ a ∧ ((scratch = true ∧ Spad t (a - back) len 1 false ∧ x = ⟨a, 0, a - back, len⟩) ∨
    (scratch = false ∧ translate s.pre.wnd (a - back) len = some (x.lo, 0) ∧ footprintMiss t.card wr x.lo len = none ∧
      x = ⟨x.lo + back, windowSD s.pre.wnd 0, x.lo, len⟩))

theorem sideAt_of {s : State} {t : Task} {wr scratch : Bool} {a back len : Nat} {x : Side} (h : sideFound s t wr scratch a back len x) :
    SideAt s t wr scratch false a back len x := by
  obtain ⟨hb, ⟨rfl, h⟩ | ⟨rfl, h⟩⟩ := h
  · exact ⟨hb, h⟩
  · exact ⟨hb, x.lo, 0, h⟩

theorem met_CopyIssue : ∀ kind ∈ [1, 2, 3, 4],
    let s := demoSpad [(1, 0x2000)] (demoCopy kind)
    let t := placedTask
    let n := if kind = 2 then 256 else 64
    let ws := wordsOf (n / 8) (s.spadRead s.myCore t (0x2000 : W64).toNat n)
    let w2 := wordN ws 2
    let src := s.copyFmt kind (descSx ws) (bits w2 59 54) (bits w2 53 50) (descSrc ws)
    let dst := s.copyFmt kind (descDx ws) (bits w2 48 43) (bits w2 42 39) (descDst ws)
    let drawn := s.draw (if kind == 4 then descRnd ws else 0) (descLen ws)
    let ext := copyExtents kind ws (descSrc ws) (descDst ws) src.1 src.2 dst.1 dst.2
    (Ready s 0 t ∧ Reads s 1 0x2000 ∧ Reads s 2 0 ∧ Params s t (0x2000 : W64).toNat n 64 ∧ copyWordsOk kind false ws = true ∧
      (kind = 4 → (isMX src.2 || isMX dst.2) = true → descLen ws % 32 = 0) ∧
      (kind = 4 → sideStartOk src.2 (descSrc ws) = true ∧ sideStartOk dst.2 (descDst ws) = true) ∧
      (kind == 4 && src.2 == 2) = false ∧ (kind == 4 && dst.2 == 2) = false ∧
      (s.channel s.myCore 0).cmds.length < 16 ∧ CanArm drawn.2 t 0 (copyTotal kind ws dst.1 dst.2)) ∧
    SideAt s t false (descSk ws) false (descSrc ws) ext.1.1 ext.1.2 ⟨if kind = 1 then 0x400 else 0x1000, 0, if kind = 1 then 0x400 else 0x1000, ext.1.2⟩ ∧
    SideAt s t true (descDk ws) false (descDst ws) ext.2.1 ext.2.2 ⟨0x1800, 0, 0x1800, ext.2.2⟩ :=
  fun kind hk => ⟨by revert kind; decide +kernel, sideAt_of (by revert kind; decide +kernel), sideAt_of (by revert kind; decide +kernel)⟩

theorem met_BarrierResult :
    let s := demo [(1, 7), (2, 1), (3, 2 ^ 48 - 1)]
    Ready s 0 placedTask ∧ Reads s 1 7 ∧ Reads s 4 0 ∧ Reads s 2 1 ∧ (0 : BitVec 8) ≠ 255 ∧ Reads s 3 (BitVec.ofNat 64 (2 ^ 48 - 1)) ∧
      (s.barrier s.myCore placedTask 0).exp + 7 < 2 ^ 48 ∧ (1 : W64).toNat < 2 ∧ (3 : W64).toNat < 4 ∧ s.spadBad s.myCore placedTask (16 * 0) 16 = false ∧
      (s.modCore 0 (fun k => { k with badSpad := upFrom 0 65536 })).spadBad s.myCore placedTask (16 * 0) 16 = true := by decide +kernel

theorem met_BarrierUpdate :
    (∀ b ∈ [(⟨false, 5, false, 0⟩ : Barrier), ⟨false, 5, false, 7⟩], b.arr + 1 < 2 ^ 48 ∧ (b.exp = 0 ∨ b.arr + 1 < b.exp)) ∧
    (let b : Barrier := ⟨false, 5, false, 6⟩; b.exp ≠ 0 ∧ b.arr + 1 = b.exp ∧ b.exp < b.arr + 2 ∧ b.arr + 2 < 2 ^ 48) ∧
    (∀ e ∈ [0, 7], let b : Barrier := ⟨false, 2 ^ 48 - 1, false, e⟩; 2 ^ 48 ≤ b.arr + 1 ∧ (b.exp = 0 ∨ b.exp ≠ 0 ∧ b.exp < 2 ^ 48)) ∧
    (let b : Barrier := ⟨false, 5, false, 2⟩; b.arr < b.exp + 4 ∧ b.exp + 3 ≠ 0 ∧ b.arr = b.exp + 3 ∧ b.exp + 2 ≠ 0 ∧ b.exp + 2 < b.arr) ∧
    (⟨false, 5, false, 0⟩ : Barrier).exp + 0 = 0 ∧
    (let s := (demo [(1, 2 ^ 48 - 1)]).updateBarrier 0 placedTask 0 (fun _ => ⟨false, 0, false, 1⟩)
     Ready s 0 placedTask ∧ Reads s 1 (BitVec.ofNat 64 (2 ^ 48 - 1)) ∧ Reads s 2 0 ∧ (BitVec.ofNat 64 (2 ^ 48 - 1)).toNat < 2 ^ 48 ∧
       s.spadBad s.myCore placedTask (16 * 0) 16 = false ∧ 2 ^ 48 ≤ (s.barrier s.myCore placedTask 0).exp + (BitVec.ofNat 64 (2 ^ 48 - 1)).toNat) := by decide +kernel

/-- The checks of R328, as a value. -/
def surveyPass (s : State) (t : Task) (x : SurveySpec) (ia : Nat) : Bool :=
  x.2.1.all (fun r => r.off % r.align == 0 && t.usable r.off r.len) && !x.2.2.2 &&
  (match x.2.2.1 with
   | none => ia == 0
   | some (va, n, rw_) => va % n == 0 && (match translate s.pre.wnd va n with | some (i, _) => i == ia | none => false) &&
       (if rw_ then rwMiss t.card ia n else footprintMiss t.card false ia n).isNone)

theorem survey_ok {s : State} {t : Task} {x : SurveySpec} {ia : Nat} (h : surveyPass s t x ia = true) : SurveyOk s t x ia := by
  obtain ⟨total, areas, glob, bad⟩ := x
  simp only [surveyPass, Bool.and_eq_true, List.all_eq_true, Bool.not_eq_true', beq_iff_eq] at h
  refine ⟨h.1.1, h.1.2, ?_⟩
  cases glob with
  | none => simpa using h.2
  | some g =>
    obtain ⟨va, n, rw_⟩ := g
    have h2 := h.2
    simp only [Bool.and_eq_true, beq_iff_eq, Option.isNone_iff_eq_none] at h2
    refine ⟨h2.1.1, ?_, h2.2⟩
    have h3 := h2.1.2
    split at h3
    · rename_i i w e
      exact ⟨w, by rw [e]; simpa using h3⟩
    · simp at h3

theorem met_SurveyIssue :
    let s := demo [(1, 0x1000), (2, 0)]
    let t := placedTask
    let two : W64 := 0x0000300000001000
    (Ready s 0 t ∧ Reads s 1 0x1000 ∧ Reads s 2 0 ∧ ((s.core s.myCore).survey.filter (fun q => q.2.sent.isNone)).length < 8 ∧ CanArm s t 0 4096 ∧ CanArm s t 255 0) ∧
    SurveyOk s t (qinitSpec 0x2202001000) 0 ∧ SurveyOk s t (insertSpec 0 4096 true [(30, 30)] two 0) 0 ∧
    SurveyOk s t (insertSpec 255 4096 true [(30, 30)] 0x1000 0x20000000) 0 ∧ SurveyOk s t (mergeSpec 4096 64 4096 0x1000 0x2000) 0 ∧
    SurveyOk s t (mergeSpec 4096 64 4096 0x1000 0x8000000000002000) 0x2000 ∧ SurveyOk s t (qmergeatSpec 0x1000 0x2000) 0x2000 ∧
    SurveyOk s t (qquerySpec 0 two 0x3F800000) 0 ∧ SurveyOk s t (mergeSpec 32 32 32 0x1000 0x2000) 0 ∧ SurveyOk s t (initSpec 2048 0x1000) 0 ∧
    SurveyOk s t (insertSpec 0 2048 false [] two 0) 0 ∧ SurveyOk s t (mergeSpec 2048 64 2048 0x1000 0x2000) 0 ∧ SurveyOk s t (htopSpec two 124) 0 ∧
    SurveyOk s t (initSpec 4096 0x1000) 0 ∧ SurveyOk s t (insertSpec 0 4096 true [(28, 28)] two 0) 0 ∧ SurveyOk s t (destSpec 255 0x1000) 0 := by
  refine ⟨by decide +kernel, ?_, ?_, ?_, ?_, ?_, ?_, ?_, ?_, ?_, ?_, ?_, ?_, ?_, ?_, ?_⟩ <;> exact survey_ok (by decide +kernel)

theorem met_StateStoreIssue :
    let s := demo [(1, 0), (2, 0)]
    let t := placedTask
    let ok := fun (x : StoreSpec) => x.2.2 = false ∧ (∀ q ∈ x.2.1, q.off % q.align = 0 ∧ t.usable q.off q.len = true)
    (Ready s 0 t ∧ Reads s 1 0 ∧ Reads s 2 0 ∧ s.commitOut = false ∧ CanArm s t 0 32) ∧
    ok (stopenSpec 0 0) ∧ ok (stldSpec 0 0x1000) ∧ ok (ststSpec 0 0x1000) ∧ ok (stmarkSpec 0x1FFFF) ∧ ok (stbackSpec 0 0 0x0000100000000000) ∧
    ok (stforkSpec 255 0 0) ∧ ok (stpinSpec 0 0) ∧ ok (stcloseSpec 0) ∧ ok (stqSpec 0 32) := by decide +kernel

theorem met_IndexIssue :
    (let s := demoSpad [(1, 0x2000)] [0, 0x1000, 0x1400, 0]
     Ready s 0 placedTask ∧ Reads s 1 0x2000 ∧ bits 0x2000 63 22 = 0 ∧ Params s placedTask 0x2000 32 32 ∧ (s.core s.myCore).index.queue.length < 16 ∧
       CanArm s placedTask 0 512) ∧
    (∀ op ∈ [0x28, 0x29, 0x2A],
      let s := demoSpad [(1, 0x2000)] [0, 0x1000, 0x1400, 0]
      let ws := wordsOf 4 (s.spadRead s.myCore placedTask 0x2000 32)
      Spad placedTask (ixList ws) (ixCnt ws * ixWidth ws) (ixWidth ws) false ∧
       Spad placedTask (ixData ws) (ixCnt ws * ixStride op ws) (if op = 0x2A then ixW ws else 4) false ∧ ixOk op ws = true ∧
       CanArm s placedTask 0 (ixCnt ws * ixSize ws)) ∧
    (let s := demo [(1, 0x1000), (2, 1), (3, 0)]
     Ready s 0 placedTask ∧ Reads s 1 0x1000 ∧ Reads s 2 1 ∧ Reads s 3 0 ∧ (s.core s.myCore).index.queue.length < 16 ∧
       1 ≤ (1 : W64).toNat ∧ (1 : W64).toNat ≤ 1024 ∧ bits 0x1000 63 22 = 0 ∧ Spad placedTask 0x1000 (16 * 1) 16 false ∧
       Spad placedTask 0x1000 (16 * 1024) 16 false ∧ selOk 0x8000000000000000 = true ∧ selOk 0x3FF = true ∧ Spad placedTask 0x1000 64 64 false) :=
  ⟨by decide +kernel, by decide +kernel, by decide +kernel⟩

theorem met_IndexIssue_lists :
    (let s := demo []
     let x := w64 (0x1000 + 0x1400 * 2 ^ 22 + 6 * 2 ^ 44)
     let y := w64 (0x1000 + 10 * 2 ^ 57)
     wnOk x 0 = true ∧ wnOk x y = true ∧ bits y 56 0 % 4096 = 0 ∧ translate s.pre.wnd (bits y 56 0) (wnSize x * 2 ^ bits y 62 57) = some (0x1000, 0) ∧
       rwMiss placedTask.card 0x1000 (wnSize x * 2 ^ bits y 62 57) = none ∧ wnRing x % 64 = 0 ∧ Spad placedTask (wnHdr x) 64 64 false ∧
       Spad placedTask (wnRing x) (wnSize x * 2 ^ wnCap x) 64 false) ∧
    (let s := demo []
     let x := w64 (0x1000 + 0x1400 * 2 ^ 22 + 127 * 2 ^ 44)
     bits x 63 51 = 0 ∧ (bits x 50 44 + 1) * s.wlSize s.myCore placedTask (s.pre.task.getD 0) (wnHdr x) ≤ 512 ∧ Spad placedTask (wnHdr x) 64 64 false ∧
       Spad placedTask (bits x 43 22) 512 32 false) := ⟨by decide +kernel, by decide +kernel⟩

theorem met_HomeAgentResult :
    (let s := demo [(1, 0), (2, 1), (3, 31), (4, 3)]
     Ready s 0 placedTask ∧ Reads s 1 0 ∧ Reads s 2 1 ∧ Reads s 3 31 ∧ Reads s 4 3 ∧ CanArm s placedTask 0 8 ∧ s.sysMode s.cur = true ∧ HaFirst s) ∧
    (let s := (demo [(1, 1)]).modDie 0 (fun k => { k with haLast := 63 })
     let s := { s with migs := [(4, { tag := (s.newTag placedTask 0 0).1, pages := [0], src := 0, dst := 0, phase := 0, rounds := 0, dirty := [], copied := 0, frozenAt := 0,
                                      frames := [], tables := [], code := 0 })] }
     ¬ HaFirst s ∧ s.sysMode s.cur = true ∧ Reads s 2 0 ∧ Reads s 1 1) ∧
    (let s := demo []
     bits 0 63 57 = 0 ∧ onlyFields 0 [(10, 0), (20, 16), (47, 24), (63, 63)] = true ∧ translateAll s.pre.wnd (migExtents 0 0) = .inl [(0, 65536)] ∧
       bits 0 15 0 = 0 ∧ anyModeMiss placedTask.card [(0, 65536)] = none ∧ CanArm (s.modDie s.myDie (fun k => { k with gaz := [] })) placedTask 0 8) ∧
    (let s := (demo []).modDie 0 (fun k => { k with gaz := [] })
     onlyFields 0 [(56, 16)] = true ∧ translate s.pre.wnd (0 : W64).toNat 1 = some (0, 0) ∧ pageFind? Gaz.big 0 (s.die s.myDie).gaz = none ∧
       s.gazFresh s.myDie 0 = none ∧ s.serving (s.homeOf s.myDie 0) = true ∧ (s.homeRec? s.myDie 0).isSome = true) ∧
    (let s := (demo []).modDie 0 (fun k => { k with gaz := [(0, ⟨false, 3, 0⟩)] }); s.gazFresh s.myDie 0 = some 3) ∧
    (let s := userMode (demo [(1, 2 ^ 57), (2, 4)])
     Ready s 0 userTask ∧ Reads s 1 (BitVec.ofNat 64 (2 ^ 57)) ∧ Reads s 2 4 ∧ s.sysMode s.cur = false ∧ bits (BitVec.ofNat 64 (2 ^ 57)) 63 57 ≠ 0 ∧
       2 ≤ (4 : W64).toNat) :=
  ⟨by decide +kernel, by decide +kernel, by decide +kernel, by decide +kernel, by decide +kernel, by decide +kernel⟩

/-- A package whose ring 5 is enabled and open for one entry, with entries up to `tail`, and may be written by its dies. -/
abbrev demoRing (tail : Nat) : State :=
  ((demo [(1, 5), (2, 1024)]).modPkg 0 (fun p => p.setRing 5 ⟨0, w64 (3 * 2 ^ 62), tail, 0, 0, 0, 0⟩)).modDie 0 (fun k =>
    { k with tableWritten := true, access := [(0, 2 ^ 63 + 2 * 2 ^ 61 + 16 * 2 ^ 64 + 2 ^ (192 + 40))] })

theorem met_HostResult :
    (∀ tail ∈ [0, 1],
      let s := demoRing tail
      Ready s 0 placedTask ∧ Reads s 1 5 ∧ Reads s 2 1024 ∧ CanArm s placedTask 0 8 ∧ s.hostCode placedTask 5 = 0 ∧ s.hostCode placedTask 1024 ≠ 0 ∧
        (((s.pkg 0).ring 5).full = true ↔ tail = 1)) ∧
    (let s := demoRing 0
     let e : RingEntry := ⟨5, 3, s.dieId s.myDie, [5, s.ctxId s.cur, w64 placedTask.ia]⟩
     (armed s placedTask 0 8 0).entryGranted 0 e = true ∧ (armed (s.modDie 0 (fun k => { k with access := [] })) placedTask 0 8 0).entryGranted 0 e = false) :=
  ⟨by decide +kernel, by decide +kernel⟩

/-- Group 7 of the placed die: two ranks, rank 0 here. -/
abbrev demoGroup (member : Option Nat) : Grp := ⟨true, 0, 4, 2, 0, 0, [0, 1], 0, member, none, member.isSome, [], []⟩

/-- The placed machine as a member of group 7, with words in scratchpad at 0x2000. -/
abbrev demoColl (member : Option Nat) (ws : List Nat) : State :=
  ((demoSpad [(1, 0x2000)] ws).modColl 0 (fun c => { c with grps := [(7, demoGroup member)] })).modCore 0 (fun k =>
    { k with streams := [(1, ⟨((demo []).newTag placedTask 0 0).1, 0, false, 7, 1, 0, 16, 0, []⟩)] })

/-- Descriptors at 0x2000: a reduction of 64 bytes of f32, a barrier, a transform of 32 bytes, a transfer of 64 bytes, a sampling. -/
abbrev demoCred : List Nat := [7 + 2 ^ 16 + 0x22 * 2 ^ 24, 2 ^ 63 + 0x1000, 2 ^ 63 + 0x1800, 64, 2 ^ 63 + 0x1C00, 0, 0, 0]
abbrev demoLay : List Nat := [0x22 * 2 ^ 6 + 2 ^ 32, 16] ++ List.replicate 14 0
abbrev demoCxf : List Nat := [7 + 3 * 2 ^ 16, 2 ^ 63 + 0x1000, 2 ^ 63 + 0x1800, 32, 0, 0x2040, 0x20C0, 0] ++ demoLay ++ demoLay
abbrev demoCbar (grp : Nat) : List Nat := [grp + 2 * 2 ^ 16, 0, 0, 0, 0, 0, 0, 0]
abbrev demoTransfer (mc : Bool) : List Nat := [7 + (if mc then 2 ^ 27 else 2 ^ 16), 2 ^ 63 + 0x1000, 0, 64]
abbrev demoSmp : List Nat := [0x1000 + 2 ^ 63, 0x1800 * 2 ^ 32 + 0x1C00, 7 * 2 ^ 32, 0, 0, 0, 0, 0]

/-- Usable scratchpad is a local extent, at its own offset. -/
theorem colBase_spad {s : State} {t : Task} {wr : Bool} {a n : Nat} (h : n ≠ 0 ∧ Spad t a n 1 false) : ColBase s t wr true a n a := ⟨h.1, h.2, rfl⟩

theorem met_CollectiveIssue_reduce :
    let s := demoColl (some 0) demoCred
    let ws := wordsOf 8 (s.spadRead s.myCore placedTask 0x2000 64)
    (Ready s 0 placedTask ∧ Reads s 1 0x2000 ∧ Reads s 2 0 ∧ collectives (s.die s.myDie).coll.queue < 64 ∧ bits 0x2000 63 22 = 0 ∧
      Params s placedTask 0x2000 64 64 ∧ s.isMember (cdGrp ws) = true ∧ CanArm s placedTask 0 (cdLen ws) ∧
      (cdSv ws = true → Spad placedTask (cdSta ws) (staBytes (s.grp s.myDie (cdGrp ws)).n) 32 false) ∧ cdOk 1 ws = true ∧
      bit (wordN ws 1) 63 = true ∧ bits (wordN ws 1) 56 0 = 0x1000 ∧ bits (wordN ws 2) 56 0 = 0x1800) ∧
    (∀ n ∈ [32, 64], ∀ wr : Bool, ColBase s placedTask wr true 0x1000 n 0x1000 ∧ ColBase s placedTask wr true 0x1800 n 0x1800) :=
  ⟨by decide +kernel, fun n hn wr => ⟨colBase_spad (by revert n; decide +kernel), colBase_spad (by revert n; decide +kernel)⟩⟩

theorem met_CollectiveIssue_transform :
    let s := demoColl (some 0) demoCxf
    let ws := wordsOf 8 (s.spadRead s.myCore placedTask 0x2000 64)
    let l1 := bits (wordN ws 5) 21 0
    let l2 := bits (wordN ws 6) 21 0
    let lay := wordsOf 16 (s.spadRead s.myCore placedTask l1 128) ++ wordsOf 16 (s.spadRead s.myCore placedTask l2 128)
    s.isMember (cdGrp ws) = true ∧ CanArm s placedTask 0 (cdLen ws) ∧ cdSv ws = false ∧ Spad placedTask l1 128 64 false ∧ Spad placedTask l2 128 64 false ∧ s.spadBad s.myCore placedTask l1 128 = false ∧ s.spadBad s.myCore placedTask l2 128 = false ∧
      cdOk 3 ws = true ∧ layPairOk (lay.take 16) (lay.drop 16) (s.grp s.myDie (cdGrp ws)).n (cdLen ws) = true ∧ laySpan (lay.take 16) = 32 := by decide +kernel

theorem met_CollectiveIssue_barrier :
    (let s := demoColl (some 0) []; bit 7 63 = false ∧ bits 7 62 17 = 0 ∧ s.isMember (bits 7 15 0) = true ∧ CanArm s placedTask 0 8) ∧
    (∀ grp ∈ [7, 8],
      let s := demoColl (some 0) (demoCbar grp)
      let x : W64 := 0x8000000000002000
      let wb := wordsOf 8 (s.spadRead s.myCore placedTask (bits x 21 0) 64)
      bit x 63 = true ∧ bits x 62 22 = 0 ∧ Params s placedTask (bits x 21 0) 64 64 ∧ cdSv wb = false ∧ (s.isMember (cdGrp wb) = true ↔ grp = 7) ∧
        cdOk 2 wb = true ∧ CanArm s placedTask 0 8) := ⟨by decide +kernel, by decide +kernel⟩

theorem met_CollectiveIssue_sample :
    let s := demoColl (some 0) demoSmp
    let ws := wordsOf 8 (s.spadRead s.myCore placedTask 0x2000 64)
    Spad placedTask (smpLogits ws) (4 * smpCount ws) 4 false ∧ smpMasked ws = true ∧ Spad placedTask (smpMask ws) ((smpCount ws + 7) / 8) 1 false ∧
      Spad placedTask (smpRes ws) 8 8 false ∧ smpOk ws = true ∧ s.isMember (smpGrp ws) = true := by decide +kernel

theorem met_CollectiveIssue_transfer :
    ∀ mc : Bool,
      let s := demoColl (some 0) (demoTransfer mc)
      let td := wordsOf 4 (s.spadRead s.myCore placedTask 0x2000 32)
      Params s placedTask 0x2000 32 32 ∧ onlyFields (wordN td 0) [(27, 0)] = true ∧ onlyFields (wordN td 1) [(63, 63), (56, 0)] = true ∧
        bits (wordN td 1) 56 22 = 0 ∧ onlyFields (wordN td 2) [(39, 0)] = true ∧ onlyFields (wordN td 3) [(40, 0)] = true ∧ 0 < tdLen td ∧
        tdLen td ≤ 2 ^ 40 ∧ s.isMember (tdGrp td) = true ∧ tdMc td = mc ∧ (if mc then tdRank td = 0 else tdRank td < 2) ∧
        CanArm s placedTask 0 (tdLen td * (tdTargets td 2 0).length) ∧ bits (wordN td 1) 56 0 = 0x1000 := by decide +kernel

theorem met_CollectiveIssue_queues :
    let s := demoColl (some 0) []
    (let y := w64 (7 + 2 ^ 16); onlyFields y [(30, 28), (26, 0)] = true ∧ s.isMember (bits y 15 0) = true ∧ bits y 26 16 < (s.grp s.myDie (bits y 15 0)).n) ∧
    ((2 : W64).toNat ≤ 2 ∧ bits 0 63 16 = 0) ∧
    (let x := w64 (2 + 7 * 2 ^ 8 + 2 ^ 24)
     onlyFields x [(34, 7), (3, 0)] = true ∧ onlyFields (w64 (16 * 2 ^ 40)) [(55, 40), (39, 0)] = true ∧ s.isMember (bits x 23 8) = true ∧ bit x 7 = false ∧
       s.openStream (bits x 3 0) = none ∧ bits (w64 (16 * 2 ^ 40)) 8 0 = 0 ∧ bits (w64 (16 * 2 ^ 40)) 55 40 ≠ 0 ∧ bits x 34 24 < (s.grp s.myDie (bits x 23 8)).n) ∧
    (let x := w64 (1 + 7 * 2 ^ 8 + 2 ^ 7); bit x 7 = true ∧ (s.openStream (bits x 3 0)).map (fun q => (q.tag.u, q.grp)) = some (0, 7)) := by decide +kernel

theorem met_CollectiveIssue_open :
    (let s := demoColl none []
     bits 7 63 18 = 0 ∧ (s.grp s.myDie 7).v = true ∧ bit 7 17 = false ∧ (s.grp s.myDie 7).member.isNone = true ∧ bit 0x8000000000000000 63 = true ∧
       translate s.pre.wnd 0 65536 = some (0, 0) ∧ rwMiss placedTask.card 0 65536 = none ∧ CanArm (s.joinGroup 7 (some (0, 65536)) false) placedTask 0 8 ∧
       collectives ((s.joinGroup 7 (some (0, 65536)) false).die s.myDie).coll.queue < 64) ∧
    (let s := demoColl (some 0) []
     let u := s.leaveGroup s.myDie (s.pre.task.getD 0) 7
     bit 0x20007 17 = true ∧ s.isMember 7 = true ∧ CanArm u placedTask 0 8 ∧ collectives (u.die s.myDie).coll.queue < 64 ∧ bits 0x40007 63 18 ≠ 0) ∧
    (let s := demoColl none []
     let y := w64 (2 ^ 63 + 2 ^ 56)
     bit y 63 = true ∧ translate s.pre.wnd (bits y 56 16 * 65536) ((bits y 15 0 + 1) * 65536) = none) :=
  ⟨by decide +kernel, by decide +kernel, by decide +kernel⟩

/-- The placed task without tiles, with a save area at IA 0x10000, a page that no home record lists: the writes of a save fail there and are dropped (log 70). -/
abbrev saveTask : Task := { placedTask with tiles := [], words := [w64 placedPC, w64 (2 ^ 34 + 2 ^ 33 + 4 * 2 ^ 26), 0, 0, 0, 0, 0, 16] }

/-- The machine with that task in place of the placed one. -/
abbrev demoSave (f : Ctx → Ctx) : State := ((demo []).modTask 0 0 (fun _ => saveTask)).modCtx 0 f

/-- Two contexts of the core with tasks of one priority, the first of which has issued 4,096 bundles in a row. -/
abbrev demoTwo : State :=
  (((demo []).setCtx 1 { placedCtx with task := some 1 }).modDie 0 (fun k => { k with
    compass := { k.compass with tasks := put 1 { placedTask with ctx := some 1, ia := 0xE000 } k.compass.tasks } })).modCore 0 (fun k =>
    { k with sel := ⟨0, 4096, false⟩ })

/-- The placed context waits for event bit 5 in its next bundle. -/
abbrev demoWaiting (w event : Nat) : State :=
  ((State.reset.withFetchWord 32 ((Instr.wait 0).encode ⟨0, 0, 0⟩).toNat).modCtx 0 (fun c =>
    { c with wd := [(0, w64 w), (1, w64 (4 * 2 ^ 61 + 2 ^ 6 + 5))] })).modCore 0 (fun k => { k with event := w64 event })

/-- A spawn of the record at IA 0x400 waits for its answer. -/
abbrev demoSpawn : State := (demo []).modCompass 0 (fun k => { k with spawns := [⟨0, 0, 1, 0x400, [], 0, false, 0⟩] })

theorem met_ContextEvents_issue :
    (let s := demo []; (s.ctx 0).issuable = true ∧ (s.ctx 0).fetched = none ∧ (match s.fetchAt 0 (s.ctx 0).pc.toNat with | .ok _ => true | .error _ => false) = true) ∧
    (let s := demoWaiting (2 ^ 34) 0x20; (s.waitNow 0).any (fun q => (s.ctx 0).waitDone q.1 q.2) = true) ∧
    (let s := demoWaiting (2 ^ 34 + 2 ^ 38) 0
     (s.waitNow 0).any (fun q => !(s.ctx 0).waitDone q.1 q.2 && (s.ctx 0).waitExpired q.1 s.tick q.2) = true) ∧
    (let s := demoTwo
     4096 ≤ (s.core 0).sel.count ∧ (s.core 0).sel.yielding = false ∧
       (s.turns 0).any (fun h => h != 0 && (s.ctx h).issuable && s.prioOf h == s.prioOf 0 && s.ready h) = true) ∧
    (let s := demo []; s.ready 0 = true ∧ (s.noteStall (0 / 4)).selected (0 / 4) = some 0 ∧ s.ready 1 = false) ∧
    (let s := demoTwo; s.ready 1 = true ∧ (s.noteStall (1 / 4)).selected (1 / 4) ≠ some 1) := by decide +kernel

theorem met_ContextEvents_spawn :
    let s := demoSpawn
    ((s.die 0).compass.spawns.find? (fun a => a.g == 0) = some ⟨0, 0, 1, 0x400, [], 0, false, 0⟩ ∧ s.spawnHeld ⟨0, 0, 1, 0x400, [], 0, false, 0⟩ = false ∧
      s.task? 0 0 = some placedTask ∧ s.graph? 0 0 = some placedGraph ∧
      s.readMany 0 .load [] (pagePieces 2 0x400 64) = .ok (List.replicate 64 0) 0 [] leaf) ∧
    (∃ r, s.spawnNow 0 ⟨0, 0, 1, 0x400, [], 0, false, 0⟩ placedTask placedGraph (wordsOf 8 (List.replicate 64 0)) = .ok r) ∧
    (keyReads 3 0 = true ∧ ∃ r, s.gsubNow 0 ⟨0, 0, 0, 0x400, [], 0, true, 3⟩ (List.replicate 64 0) = .ok r) :=
  ⟨by decide +kernel, io_ok (by decide +kernel), by decide +kernel, io_ok (by decide +kernel)⟩

theorem met_ContextEvents_preempt :
    (let s := (demo []).modCtx 0 (fun c => { c with preempt := some false })
     (s.ctx 0).preempt = some false ∧ (s.ctx 0).task = some 0 ∧ (s.ctx 0).life = .active ∧ (s.ctx 0).stopping = none ∧ (s.ctx 0).violation = none) ∧
    (∀ drain : Bool,
      let s := demoSave (fun c => { c with preempt := some drain, life := .saving })
      (s.ctx 0).preempt = some drain ∧ (s.ctx 0).task = some 0 ∧ s.boundTask 0 = some saveTask ∧ (s.ctx 0).life = .saving ∧ (s.ctx 0).violation = none ∧
        s.ctxSettled 0 = true ∧ s.arraySettled (coreOfCtx 0) 0 drain = true ∧ s.cmdsOut (dieOfCtx 0) 0 (fun _ => true) = false ∧
        (s.die (dieOfCtx 0)).compass.spawns.any (fun q => q.u == 0) = false) ∧
    (let s := demoSave (fun c => { c with preempt := some false, life := .saving }); ∃ r, s.saveContext 0 false 0 saveTask = .ok r) :=
  ⟨by decide +kernel, by decide +kernel, io_ok (by decide +kernel)⟩

/-- The same at a later tick. -/
abbrev atTick (s : State) (n : Nat) : State := { s with tick := n }

theorem met_ContextEvents_requests :
    (let s := atTick (demoSave id) 65536
     s.task? 0 0 = some saveTask ∧ saveTask.ctx = some 0 ∧ saveTask.save ≠ 0 ∧ (s.ctx 0).life = .active ∧ s.graph? 0 saveTask.graph = some placedGraph ∧
       saveTask.preemptible = true ∧ saveTask.quantum + 2 ^ placedGraph.qlog ≤ s.tick) ∧
    (let s := atTick ((demo []).modCtx 0 (fun c => { c with deps := [⟨⟨0, 0, 0⟩, 0, false, 0⟩] })) 16384
     (s.ctx 0).deps[0]?.any (fun x => !x.probing && decide (x.since + 2 ^ 14 ≤ s.tick)) = true) := by decide +kernel

/-- A request of the placed context for 8 bytes at IA 0x400. -/
abbrev demoMsg : Msg :=
  { kind := .write, origin := 0, g := 0, task := some 0, tok := none, ia := 0x400, n := 8, ia2 := none, data := List.replicate 8 1, wen := 2 ^ 32 - 1, ents := [],
    stamp := [], ids := [(0, 1)], target := 0, path := [], stage := .sent, ans := Answer.none, first := 0, last := 0, unreachable := false, past := [] }

/-- The machine with one request, number 9, under way; die 1 serves too, and page 1 is owned but not mapped. -/
abbrev demoNet (m : Msg) (tick : Nat) : State :=
  let s := (demo []).modDie 0 (fun k => { k with pages := put 1 ⟨false, 0, []⟩ k.pages })
  { (s.modDie 1 (fun k => { k with haCtl := w64 (2 ^ 63) })) with net := [(9, m)], tick := tick }

/-- The same once the request or its answer has reached its die. -/
abbrev demoNear (m : Msg) (tick : Nat) : State := (demoNet m tick).arrive m

/-- A load of the placed context that waits for the request. -/
abbrev demoLoad : Load := { kind := .scalar 8 true [3], parts := [(9, 0)], buf := [], denial := none, acquire := false, ro := false, skip := 0 }

theorem met_RequestEvents_owner :
    (let m := { demoMsg with kind := .read, ids := [] }
     let s := demoNear m 0
     Sent s 9 m ∧ s.servable m = true ∧ m.ia2 = none ∧ (∃ pa e, s.checkOwn m.target m.ia .load = .ok pa e) ∧ s.badAt m.target 0x10400 m.n = none) ∧
    (let m := { demoMsg with kind := .read, ia := 0x10400 }
     let s := demoNear m 0
     Sent s 9 m ∧ s.servable m = true ∧ ∃ w, s.checkOwn m.target m.ia .load = .denied w) ∧
    (let s := demoNear demoMsg 0
     Sent s 9 demoMsg ∧ s.servable demoMsg = true ∧ s.inSequence demoMsg = true ∧ ∃ pa e, s.writeCheck demoMsg = (.ok pa e, none, 0)) ∧
    (let m := { demoMsg with kind := .atomic (.amo 64 0 1) }
     let s := demoNear m 0
     Sent s 9 m ∧ s.servable m = true ∧ s.inSequence m = true ∧ s.myTurn m.target m.ia m.origin 9 = true ∧ s.badAt m.target 0x10400 m.n = none ∧
       (∃ pa e, s.writeCheck m = (.ok pa e, none, 0)) ∧ ∃ lv big le, s.walk m.target m.ia = .leaf lv big le) ∧
    (let m := { demoMsg with kind := .probe, ids := [] }
     let s := demoNear m 0
     Sent s 9 m ∧ m.stage = .sent ∧ s.answers m.origin m.target = true ∧ (m.stamp.foldl mergeEnt m.ents).all (s.coveredAt m.target []) = true) := by
  refine ⟨⟨by decide +kernel, by decide +kernel, rfl, ⟨0x10400, leaf, by decide +kernel⟩, by decide +kernel⟩,
    ⟨by decide +kernel, by decide +kernel, 4, by decide +kernel⟩, ⟨by decide +kernel, by decide +kernel, by decide +kernel, 0x10400, leaf, by decide +kernel⟩,
    ⟨by decide +kernel, by decide +kernel, by decide +kernel, by decide +kernel, by decide +kernel, ⟨0x10400, leaf, by decide +kernel⟩, 0x4000, false, leaf, by decide +kernel⟩,
    by decide +kernel⟩

/-- Requests of two pieces: the second piece passes its checks too, or is denied (R95, R358). -/
theorem met_RequestEvents_apart :
    (let m := { demoMsg with kind := .read, ids := [], ia2 := some 0x800 }
     let s := demoNear m 0
     s.servable m = true ∧ s.badAt m.target 0x10400 m.n = none ∧ s.badAt m.target 0x10800 1 = none ∧ s.checkOwn m.target m.ia .load = .ok 0x10400 leaf ∧
       s.checkOwn m.target 0x800 .load = .ok 0x10800 leaf) ∧
    (let m := { demoMsg with kind := .read, ids := [], ia2 := some 0x10400 }
     let s := demoNear m 0
     s.servable m = true ∧ s.checkOwn m.target 0x10400 .load = .denied 4) ∧
    (let m := { demoMsg with ia2 := some 0x800 }
     let s := demoNear m 0
     s.servable m = true ∧ s.inSequence m = true ∧ s.writeCheck m = (.ok 0x10400 leaf, none, 0) ∧ s.writeCheckAt m 0x800 = (.ok 0x10800 leaf, none, 0)) ∧
    (let m := { demoMsg with ia2 := some 0x10400 }
     let s := demoNear m 0
     s.servable m = true ∧ s.inSequence m = true ∧ s.writeCheck m = (.ok 0x10400 leaf, none, 0) ∧
       (match s.writeCheckAt m 0x10400 with | (.denied _, some _, _) => true | _ => false) = true) ∧
    (let m := { demoMsg with ia := 0x10400 }
     let s := demoNear m 0
     s.servable m = true ∧ s.inSequence m = true ∧ (match s.writeCheck m with | (.denied _, some _, _) => true | _ => false) = true) := by decide +kernel

theorem met_RequestEvents_origin :
    (let m := { demoMsg with kind := .read, ids := [], tok := some 5, stage := .served }
     let s := (demoNear m 0).modCtx 0 (fun c => { c with loads := [(5, demoLoad)] })
     Sent s 9 m ∧ (s.ctx m.g).task = m.task ∧ find? 5 (s.ctx m.g).loads = some demoLoad ∧ s.readBefore m.g m.task 9 = false ∧
       (mergedDeps s.tick 5 (s.ctx m.g).deps m.ans.stamps).length ≤ 8) ∧
    (let m := { demoMsg with stage := .served }; Sent (demoNear m 0) 9 m ∧ m.tok = none ∧ m.ans.rejected = none ∧ m.kind ≠ .read ∧ m.kind ≠ .probe) ∧
    (let m := { demoMsg with stage := .served, ans := { Answer.none with rejected := some true } }; Sent (demoNear m 0) 9 m ∧ m.ans.rejected = some true) ∧
    (let m := { demoMsg with kind := .probe, stage := .served, task := some 3 }; Sent (demoNear m 0) 9 m ∧ ((demoNear m 0).ctx m.g).task ≠ m.task) ∧
    (let m := { demoMsg with kind := .probe, stage := .served }
     Sent (demoNear m 0) 9 m ∧ ((demoNear m 0).ctx m.g).task = m.task ∧ ((demoNear m 0).ctx m.g).probeOp = none) ∧
    (let m := { demoMsg with kind := .read, ids := [], tok := some 5, stage := .served }
     m.tok = some 5 ∧ find? 5 ((demoNear m 0).ctx m.g).loads = none) ∧
    (demoMsg.kind.causal = true ∧ demoMsg.ids ≠ [] ∧ demoMsg.last + 2 ^ 10 ≤ (demoNear demoMsg 1024).tick ∧ demoMsg.unreachable = false ∧
      demoMsg.first + 2 ^ 16 ≤ (demoNear demoMsg 65536).tick) := by decide +kernel

theorem met_RoutingEvents_request :
    (let m := { demoMsg with stage := .query }
     Sent (demoNear m 0) 9 m ∧ (demoNear m 0).answers m.origin ((demoNear m 0).homeOf m.origin m.ia) = true ∧ ((demoNear m 0).homeRec? m.origin m.ia).isSome = true ∧
       (demoNear m 0).homeRec? m.origin 0x10400 = none) ∧
    (∀ k ∈ [MKind.read, .write, .writeNc],
      let m := { demoMsg with kind := k, stage := .query, ans := { Answer.none with denied := some 5 } }
      Sent (demoNear m 0) 9 m ∧ m.stage = .query ∧ m.ans.redirect = none ∧ m.ans.denied = some 5) ∧
    (let m := { demoMsg with stage := .query, ans := { Answer.none with redirect := some (0, 1) } }; Sent (demoNear m 0) 9 m ∧ m.ans.redirect = some (0, 1)) ∧
    (let m := { demoMsg with stage := .redirected, ans := { Answer.none with redirect := some (0, 1) } }; Sent (demoNear m 0) 9 m ∧ m.ans.redirect = some (0, 1)) ∧
    (let m := { demoMsg with target := 1, ids := [(1, 1)] }
     let s := demoNear m 0
     Sent s 9 m ∧ m.stage = .sent ∧ m.kind ≠ .probe ∧ s.answers m.origin m.target = true ∧ s.ownPage? m.target m.ia = none ∧
       find? (m.ia / 65536) (s.die m.target).signs = none) ∧
    (∀ path ∈ [[], [2], [2, 3]],
      let m := { demoMsg with target := 1, ids := [(1, 1)], path := path }
      let s := (demoNear m 0).modDie 1 (fun k => { k with signs := [(0, ⟨0, 0, 0⟩)] })
      Sent s 9 m ∧ s.ownPage? m.target m.ia = none ∧ find? (m.ia / 65536) (s.die m.target).signs = some ⟨0, 0, 0⟩ ∧ s.answers m.origin m.target = true ∧ s.relayInOrder m 0 = true ∧
        s.answers m.target (s.homeOf m.target m.ia) = true ∧ (s.homeRec? m.target m.ia).isSome = true) := by decide +kernel

theorem met_RoutingEvents_tables :
    (let s := { demo [] with resolutions := [(3, ⟨0, 0, 1⟩)] }; find? 3 s.resolutions = some ⟨0, 0, 1⟩) ∧
    (let s := atTick ((demo []).modDie 0 (fun k => { k with gaz := [(0, ⟨false, 0, 0⟩)] })) 131073
     find? 0 (s.die 0).gaz = some ⟨false, 0, 0⟩ ∧ (⟨false, 0, 0⟩ : Gaz).since + 2 ^ 17 < s.tick) ∧
    (find? 0 ((demo []).die 0).pages = some ⟨false, 1, []⟩) ∧
    (let s := atTick ((demo []).modDie 1 (fun k => { k with signs := [(0, ⟨0, 0, 0⟩)] })) 262144
     find? 0 (s.die 1).signs = some ⟨0, 0, 0⟩ ∧ (⟨0, 0, 0⟩ : Sign).since + 2 ^ 18 ≤ s.tick ∧ s.settledFor 1 0 = true ∧
       s.serving (s.homeOf 1 0) = true ∧
       (let v := (s.wake 1).wake (s.homeOf 1 0)
        (v.homeRec? 1 0).any (fun x => v.serving x.2.owner && (find? x.1 ((v.wake x.2.owner).die x.2.owner).pages).isSome) = true) ∧
       (⟨0, 0, 2⟩ : Sign).stage = 2 ∧ s.relayedAnswered 1 0 = true) := by decide +kernel

/-- A migration of page 0 from die 0 to die `dst`, with its tag. -/
abbrev demoMig (dst phase rounds : Nat) (dirty : List Nat) : Mig :=
  { tag := ((demo []).newTag placedTask 0 0).1, pages := [0], src := 0, dst := dst, phase := phase, rounds := rounds, dirty := dirty, copied := 0, frozenAt := 0,
    frames := [(0, 0x50000)], tables := [0x2000, 0x3000, 0x4000], code := 0 }

/-- The machine with that migration, number 4, and with one free frame and three free tables at die 1. -/
abbrev demoMoving (m : Mig) (tick : Nat) : State :=
  let s := (demo []).modDie 1 (fun k =>
    { k with haCtl := w64 (2 ^ 63), haRoot := 0x1000, haPool := w64 (2 ^ 48 + 3), poolFrames := [0x50000], poolTables := [0x2000, 0x3000, 0x4000] })
  { s with migs := [(4, m)], tick := tick }

theorem some_ok {α : Type} {x : Option α} (h : x.isSome = true) : ∃ a, x = some a := by
  cases x <;> simp at h ⊢

theorem met_HomeAgentEvents_request :
    (∀ dst ∈ [0, 1],
      let m := demoMig dst 0 0 []
      let s := demoMoving m 0
      find? 4 s.migs = some m ∧ s.migNext 0 = some 4 ∧
        ((s.wake (s.homeOf 0 0)).modDie 0 (fun q => { q with haLast := 0 })).migCheck (s.homeOf 0 0) m = if dst = 0 then .inl 8 else .inr (0, 3)) := by
  decide +kernel

theorem met_HomeAgentEvents_copy :
    (demoMig 1 1 0 []).phase = 1 ∧ (demoMig 1 1 0 []).rounds = 0 ∧ 1 ≤ (demoMig 1 1 1 (List.replicate 65 0)).rounds ∧
      64 < (demoMig 1 1 1 (List.replicate 65 0)).dirty.length ∧ (demoMig 1 1 4 (List.replicate 65 0)).rounds < 5 ∧
      (demoMig 1 1 1 (List.replicate 64 0)).dirty.length ≤ 64 ∧ 5 ≤ (demoMig 1 1 5 (List.replicate 65 0)).rounds := by decide +kernel

theorem met_HomeAgentEvents_cutover :
    (let m := demoMig 1 2 1 []
     let s := demoMoving m 800
     s.tick ≤ m.frozenAt + 800 ∧ m.frozenAt + 800 ≤ s.tick) ∧
    (let m := demoMig 1 2 1 []
     let s := demoMoving m 800
     ∃ x, s.installLeaves m.dst ((m.pages.map (fun p => (p, s.leafBits m.src p))).map (fun q => (q.1, movedLeaf q.2 (find? q.1 m.frames)))) m.tables = some x) ∧
    (demoMig 1 3 1 []).phase = 3 := ⟨by decide +kernel, some_ok (by decide +kernel), rfl⟩

/-- The placed task with a lease asked for, or with a renewal whose new card's leases are held. -/
abbrev askTask : Task := { placedTask with leases := [⟨0, false, 0⟩] }
abbrev askNewTask : Task := { placedTask with newLeases := [⟨0, false, 0⟩] }
abbrev renewTask : Task := { placedTask with renews := [(((demo []).newTag placedTask 0 0).1, true)], newCard := [⟨3, 0, 65536⟩], newLeases := [⟨0, true, 2⟩] }

theorem met_HomeAgentEvents_leases :
    (let s := (demo []).modTask 0 0 (fun _ => askTask)
     s.beginRenewal 0 0 = s ∧ s.task? 0 0 = some askTask ∧ askTask.leases.find? (fun l => l.page == 0 && l.stage == 0) = some ⟨0, false, 0⟩ ∧
       s.placeOf 0 0 [] = .at_ 0 ∧ s.ownPage? 0 0 = some (0, ⟨false, 1, []⟩) ∧ s.walk 0 0 = .leaf 0x4000 false leaf) ∧
    (let s := (demo []).modTask 0 0 (fun _ => askNewTask)
     s.beginRenewal 0 0 = s ∧ s.task? 0 0 = some askNewTask ∧ askNewTask.leases.find? (fun l => l.page == 0 && l.stage == 0) = none ∧
       askNewTask.newLeases.find? (fun l => l.page == 0 && l.stage == 0) = some ⟨0, false, 0⟩) ∧
    (let s := (demo []).modCompass 0 (fun k => { k with releases := [(0, 0, 0)] })
     (s.die 0).compass.releases.find? (fun r => r.1 == 0 && r.2.1 == 0) = some (0, 0, 0) ∧ s.cmdsOut 0 0 (fun k => decide (k < 0)) = false ∧
       s.placeOf 0 0 [] = .at_ 0) ∧
    (let s := (demo []).modTask 0 0 (fun _ => renewTask)
     s.beginRenewal 0 0 = s ∧ s.task? 0 0 = some renewTask ∧ renewTask.newCard ≠ [] ∧ (∀ l ∈ renewTask.newLeases, l.stage = 2)) ∧
    (∀ big : Bool,
      let s := (demo []).modDie 0 (fun k => { k with haPend := some (512, big, none) })
      (s.die 0).haPend = some (512, big, none) ∧ s.serving (s.homeOf 0 (512 * 65536)) = true ∧ s.homeRec? 0 (512 * 65536) = none ∧
        (s.die (s.homeOf 0 (512 * 65536))).homeRecs.any (fun r => r.1 / 512 == 512 / 512) = false) := by
  refine ⟨⟨rfl, by decide +kernel⟩, ⟨rfl, by decide +kernel⟩, by decide +kernel, ⟨rfl, by decide +kernel⟩, by decide +kernel⟩

/-- The placed machine with another task in place of the placed one, and its context with nothing else to do. -/
abbrev demoTask (t : Task) : State := (demo []).modTask 0 0 (fun _ => t)

/-- The placed task before it is placed, and after it is placed. -/
abbrev readyTask : Task := { placedTask with st := 1, core := none, ctx := none, units := [], tiles := [], leases := [] }
abbrev grantedTask : Task := { placedTask with st := 3, ctx := none }

/-- The same task with its card at IA 0x800, in a graph whose window set is at IA 0x880. -/
abbrev cardTask : Task := { readyTask with words := [w64 placedPC, w64 (2 ^ 33 + 4 * 2 ^ 26 + 2 ^ 23), 0, 0x800, 0, 0, 0, 0] }
abbrev demoCard : State :=
  ((demoTask cardTask).writePA 0 0x10800 (([3 * 2 ^ 62, 65536] ++ List.replicate 14 0 ++ [2 ^ 63 + 36 * 2 ^ 57]).map (bytesOf 8)).flatten).modGraph 0 0
    (fun _ => { placedGraph with wset := 0x880 })

/-- A running node whose action object is at IA 0x800. -/
abbrev nodeTask (kind : Nat) : Task :=
  { readyTask with st := 4, words := [w64 0x800, w64 (kind * 2 ^ 17), 0, 0, 0, 0, 0, 0], leases := [] }

/-- The machine with that node in place of the placed task, and the words of its action object. -/
abbrev demoNode (kind : Nat) (ws : List Nat) : State :=
  (demo []).writePA 0 0x10800 ((ws.map (bytesOf 8)).flatten) |>.modTask 0 0 (fun _ => nodeTask kind)

/-- An answer that is there and names something. -/
abbrev isSomeOk {α : Type} : Io (Option α) → Bool
  | .ok (some _) => true
  | _ => false

theorem io_some {α : Type} {x : Io (Option α)} (h : isSomeOk x = true) : ∃ a, x = .ok (some a) := by
  match x, h with
  | .ok (some a), _ => exact ⟨a, rfl⟩

/-- An answer that is there and has a property. -/
theorem io_has {α : Type} {p : α → Bool} {x : Io α} (h : (match x with | .ok a => p a | _ => false) = true) : ∃ a, x = .ok a ∧ p a = true := by
  cases x <;> simp at h ⊢; exact h

theorem met_CompassEvents_place :
    (let s := demoTask readyTask
     s.eligible 0 0 readyTask = true ∧ s.isTurn 0 0 readyTask = true ∧ readyTask.kind = 0 ∧ s.placeCore 0 0 readyTask = some 0) ∧
    (let s := demoCard
     (s.eligible 0 0 cardTask = true ∧ s.isTurn 0 0 cardTask = true ∧ s.placeCore 0 0 cardTask = some 0 ∧ cardTask.core = none ∧ s.freeCtx 0 = some 1) ∧
       ∃ c, s.placementCard 0 cardTask = .ok c ∧ (c.isSome && !(s.die 0).compass.gated 0 { cardTask with card := c.getD [] }) = true) ∧
    (let t := { cardTask with subm := some 1, card := [] }
     let s := (demoCard.modTask 0 0 (fun _ => t)).modCompass 0 (fun k => { k with tasks := put 1 { readyTask with st := 4, subm := some 0, card := [⟨3, 0, 65536⟩] } k.tasks })
     (s.eligible 0 0 t = true ∧ s.isTurn 0 0 t = true ∧ (s.placeCore 0 0 t).isSome = true) ∧
       ∃ card, s.placementCard 0 t = .ok card ∧ (s.die 0).compass.gated 0 { t with card := card.getD t.card } = true) ∧
    (∃ r, (demoTask readyTask).place 0 0 readyTask (some 0) = .ok r) ∧
    (let t := { nodeTask 5 with st := 1 }
     let s := demoTask t
     s.eligible 0 0 t = true ∧ s.isTurn 0 0 t = true ∧ t.kind ≠ 0 ∧ ∃ r, s.place 0 0 t none = .ok r) ∧
    (let t := { readyTask with passed := some 0, core := some 0 }
     let s := atTick (demoTask t) 65536
     s.eligible 0 0 t = true ∧ t.passed = some 0 ∧ t.reserved = none ∧ 0 + 2 ^ 16 ≤ s.tick ∧
       t.core.or (if t.affv then some (64 * 0 + t.affcore) else (upFrom (64 * 0) 64).find? (fun c => !s.reservedFor 0 0 c)) = some 0) ∧
    (let t := { readyTask with passed := some 0 }
     let s := atTick (demoTask t) 65536
     t.core.or (if t.affv then some (64 * 0 + t.affcore) else (upFrom (64 * 0) 64).find? (fun c => !s.reservedFor 0 0 c)) = some 0) ∧
    (let t := { readyTask with passed := some 0, words := setAt 1 (readyTask.word 1 ||| w64 (2 ^ 41 + 2 ^ 35)) readyTask.words }
     let s := (atTick (demoTask t) 65536).modCompass 0 (fun k => { k with tasks := put 1 { readyTask with reserved := some 1, card := [] } k.tasks })
     s.eligible 0 0 t = true ∧ s.reservedFor 0 0 1 = true ∧
       t.core.or (if t.affv then some (64 * 0 + t.affcore) else (upFrom (64 * 0) 64).find? (fun c => !s.reservedFor 0 0 c)) = some 1) :=
  ⟨by decide +kernel, ⟨by decide +kernel, io_has (by decide +kernel)⟩,
    ⟨by decide +kernel, io_has (by decide +kernel)⟩, io_ok (by decide +kernel),
    ⟨by decide +kernel, by decide +kernel, by decide +kernel, io_ok (by decide +kernel)⟩, by decide +kernel, by decide +kernel, by decide +kernel⟩

/-- Two answers one after the other that are both there. -/
theorem io_bind {α β : Type} {x : Io α} {f : α → Io β} (h : isOk (x.bind f) = true) : ∃ a, x = .ok a ∧ ∃ b, f a = .ok b := by
  cases x with
  | ok a => exact ⟨a, rfl, io_ok h⟩
  | _ => cases h

theorem met_CompassEvents_launch :
    (let s := (demoTask grantedTask).modCtx 0 (fun c => { c with life := .reserved, task := some 0 })
     grantedTask.st = 3 ∧ (∀ l ∈ grantedTask.leases, l.stage = 2) ∧ grantedTask.kind = 0 ∧ grantedTask.core = some 0 ∧
      (upFrom (4 * 0) 4).find? (fun g => (s.ctx g).life == Life.reserved && (s.ctx g).task == some 0) = some 0 ∧
      s.graph? 0 grantedTask.graph = some placedGraph ∧ ∃ r, (if grantedTask.restore then s.resume 0 0 0 grantedTask else s.launch 0 0 0 grantedTask placedGraph) = .ok r) ∧
    ((grantedTask.restore = false ∧ grantedTask.loadFaults = false ∧ placedGraph.disabled = false) ∧ ∃ w, (demoTask grantedTask).readWindows 0 placedGraph.wset = .ok w) ∧
    (let s := (demoTask grantedTask).modGraph 0 0 (fun _ => { placedGraph with disabled := true })
     s.graph? 0 grantedTask.graph = some { placedGraph with disabled := true }) ∧
    (let t := { nodeTask 5 with st := 3 }; t.st = 3 ∧ (∀ l ∈ t.leases, l.stage = 2) ∧ t.kind ≠ 0) ∧
    (let t := { readyTask with st := 3, leases := [⟨0, false, 3⟩] }
     let s := demoTask t
     t.st = 3 ∧ t.core = none ∧ t.leases.any (fun l => l.stage == 3) = true ∧ ∃ s1, s.endRecord 0 0 2 = .ok s1 ∧ ∃ r, (s1.closeTask 0 0).graphDone 0 t.graph = .ok r) := by
  refine ⟨⟨by decide +kernel, by decide +kernel, by decide +kernel, by decide +kernel, by decide +kernel, by decide +kernel, io_ok (by decide +kernel)⟩,
    ⟨by decide +kernel, io_ok (by decide +kernel)⟩, by decide +kernel,
    by decide +kernel, by decide +kernel, by decide +kernel, by decide +kernel, ?_⟩
  exact io_bind (x := (demoTask { readyTask with st := 3, leases := [⟨0, false, 3⟩] }).endRecord 0 0 2)
    (f := fun x => (x.closeTask 0 0).graphDone 0 0) (by decide +kernel)

/-- An answer that is the one given. -/
theorem io_eq {α : Type} [DecidableEq α] {x : Io α} {a : α} (h : (match x with | .ok b => decide (b = a) | _ => false) = true) : x = .ok a := by
  cases x <;> simp at h ⊢; exact h

theorem met_CompassEvents_leave :
    (let t := { placedTask with ctx := none, stop := some .ended }
     let s := demoTask t
     t.stop = some .ended ∧ t.kind = 0 ∧ s.leftDone 0 0 t = true ∧ t.st ≠ 7 ∧ ∃ r, s.writeBack 0 0 t .ended = .ok r) ∧
    (let s := demoNode 3 [0]; s.graph? 0 (nodeTask 3).graph = some placedGraph ∧ (nodeTask 3).nodeRuns 3 = true ∧ ∃ r, s.conditional 0 0 (nodeTask 3) placedGraph = .ok r) ∧
    (let s := demoNode 5 []; (nodeTask 5).nodeRuns 5 = true ∧ ∃ r, s.writeBack 0 0 (nodeTask 5) .ended = .ok r) ∧
    (let s := demoNode 4 [0]
     (nodeTask 4).nodeRuns 4 = true ∧ (s.unitWords 0 (nodeTask 4).object 1).orElse [w64 (2 ^ 63)] = .ok [0] ∧
       ∃ r, (if bits (wordN [(0 : W64)] 0) 63 10 = 0 then s.toRing 0 (bits (wordN [(0 : W64)] 0) 9 0) 1
         [(nodeTask 4).word 4, (nodeTask 4).word 5, (nodeTask 4).word 6, w64 (nodeTask 4).ia] else s).writeBack 0 0 (nodeTask 4) .ended = .ok r) :=
  ⟨⟨by decide +kernel, by decide +kernel, by decide +kernel, by decide +kernel, io_ok (by decide +kernel)⟩,
    ⟨by decide +kernel, by decide +kernel, io_ok (by decide +kernel)⟩, ⟨by decide +kernel, io_ok (by decide +kernel)⟩,
    ⟨by decide +kernel, io_eq (by decide +kernel), io_ok (by decide +kernel)⟩⟩

theorem met_CompassEvents_writeBack :
    (let t := { saveTask with ctx := none, stop := some .yield }
     let s := demoTask t
     t.stop = some .yield ∧ s.leftDone 0 0 t = true ∧ t.st ≠ 7 ∧ t.core = some 0 ∧ parkedOf (s.core 0).index.parked 0 (2 ^ 63) = [] ∧ t.save ≠ 0 ∧
       find? 6 t.faults = none ∧ ∃ s0, (s.reportOutlived 0 t).unitStore 0 (t.save + 0xD08) (pendingImage t.faults) = .ok s0 ∧
         ∃ s1, s0.unitStore 0 t.ia (t.image 1) = .ok s1) ∧
    (let t := { placedTask with ctx := none, stop := some .ended }
     let s := demoTask t
     t.kind = 0 ∧ s.leftDone 0 0 t = true ∧ t.st ≠ 7 ∧ t.core = some 0 ∧ parkedOf (s.core 0).index.parked 0 (2 ^ 63) = [] ∧ t.faults = [] ∧ t.succ = 0 ∧
       ∃ s1, s.unitStore 0 t.ia (t.image 6) = .ok s1 ∧
         ∃ r, ((s1.modTask 0 0 (fun t => { t with st := 6, slot := 0, suspended := false, passed := none, reserved := none })).closeTask 0 0).runEvent 0 t.graph [] = .ok r) := by
  refine ⟨⟨by decide +kernel, by decide +kernel, by decide +kernel, by decide +kernel, by decide +kernel, by decide +kernel, by decide +kernel, io_bind (by decide +kernel)⟩,
    by decide +kernel, by decide +kernel, by decide +kernel, by decide +kernel, by decide +kernel, by decide +kernel, by decide +kernel, ?_⟩
  exact io_bind (x := (demoTask { placedTask with ctx := none, stop := some .ended }).unitStore 0 _ _)
    (f := fun x => ((x.modTask 0 0 (fun t => { t with st := 6, slot := 0, suspended := false, passed := none, reserved := none })).closeTask 0 0).runEvent 0 _ [])
    (by decide +kernel)

/-- The words of a copy node of 64 bytes from IA 0x400 to IA 0x1800. -/
abbrev nodeWords : List W64 := [0x400, 0x1800, w64 (2 ^ 60), 64, 0, 0, 0, 0]

theorem met_CompassEvents_copy :
    let s := demoNode 1 (nodeWords.map BitVec.toNat)
    (nodeTask 1).nodeRuns 1 = true ∧ (s.channel (64 * 0) 2).cmds.length < 16 ∧ (s.channel (64 * 0) 2).cmds.any (fun q => q.2.tag.u == 0) = false ∧ s.unitWords 0 (nodeTask 1).object 8 = .ok nodeWords ∧ descKind nodeWords ≠ 2 ∧
      ∃ m, (s.nodeTag 0 0 (nodeTask 1)).2.nodeCopy 0 (nodeTask 1) (s.nodeTag 0 0 (nodeTask 1)).1 nodeWords = some m :=
  ⟨by decide +kernel, by decide +kernel, by decide +kernel, io_eq (by decide +kernel), by decide +kernel, some_ok (by decide +kernel)⟩

theorem met_CompassEvents_refill :
    let g := { placedGraph with queue := [0] }
    let s := (demoTask { readyTask with slot := 0 }).modGraph 0 0 (fun _ => g)
    let k := (s.die 0).compass
    (k.graphs.filter (fun g => decide (k.lastRefill < g.1)) ++ k.graphs.filter (fun g => decide (g.1 ≤ k.lastRefill))).find? (fun g => k.frontSlot g.2 != 0) = some (0, g) ∧
      g.queue = [0] ∧ g.blocked = [] := by decide +kernel

/-- A collective node of group 7, not launched yet or running with a number, and the words of a reduction of 64 bytes of a kind. -/
abbrev collNode (st : Nat) (number : Option Nat) : Task := { nodeTask 2 with st := st, number := number }
abbrev collWords (kind : Nat) : List W64 := [7 + w64 (kind * 2 ^ 16) + 0x22 * 2 ^ 24, 0x400, 0x1800, 64, 0, 0, 0, 0]
abbrev demoCollNode (t : Task) (kind : Nat) (g : Grp) : State :=
  ((demoNode 2 ((collWords kind).map BitVec.toNat)).modTask 0 0 (fun _ => t)).modColl 0 (fun c => { c with grps := [(7, g)] })

/-- An answer that is there and names nothing. -/
theorem io_none {α : Type} {x : Io (Option α)} (h : (match x with | .ok none => true | _ => false) = true) : x = .ok none := by
  match x, h with
  | .ok none, _ => rfl

theorem met_CompassEvents_collective :
    (∀ g ∈ [demoGroup none, demoGroup (some 0), { demoGroup none with v := false }],
      let t := collNode 3 none
      let s := demoCollNode t 1 g
      t.st = 3 ∧ t.leases = [] ∧ s.graph? 0 t.graph = some placedGraph ∧ placedGraph.disabled = false ∧ t.kind = 2 ∧ s.grp 0 (cdGrp (collWords 1)) = g) ∧
    (demoCollNode (collNode 3 none) 1 (demoGroup none)).unitWords 0 (bits ((collNode 3 none).word 0) 51 0) 8 = .ok (collWords 1) ∧
    (let t := collNode 4 (some 0)
     let s := demoCollNode t 1 (demoGroup none)
     (t.nodeRuns 2 = true ∧ collectives (s.die 0).coll.queue < 64 ∧ (s.die 0).coll.queue.any (fun q => q.2.tag.u == 0 && q.2.node) = false ∧ collWords 1 ≠ [] ∧
       t.number = some 0) ∧ s.unitWords 0 t.object 8 = .ok (collWords 1) ∧
       ∃ m, (s.nodeTag 0 0 t).2.nodeCollective 0 t (s.nodeTag 0 0 t).1 (collWords 1) = .ok (some m)) ∧
    (let t := collNode 4 (some 0)
     let s := demoCollNode t 0 (demoGroup none)
     s.unitWords 0 t.object 8 = .ok (collWords 0) ∧ (s.nodeTag 0 0 t).2.nodeCollective 0 t (s.nodeTag 0 0 t).1 (collWords 0) = .ok none) :=
  ⟨by decide +kernel, io_eq (by decide +kernel), ⟨by decide +kernel, io_eq (by decide +kernel), io_some (by decide +kernel)⟩,
    io_eq (by decide +kernel), io_none (by decide +kernel)⟩

/-- The tag of a command of the placed context. -/
abbrev demoTag : Tag := ((demo []).newTag placedTask 0 0).1

/-- A linear copy of 64 bytes from IA 0x400 to IA 0x1800, with some units done. -/
abbrev demoCopyCmd (run : Bool) (pos : Nat) (fault : Option (Nat × Nat)) : CopyCmd :=
  { tag := demoTag, node := false, words := nodeWords, sbase := 0x400, dbase := 0x1800, ssd := 0, dsd := 0, sfmt := 0, sgeo := 0, dfmt := 0, dgeo := 0,
    dlo := 0x1800, dlen := 64, run := run, pos := pos, ahead := [], cred := pos, fault := fault }

/-- The machine with that copy, number 9, in channel 0; its page may be missing. -/
abbrev demoChannel (m : CopyCmd) : State := (demo []).modCore 0 (fun k => { k with copy0 := { k.copy0 with cmds := [(9, m)] } })

/-- An answer that fails, or that names two numbers and a state. -/
abbrev isFail {α : Type} (p : Used → Bool) : Io α → Bool
  | .fail _ _ u => p u
  | _ => false

theorem io_fail {α : Type} {p : Used → Bool} {x : Io α} (h : isFail p x = true) : ∃ a b c, x = .fail a b c ∧ p c = true := by
  match x, h with
  | .fail a b c, h => exact ⟨a, b, c, rfl, h⟩

theorem met_EngineEvents_copy :
    (let m := demoCopyCmd false 0 none
     let s := demoChannel m
     (s.channel 0 0).cmds.find? (fun q => !q.2.run) = some (9, m) ∧ m.node = false ∧ s.cmdHeld m.tag = false) ∧
    (let m := demoCopyCmd true 0 none
     let s := demoChannel m
     find? 9 (s.channel 0 0).cmds = some m ∧ m.run = true ∧ m.fault = none ∧ m.done = false ∧ copyBehind (s.channel 0 0) 9 m = false ∧
       (∃ u, s.copyUnit m = .ok u) ∧ descKind m.words = 1 ∧ s.sideRead m 0x400 32 = .ok (List.replicate 32 0) ∧ ∃ r, s.sideWrite m 0x1800 (List.replicate 32 0) = .ok r) ∧
    (let m := { demoCopyCmd true 0 none with sbase := 0x20000 }
     let s := demoChannel m
     m.done = false ∧ copyBehind (s.channel 0 0) 9 m = false ∧ (∃ sb at_ used, s.copyUnit m = .fail sb at_ used ∧ (!((s.use used).channel 0 0).flt) = true)) ∧
    ((demoCopyCmd true 64 none).fault = none ∧ (demoCopyCmd true 64 none).done = true) ∧ (demoCopyCmd true 0 (some (2, 0x400))).fault = some (2, 0x400) :=
  ⟨by decide +kernel, ⟨by decide +kernel, by decide +kernel, by decide +kernel, by decide +kernel, by decide +kernel, io_ok (by decide +kernel),
      by decide +kernel, io_eq (by decide +kernel), io_ok (by decide +kernel)⟩,
    ⟨by decide +kernel, by decide +kernel, io_fail (p := fun u => !(((demoChannel { demoCopyCmd true 0 none with sbase := 0x20000 }).use u).channel 0 0).flt) (by decide +kernel)⟩, by decide +kernel, rfl⟩

/-- A Survey command of the placed context, its sketch sent to the owner, and the answer. -/
abbrev demoSurveyCmd (op av bv : Nat) (sent : Option (List Byte)) (answer : Option (Option Nat)) : SurveyCmd :=
  { tag := demoTag, op := op, av := w64 av, bv := w64 bv, ia := 0x1000, total := 64, sent := sent, answer := answer }

/-- The machine with that command, number 9, and the header of an empty sketch of k = 2 and f32 at scratchpad 0x4000 and at IA 0x1000. -/
abbrev demoSurvey (m : SurveyCmd) : State :=
  (((demo []).spadWrite 0 placedTask 0x4028 [0, 2, 0x22, 0]).writePA 0 0x11028 [0, 2, 0x22, 0]).modCore 0 (fun k => { k with survey := [(9, m)] })

/-- What a command of Survey comes to: 0 it completes with a value, 1 it faults, 2 it is sent to the owner. -/
abbrev ranKind : Ran → Nat
  | .ok _ _ => 0
  | .fault _ _ _ => 1
  | .send _ => 2
  | .wait _ => 3

theorem ran_ok {x : Ran} (h : ranKind x = 0) : ∃ v r, x = .ok v r := by
  cases x <;> simp [ranKind] at h; exact ⟨_, _, rfl⟩

theorem ran_fault {x : Ran} (h : ranKind x = 1) : ∃ a b c, x = .fault a b c := by
  cases x <;> simp [ranKind] at h; exact ⟨_, _, _, rfl⟩

theorem ran_send {x : Ran} (h : ranKind x = 2) : ∃ bs, x = .send bs := by
  cases x <;> simp [ranKind] at h; exact ⟨_, rfl⟩

theorem met_EngineEvents_survey :
    (let m := demoSurveyCmd 0x09 0 (2 ^ 29) none none
     let s := demoSurvey m
     (s.core 0).survey.find? (fun q => q.2.sent.isNone) = some (9, m) ∧ s.cmdHeld m.tag = false ∧ (s.core 0).tapRows = [] ∧
       s.task? (dieOfCore 0) m.tag.u = some placedTask ∧ ∃ v r, s.surveyRun placedTask m = .ok v r) ∧
    (∃ a b c, (demoSurvey (demoSurveyCmd 0x0C 0x3000 0 none none)).surveyRun placedTask (demoSurveyCmd 0x0C 0x3000 0 none none) = .fault a b c) ∧
    (∃ bs, (demoSurvey (demoSurveyCmd 0x0B 0x4000 0 none none)).surveyRun placedTask (demoSurveyCmd 0x0B 0x4000 0 none none) = .send bs) :=
  ⟨⟨by decide +kernel, by decide +kernel, by decide +kernel, by decide +kernel, ran_ok (by decide +kernel)⟩, ran_fault (by decide +kernel), ran_send (by decide +kernel)⟩

abbrev isWrite : OneWrite → Bool
  | .ok _ => true
  | _ => false

theorem write_ok {x : OneWrite} (h : isWrite x = true) : ∃ r, x = .ok r := by
  match x, h with
  | .ok r, _ => exact ⟨r, rfl⟩

theorem met_EngineEvents_owner :
    (let m := demoSurveyCmd 0x0B 0x4000 0 (some []) none
     let s := demoSurvey m
     s.sentSurvey 9 = some (0, m) ∧ m.answer = none ∧ s.placeOf (dieOfCore 0) m.ia (s.cmdEnts m.tag) = .at_ 0 ∧ s.canUpdate 0 (dieOfCore 0) m.ia (s.cmdEnts m.tag) = true ∧
       s.myTurn 0 m.ia (dieOfCore 0) 9 = true ∧ s.checkAt 0 m.ia .store = .ok 0x11000 leaf ∧
       bitN m.tag.wen (leafKey leaf) = true ∧ s.badAt 0 0x11000 4096 = none ∧ sketchOk (s.readPA 0 0x11000 4096) = true ∧
       ∃ r, s.writeOne (dieOfCore 0) m.ia ((sketchOf (s.readPA 0 0x11000 4096) s.free).merge (sketchOf (m.sent.getD []) 0)).image .store m.tag.wen (s.cmdEnts m.tag)
         = .ok r) ∧
    (∀ a ∈ [none, some 3],
      let m := demoSurveyCmd 0x0B 0x4000 0 (some []) (some a); (demoSurvey m).sentSurvey 9 = some (0, m) ∧ m.answer = some a) :=
  ⟨⟨by decide +kernel, by decide +kernel, by decide +kernel, by decide +kernel, by decide +kernel, by decide +kernel, by decide +kernel, by decide +kernel,
    by decide +kernel, write_ok (by decide +kernel)⟩,
    by decide +kernel⟩

/-- The machine with a tap of the placed task at scratchpad 0x4000, and a row that it has accepted. -/
abbrev demoTap (dc : Bool) : State :=
  (demoSurvey (demoSurveyCmd 0 0 0 (some []) none)).modCore 0 (fun k =>
    { k with tap := some ⟨demoTag, dc, if dc then 0x8000 else 0x4000, false⟩, tapRows := [(5, [0x3F800000])], array := { k.array with holder := some 0 } })

theorem met_EngineEvents_tap :
    ∀ dc : Bool,
      let s := demoTap dc
      (s.core 0).tapRows = [(5, [0x3F800000])] ∧ s.task? (dieOfCore 0) demoTag.u = some placedTask ∧
        (let p : Tap := ⟨demoTag, dc, if dc then 0x8000 else 0x4000, false⟩
         let u := s.modCore 0 (fun k => { k with tapRows := [] })
         let old := u.spadRead 0 placedTask p.off 4096
         (s.core 0).tap = some p ∧ (s.core 0).array.holder = some p.tag.u ∧ u.spadBad 0 placedTask p.off 4096 = false ∧ (if dc then dcOk old = true else sketchOk old = true)) := by decide +kernel

/-- A command of the state store of the placed context, and the machine with it as number 9. -/
abbrev demoStCmd (op av bv : Nat) : StCmd := { tag := demoTag, op := op, av := w64 av, bv := w64 bv, total := 8 }
abbrev demoStQueue (m : StCmd) : State :=
  (demo []).modStore 0 (fun x => { x with ctl := w64 (2 ^ 63 + 65535), size := 64, queue := [(9, m)], slots := [(3, ⟨0xF000, 0, 1, false, 1, [], [⟨7, false, []⟩]⟩)] })

/-- What a command of the store comes to: 0 a value, 1 a value and bytes for the scratchpad. -/
abbrev stKind : StRan → Nat
  | .ok _ _ none => 0
  | .ok _ _ (some _) => 1
  | _ => 2

theorem st_ok {x : StRan} (h : stKind x = 0) : ∃ v y, x = .ok v y none := by
  match x, h with
  | .ok v y none, _ => exact ⟨v, y, rfl⟩

theorem st_bytes {x : StRan} (h : stKind x = 1) : ∃ v y off bs, x = .ok v y (some (off, bs)) := by
  match x, h with
  | .ok v y (some (off, bs)), _ => exact ⟨v, y, off, bs, rfl⟩

theorem met_EngineEvents_store :
    (let m := demoStCmd 0x1B 3 0
     let s := demoStQueue m
     (s.die 0).store.next = some (9, m) ∧ s.task? 0 m.tag.u = some placedTask ∧ m.commits = false ∧ ∃ v y, s.storeRun 0 placedTask m = .ok v y none) ∧
    (let m := demoStCmd 0x19 3 0x1000
     let s := demoStQueue m
     (s.die 0).store.next = some (9, m) ∧ m.commits = false ∧ ∃ v y off bs, s.storeRun 0 placedTask m = .ok v y (some (off, bs))) :=
  ⟨⟨by decide +kernel, by decide +kernel, by decide +kernel, st_ok (by decide +kernel)⟩, by decide +kernel, by decide +kernel, st_bytes (by decide +kernel)⟩

/-- A command of the index engine of the placed context: one element of 4 bytes, its index at 0x1000, its data at 0x1400. -/
abbrev demoIdxCmd (op av bv next : Nat) (els : Map Elem) : IdxCmd :=
  { tag := demoTag, slot := 0, op := op, word := 0, av := w64 av, bv := w64 bv, desc := [0, 0x1000, 0x1400, 0], z := 4, next := next, els := els, left := 1,
    cred := 0, lost := false }

/-- The machine with that command, number 9. -/
abbrev demoIndex (m : IdxCmd) : State := (demo []).modCore 0 (fun k => { k with index := { k.index with queue := [(9, m)] } })

/-- An element that reaches IA 0x400, with the cause found at its issue and its old bit. -/
abbrev demoElem (fault : Option Nat) (ans : Option Bool) : Elem := ⟨0, 0, 0x400, 0x400, demoTag, fault, ans⟩

abbrev elemKind : ElemRan → Nat
  | .ok _ => 0
  | .fault _ _ => 1
  | .wait _ => 2

theorem elem_ok {x : ElemRan} (h : elemKind x = 0) : ∃ r, x = .ok r := by
  match x, h with
  | .ok r, _ => exact ⟨r, rfl⟩

theorem elem_fault {x : ElemRan} (h : elemKind x = 1) : ∃ a used, x = .fault a used := by
  cases x <;> simp [elemKind] at h; exact ⟨_, _, rfl⟩

abbrev isAtomic : OneAtomic → Bool
  | .ok _ _ => true
  | _ => false

theorem atomic_ok {x : OneAtomic} (h : isAtomic x = true) : ∃ old r, x = .ok old r := by
  match x, h with
  | .ok old r, _ => exact ⟨old, r, rfl⟩

theorem met_EngineEvents_elements :
    (let m := demoIdxCmd 0x28 0 0 0 []
     let s := demoIndex m
     find? 9 (s.core 0).index.queue = some m ∧ s.task? (dieOfCore 0) m.tag.u = some placedTask ∧ m.element = true ∧ m.next < ixCnt m.desc ∧
       indexFirst (s.core 0).index.queue 9 = true ∧ s.cmdHeld m.tag = false ∧ s.portRoom 0 m.reach = true ∧
       (s.modIdx 0 9 (fun m => { m with next := m.next + 1 })).badIndex placedTask m m.next = false) ∧
    (let x := demoElem none none
     let m := demoIdxCmd 0x28 0 0 1 [(0, x)]
     let s := demoIndex m
     find? 0 m.els = some x ∧ s.cmdHeld x.tag = false ∧ elementBehind (s.core 0).index.queue m x = false ∧ m.element = true ∧
       (∃ r, s.elementRun placedTask m 0 x = .ok r) ∧ ∃ bs, s.cmdRead x.tag x.ia (ixSize m.desc) = .ok bs) ∧
    (let x := demoElem none none
     let m := demoIdxCmd 0x29 0 0 1 [(0, x)]
     let s := demoIndex m
     elementBehind (s.core 0).index.queue m x = false ∧
       ∃ bs, s.cmdSpad placedTask (ixData m.desc + 0 * ixStride m.op m.desc) (ixStride m.op m.desc) = .ok bs ∧ ∃ r, s.cmdWrite x.tag x.ia bs = .ok r) ∧
    (let x := demoElem (some 5) none
     let m := demoIdxCmd 0x28 0 0 1 [(0, x)]
     let s := demoIndex m
     m.element = true ∧ m.op ≠ 0x29 ∧ elementBehind (s.core 0).index.queue m x = false ∧ ∃ cause used, s.elementRun placedTask m 0 x = .fault cause used) ∧
    (let x := demoElem none none
     let m := demoIdxCmd 0x33 0x1000 0 1 [(0, x)]
     let s := demoIndex m
     m.element = false ∧ x.fault = none ∧ x.ans = none ∧ elementBehind (s.core 0).index.queue m x = false ∧ ∃ old r, s.testAndSet x = .ok old r) :=
  ⟨by decide +kernel, ⟨by decide +kernel, by decide +kernel, by decide +kernel, by decide +kernel, elem_ok (by decide +kernel), io_ok (by decide +kernel)⟩,
    ⟨by decide +kernel, io_bind (x := (demoIndex (demoIdxCmd 0x29 0 0 1 [(0, demoElem none none)])).cmdSpad placedTask _ _)
      (f := fun bs => (demoIndex (demoIdxCmd 0x29 0 0 1 [(0, demoElem none none)])).cmdWrite demoTag 0x400 bs) (by decide +kernel)⟩,
    ⟨by decide +kernel, by decide +kernel, by decide +kernel, elem_fault (by decide +kernel)⟩,
    ⟨by decide +kernel, by decide +kernel, by decide +kernel, by decide +kernel, atomic_ok (by decide +kernel)⟩⟩

theorem met_EngineEvents_lists :
    (∀ op ∈ [0x2B, 0x2C, 0x2D, 0x30], ∀ bv ∈ [0, 1],
      let m := demoIdxCmd op 0x1000 bv 0 []
      let s := demoIndex m
      m.element = false ∧ (m.op ≠ 0x33 ∨ m.next ≠ 1) ∧ indexFirst (s.core 0).index.queue 9 = true ∧ s.cmdHeld m.tag = false ∧ (m.bv = 0 ↔ bv = 0)) ∧
    (let x := demoElem none (some true)
     let m := demoIdxCmd 0x33 0x1000 0 1 [(0, x)]
     let t := { placedTask with lists := [(0x1000, bytesOf 8 (2 ^ 63 + 0x1400) ++ List.replicate 60 0)] }
     let s := ((demoIndex m).spadWrite 0 placedTask 0x1000 (bytesOf 8 (2 ^ 63 + 0x1400))).modTask 0 0 (fun _ => t)
     find? 0 m.els = some x ∧ x.ans = some true ∧ m.els.all (fun y => decide (0 ≤ y.1)) = true ∧
       ∃ w, s.workList t (wnHdr m.av) = some w ∧ w.brk = false) := by
  refine ⟨by decide +kernel, by decide +kernel, by decide +kernel, by decide +kernel, ?_⟩
  exact ⟨⟨true, false, false, 0, 0, 0x1400, 0, 0, 0, 0, 0, 0, 0, 0⟩, by decide +kernel, rfl⟩

/-- An array instruction of the placed context, and the array of its core with that instruction, number 9, in front. -/
abbrev demoArrayCmd (op : Nat) (run : Bool) (beat : Nat) : ArrayCmd :=
  { tag := demoTag, op := op, word := 0, av := 0, bv := 0, ctl := 0, img := [], reads := [], rows := [(0, true)], old := [], run := run, beat := beat }
abbrev demoArrayRun (m : ArrayCmd) (preempt : Option Bool) : State :=
  ((demo []).modCtx 0 (fun c => { c with preempt := preempt })).modCore 0 (fun k => { k with array := { k.array with holder := some 0, conf := true, queue := [(9, m)] } })

theorem met_EngineEvents_array :
    (∀ op ∈ [0, 4, 7, 8, 9, 10],
      let m := demoArrayCmd op false 0
      let s := demoArrayRun m none
      (s.core 0).array.queue.head? = some (9, m) ∧ (s.core 0).array.holder = some 0 ∧ s.task? (dieOfCore 0) 0 = some placedTask ∧ (s.core 0).array.paused = false ∧
        m.run = false ∧ s.arrayRuns 0 placedTask = true ∧ s.rowsAwaited placedTask m = false) ∧
    (let m := demoArrayCmd 8 false 0
     stg m.ctl 3 = false ∧ stg m.ctl 4 = false ∧ ((demoArrayRun m none).core 0).array.drainBad m = false ∧ m.reads = []) ∧
    (∀ p ∈ [none, some true, some false],
      let m := demoArrayCmd 7 true 128
      let s := demoArrayRun m p
      (s.core 0).array.queue.head? = some (9, m) ∧ m.run = true ∧ m.beat < cmdBeats m.op m.av ∧ placedTask.ctx = some 0 ∧ (s.ctx 0).preempt = p) ∧
    ((demoArrayCmd 7 true 255).run = true ∧ cmdBeats 7 0 ≤ (demoArrayCmd 7 true 255).beat ∧ cmdBeats 0 0 ≤ (demoArrayCmd 0 true 0).beat) ∧
    (let s := (demo []).modCore 0 (fun k => { k with array := { k.array with holder := some 0, rel := true } })
     (s.core 0).array.rel = true ∧ (s.core 0).array.queue = [] ∧ (s.core 0).tapRows = [] ∧ (s.core 0).array.holder = some 0 ∧
       s.task? (dieOfCore 0) 0 = some placedTask ∧ placedTask.closing = false) := by
  refine ⟨by decide +kernel, by decide +kernel, by decide +kernel, by decide +kernel, by decide +kernel⟩

/-- The placed machine with group 7, whose receive region of 4 KiB is at IA 0x2000, and an open stream with a row to write. -/
abbrev demoRegion : State :=
  (((demo []).modPort 0 3 (fun p => { p with up := true })).modColl 0 (fun c => { c with grps := [(7, { demoGroup (some 0) with region := some (0x2000, 4096) })] })).modCore 0 (fun k =>
    { k with streams := [(1, ⟨demoTag, 0, false, 7, 0, 0, 8, 1, [(0, demoTag, List.replicate 512 0)]⟩)] })

theorem met_EngineEvents_stream :
    let s := demoRegion
    let q : Stream := ⟨demoTag, 0, false, 7, 0, 0, 8, 1, [(0, demoTag, List.replicate 512 0)]⟩
    find? 1 (s.core 0).streams = some q ∧ q.rows = [(0, demoTag, List.replicate 512 0)] ∧ s.cmdHeld demoTag = false ∧
      s.regionAt (dieOfCore 0) q.grp q.rank (q.off + 512 * (0 % q.cap)) 512 = some 0x2000 ∧ ∃ r, s.cmdWrite demoTag 0x2000 (List.replicate 512 0) = .ok r :=
  ⟨by decide +kernel, rfl, by decide +kernel, by decide +kernel, io_ok (by decide +kernel)⟩

/-- A collective command of the placed context for group 7, and the machine with it as number 9. -/
abbrev demoColCmd (op phase pos : Nat) (ws : List W64) : ColCmd :=
  { ColCmd.blank demoTag op 0 0 0 7 (demoGroup (some 0)) with
    sig := ⟨1, 0, 0x22, false, 64, 0, 0⟩, ws := ws, sbase := 0x1000, dbase := 0x1800, ssp := true, dsp := true, phase := phase, pos := pos }
abbrev demoColQueue (m : ColCmd) : State :=
  demoRegion.modColl 0 (fun c => { c with queue := [(9, m)] })

/-- The words of a transfer of 64 bytes to or from rank 0. -/
abbrev putWords : List W64 := [7, w64 (2 ^ 63 + 0x1000), 0, 64]

/-- A unit of n bytes is done. -/
abbrev isNPair (n : Nat) : Io (Nat × State) → Bool
  | .ok (k, _) => k == n
  | _ => false

theorem met_CollectiveEvents_commands :
    (∀ rej : Bool,
      let m := { demoColCmd 0x3B 0 0 [] with rej := rej }
      let s := demoColQueue m
      s.colNext 0 = some (9, m) ∧ m.rej = rej ∧ m.op ≠ 0x38 ∧ m.op ≠ 0x36) ∧
    (∀ op ∈ [0x39, 0x3A],
      let m := demoColCmd op 1 0 putWords
      let s := demoColQueue m
      find? 9 (s.die 0).coll.queue = some m ∧ m.phase = 1 ∧ m.fault = none ∧ m.pos < tdLen m.ws ∧ s.cmdHeld m.tag = false ∧ s.transferBehind 0 9 m = false ∧
        isNPair 32 (s.transferUnit 0 m) = true) ∧
    (let m := demoColCmd 0x3B 1 0 []
     let s := demoColQueue m
     numbered m.op = true ∧ m.phase = 1 ∧ m.fault = none ∧ m.sig.kind ≠ 3 ∧ s.linked 0 = true ∧ s.releasable m.tag = true ∧ s.cmdHeld m.tag = false ∧ ∃ p, s.payload m = .ok p) ∧
    (let m := { demoColCmd 0x3B 1 0 [] with ssp := false, sbase := 0x20000 }
     let s := demoColQueue m
     s.releasable m.tag = true ∧ s.cmdHeld m.tag = false ∧ ∃ sub at_ used, s.payload m = .fail sub at_ used ∧ true = true) ∧
    (let m := { demoColCmd 0x3B 1 0 [] with sig := ⟨3, 0, 0x22, false, 64, 0, 0⟩ }
     let s := demoColQueue m
     numbered m.op = true ∧ m.phase = 1 ∧ m.fault = none ∧ m.sig.kind = 3 ∧ m.axis = none ∧ s.releasable m.tag = true ∧ s.cmdHeld m.tag = false ∧
       ∃ p, s.payload m = .ok p) ∧
    (let m := { demoColCmd 0x3B 2 0 [] with got := [(0, ⟨0, false, [], 0, []⟩)] }
     let s := demoColQueue m
     s.colDone m = true ∧ m.node = false ∧ m.sta = none ∧ m.op ≠ 0x3E ∧ m.op ≠ 0x3F ∧ m.ending = none ∧ m.op ≠ 0x39 ∧ m.op ≠ 0x3A) ∧
    (let m := { demoColCmd 0x3B 3 0 [] with fault := some 1 }
     let s := demoColQueue m
     s.colDone m = true ∧ m.node = false ∧ m.sta = none ∧ m.ending = some 1) :=
  ⟨by decide +kernel, by decide +kernel,
    ⟨by decide +kernel, by decide +kernel, by decide +kernel, by decide +kernel, by decide +kernel, by decide +kernel, by decide +kernel, io_ok (by decide +kernel)⟩,
    ⟨by decide +kernel, by decide +kernel, io_fail (p := fun _ => true) (by decide +kernel)⟩,
    ⟨by decide +kernel, by decide +kernel, by decide +kernel, by decide +kernel, by decide +kernel, by decide +kernel, by decide +kernel, io_ok (by decide +kernel)⟩, by decide +kernel, by decide +kernel⟩

/-- A contribution to group 7 on its way to the slot of its block, or an answer to die 0; and the slot it finds. -/
abbrev demoColMsg (up : Bool) : ColMsg :=
  { grp := 7, seq := 0, chunk := 0, n := 2, sub := ⟨0, 1, 2⟩, gather := false, tmo := 4096, sig := ⟨1, 0, 0x22, false, 64, 0, 0⟩, up := up, tier := 1, block := 0, idx := 0, bad := false,
    part := ⟨[(0, 0)], [(0, List.replicate 64 0)], false, []⟩, rank := 0, die := 0, ans := 0, refused := none }
abbrev demoSlot (phase since : Nat) : Machine.Slot :=
  { grp := 7, seq := 0, chunk := 0, tier := 1, block := 0, n := 2, sub := ⟨0, 1, 2⟩, gather := false, tmo := 4096, alloc := 0, sig := ⟨1, 0, 0x22, false, 64, 0, 0⟩, parts := [], phase := phase,
    since := since, late := [], res := none, failed := 0 }

theorem met_CollectiveEvents_slots :
    (∀ bad : Bool, ∀ len ∈ [64, 128], ∀ p ∈ [0, 2],
      let m := { demoColMsg true with bad := bad, sig := ⟨1, 0, 0x22, false, len, 0, 0⟩ }
      let s := { demo [] with colMsgs := [(6, m)], slots := [(2, demoSlot p 0)] }
      find? 6 s.colMsgs = some m ∧ m.up = true ∧ m.refused = none ∧ s.slotFor m = some (2, demoSlot p 0) ∧ (demoSlot p 0).phase ≠ 4 ∧
        m.bad = bad ∧ (m.sig = (demoSlot p 0).sig ↔ len = 64) ∧ (demoSlot p 0).phase = p) ∧
    (let m := { demoColMsg true with refused := some 0 }
     let s := { demo [] with colMsgs := [(6, m)], tick := 64 }
     find? 6 s.colMsgs = some m ∧ m.refused = some 0 ∧ 0 + 64 ≤ s.tick) ∧
    (∀ p ∈ [0, 4],
      let q := demoSlot p 0
      let s := { demo [] with slots := [(2, q)], tick := 4096 }
      find? 2 s.slots = some q ∧ q.alloc + q.tier * q.tmo ≤ s.tick ∧ q.phase = p ∧ q.since = 0) ∧
    (∀ p ∈ [2, 3, 4],
      let q := demoSlot p 5
      let s := { demo [] with slots := [(2, q)], tick := 4101 }
      find? 2 s.slots = some q ∧ q.phase = p ∧ q.since ≠ 0 ∧ q.since + q.tmo ≤ s.tick) ∧
    (let m := demoColCmd 0x3B 2 0 []
     let x := demoColMsg false
     let s := { demoColQueue m with colMsgs := [(6, x)] }
     find? 6 s.colMsgs = some x ∧ x.up = false ∧ s.linked x.die = true ∧
       (s.die x.die).coll.queue.find? (fun q => numbered q.2.op && !q.2.rej && q.2.phase == 2 && q.2.grp == x.grp && q.2.seq == x.seq) = some (9, m) ∧
       ∃ p, ({ s.wake x.die with colMsgs := del 6 s.colMsgs }).colPieces m m.dsp m.dbase true (resultBytes m x) = .ok p) :=
  ⟨by decide +kernel, by decide +kernel, by decide +kernel, by decide +kernel, by decide +kernel, by decide +kernel, by decide +kernel, by decide +kernel,
    io_ok (by decide +kernel)⟩

theorem met_CollectiveEvents_queues :
    (let m : QMsg := ⟨0, 9, 0, 7, 3, 5, some 0⟩
     let s := { demoRegion with qMsgs := [(6, m)], tick := 64 }
     find? 6 s.qMsgs = some m ∧ m.refused = some 0 ∧ 0 + 64 ≤ s.tick) ∧
    (∀ n ∈ [31, 32],
      let m : QMsg := ⟨0, 9, 0, 7, 3, 5, none⟩
      let x := { demoGroup (some 0) with queues := [(3, List.replicate n 0)] }
      let s := { demoRegion.setGrp 0 7 x with qMsgs := [(6, m)] }
      find? 6 s.qMsgs = some m ∧ m.refused = none ∧ (m.src = m.dst ∨ (s.linked m.src = true ∧ s.linked m.dst = true)) ∧
        s.qMsgs.any (fun q => decide (q.1 < 6) && q.2.src == m.src && q.2.dst == m.dst && q.2.grp == m.grp && q.2.q == m.q) = false ∧
        (s.grp m.dst m.grp).v = true ∧ (s.grp m.dst m.grp).member ≠ none ∧ ((getD m.q [] (s.grp m.dst m.grp).queues).length < 32 ↔ n = 31)) := by decide +kernel

theorem met_RegisterEvents :
    (let s := demo []
     Granted s 0 0 0x00 ∧ Granted s 0 0 0x08 ∧ Granted s 0 0 0x20 ∧ Granted s 0 0 0x110 ∧ Granted s 0 0 0x120 ∧ Granted s 0 0 0x100030 ∧ Granted s 0 0 0x200028 ∧
       Granted s 0 0 0x300008 ∧ ∀ i ∈ [1, 2, 3], Granted s 0 (255 / 64) (0x1000000 + 65536 * (255 % 64) + 8 * i)) ∧
    (let s := demo []; (s.pkg (0 / 4)).on = true ∧ s.granted 0 5 0 0x00 8 true = false ∧ s.granted 0 5 0 0x00 8 false = false ∧
       s.granted 0 32 0 0x28 8 false = true ∧ s.granted 0 0 0 0x28 8 false = true) := by decide +kernel

/-- A BAR2 access of 8 bytes at IA 0x400 by function 0, the first of its package, with its die awake. -/
abbrev demoPosted (s : State) (wr : Bool) : State :=
  ((s.modPkg 0 (fun p => { p with posted := [.access 0 0x400 wr 8 5] })).wake 0).wake 0

/-- An answer that waits for something. -/
abbrev isWait : OneWrite → Bool
  | .wait _ => true
  | _ => false

theorem write_wait {x : OneWrite} (h : isWait x = true) : ∃ n, x = .wait n := by
  cases x with
  | wait n => exact ⟨n, rfl⟩
  | _ => cases h

theorem io_wait {α : Type} {x : Io α} (h : (match x with | .wait _ => true | _ => false) = true) : ∃ n, x = .wait n := by
  cases x with
  | wait n => exact ⟨n, rfl⟩
  | _ => cases h

theorem met_PlatformEvents_bar2 :
    ∀ wr : Bool,
      let u := demoPosted (demo []) wr
      let ia := (getD (0 % 16) 0 ((demo []).die 0).apb * 2 ^ 36 + 0x400) % 2 ^ 52
      ((demo []).pkg 0).on = true ∧ 0x400 + 8 ≤ 2 ^ 36 ∧ ((demo []).pkg 0).posted = [] ∧ ia = 0x400 ∧ getD 0 [] ((demo []).pkg 0).fnDeps = [] ∧
        ((demo []).modPkg 0 (fun p => { p with posted := [.access 0 0x400 wr 8 5] })).homeRec? 0 ia = some (0, ⟨0, false, none, false, none⟩) ∧ u.granted 0 0 1 ia 8 wr = true := by decide +kernel

theorem met_PlatformEvents_bar2Write :
    ∃ r, (demoPosted (demo []) true).writeMany 0 (2 ^ 32 - 1) [] ((pagePieces 2 0x400 8).map (fun p => (p.1, (bytesOf 8 5).drop (p.1 - 0x400) |>.take p.2))) = .ok r :=
  write_ok (by decide +kernel)

theorem met_PlatformEvents_bar2Wait :
    ∃ n, (demoPosted ((demo []).modDie 0 (fun k => { k with haCtl := 0 })) true).writeMany 0 (2 ^ 32 - 1) []
      ((pagePieces 2 0x400 8).map (fun p => (p.1, (bytesOf 8 5).drop (p.1 - 0x400) |>.take p.2))) = .wait n := write_wait (by decide +kernel)

/-- An access that must wait, and one behind it. -/
theorem met_PlatformEvents_bar2Order :
    (let s := (demo []).modPkg 0 (fun p => { p with posted := [.access 0 0x400 true 8 5] })
     (s.pkg 0).on = true ∧ 0x500 + 8 ≤ 2 ^ 36 ∧ (s.pkg 0).posted = [.access 0 0x400 true 8 5]) ∧
    ∃ n, (((demo []).modDie 0 (fun k => { k with haCtl := 0 })).modPkg 0 (fun p =>
      { p with posted := [.access 0 0x400 true 8 5, .access 0 0x500 true 8 6] })).runPosted 0 (.access 0 0x400 true 8 5) = .wait n :=
  ⟨by decide +kernel, io_wait (by decide +kernel)⟩

theorem met_PlatformEvents_bar2Read :
    (demoPosted (demo []) false).readMany 0 .load [] (pagePieces 2 0x400 8) = .ok (List.replicate 8 0) 0 [] leaf := by decide +kernel

theorem met_PlatformEvents_bar4 :
    let s := demo []
    (s.pkg 0).on = true ∧ 0x10400 + 8 ≤ 2 ^ 42 ∧ s.granted (4 * 0 + 0x10400 / 2 ^ 40 % 4) (16 * (0 % 2)) 3 0x10400 8 true = true ∧
      s.granted (4 * 0 + 0x10400 / 2 ^ 40 % 4) (16 * (0 % 2)) 3 0x10400 8 false = true := by decide +kernel

theorem met_PlatformEvents_tick : ∀ p, ((demo []).pkg p).posted = [] := fun p => by cases p <;> rfl

/-- An entry that waits for ring 5 of the placed package. -/
abbrev demoEntry : RingEntry := ⟨5, 1, 0, [1, 2, 3, 4]⟩

theorem met_PlatformEvents_rings :
    (let s := (demoRing 0).modPkg 0 (fun p => { p with waiting := [demoEntry] })
     let q := (s.pkg 0).ring 5
     q.en = true ∧ q.full = false ∧ 5 < 1024 ∧ (s.pkg 0).waiting.find? (fun e => e.ring == 5) = some demoEntry ∧
       (s.modPkg 0 (fun p => { p with waiting := p.waiting.erase demoEntry })).entryGranted 0 demoEntry = true) ∧
    (let s := { (demo []).modPkg 0 (fun p => p.setRing 5 ⟨0, w64 (3 * 2 ^ 62), 1, 0, 0, 1, 0⟩) with tick := 4096 }
     ((s.pkg 0).ring 5).pending ≠ 0 ∧ ((s.pkg 0).ring 5).oldest + ((s.pkg 0).ring 5).ctim ≤ s.tick) := by decide +kernel

theorem met_PlatformEvents_others :
    (demo []).idle 1 = true ∧
    (let s := (demo []).modCore 1 (fun k => { k with hashPend := some 5 })
     (s.core 1).hashPend = some 5 ∧ s.allocated 1 = false) ∧
    ((demo []).modPort 0 3 (fun p => { p with up := true }) |>.port 0 3).up = true ∧ ((demo []).pkg 0).on = true ∧
    (((demo []).modPkg 0 (fun p => { p with on := false })).pkg 0).on = false ∧ ((demo []).die 0).recovery = false := by decide +kernel

/-- A well-formed instruction with a header, and the slot for it. -/
theorem met_EncodeDecode : (Instr.loop 1 2 3 7).wf .s0 = true ∧ (⟨2, 0, 0⟩ : Header).wf (.loop 1 2 3 7) = true := by decide

/-- The placed machine about to issue a bundle with one S0 word. -/
abbrev demoIssue (w : Nat) : State := State.reset.withFetchWord 32 w

theorem met_StepRunsDecoded_issue :
    (let s := { demo [] with agenda := [.referenceTick] }; s.agenda = .referenceTick :: [] ∧ Instr.referenceTick.space? = none) ∧
    (let s := demoIssue 0
     let u := s.noteStall (0 / 4)
     s.ready 0 = true ∧ u.selected (0 / 4) = some 0 ∧ (u.ctx 0).issuable = true ∧ keyReads (u.ctx 0).pkr 0 = true ∧
       (match u.bundleAt 0 with | .ok (.bytes _ key _) => key == 0 | _ => false) = true) ∧
    (let s := demoIssue 0; s.agenda = [] ∧ s.cyc < 10) := by
  refine ⟨by decide +kernel, by decide +kernel, by decide +kernel⟩

theorem met_StepRunsDecoded_step :
    let s := demoIssue 0
    (eventTries s).findSome? (changes s) = none ∧ ∃ t, s.busyCores.findSome? s.coreNext = some t := by
  refine ⟨by decide +kernel, some_ok (by decide +kernel)⟩

theorem met_StepRunsDecoded_bundle :
    (let s := demoIssue 0
     let xs := slotsOf (List.replicate 32 0)
     let w := s.considerWait 0 0 (s0Of xs)
     let p := (s.plan 0 0 w [] xs).spilled s 0 0 w [] xs
     xs ≠ [] ∧ (s.ctx 0).suppresses (s0Of xs) = false ∧ s.lowestPending 0 = none ∧ staticCauses xs ++ repeatedDests (s.ctx 0) [] xs = [] ∧
       p.found = [] ∧ s.popCause 0 xs = none) ∧
    (let s := demoIssue 0
     (∀ x ∈ [SlotWord.mk .s0 0x3C000000 (.error .undefinedEncoding), SlotWord.mk .s1 0b0011000_1001_0001000_0010001_0000001 (.error .reservedField)], x.instr? = none ∧ (x.named? = none ↔ x.slot = .s0)) ∧
       s.bun.stop = none ∧ (s.ctx 0).pc.toNat < 2 ^ 57 ∧ (((s.ctx 0).afterBundle (s.ctx 0)).pc.toNat < 2 ^ 57) ∧ (s.ctx 0).levels = []) := by decide +kernel

theorem met_FalseGuard :
    (Instr.add 8 1 2 3).wf .s1 = true ∧ guardOf (.add 8 1 2 3) = some 8 ∧ (inBundle (demo []) 1 0).pre.guardValue 8 = some false ∧
      Ctx.init.pending (128 + (8 : BitVec 4).toNat % 8) = false := by decide +kernel

/-- The placed context with a value in queue latch 0 of its core's member group. -/
theorem met_SourceSpecifier :
    let s := inBundle (demo [(5, 7)]) 1 0
    (5 : BitVec 7).toNat < 86 ∧ s.pre.pending 5 = false ∧ find? 5 s.pre.poison = none ∧
      (inBundle ((demo []).modCtx 0 (fun c => { c with pend := [(5, 9)] })) 1 0).pre.pending 5 = true ∧ (88 : BitVec 7).toNat < 96 := by decide +kernel

theorem met_TrapEntry :
    (let s := (demo []).modCtx 0 (fun c => { c with trap := ⟨0, 0, 0, w64 0x401, 0, 0⟩ })
     let c := s.ctx 0
     (5 : Nat) ≠ 6 ∧ (bit c.trap.cause 8 || !bit c.trap.vec 0) = false) ∧
    (let s := demo []
     let c := s.ctx 0
     c.task = some 0 ∧ s.task? (dieOfCtx 0) 0 = some placedTask ∧ (bit c.trap.cause 8 || !bit c.trap.vec 0) = true) := by decide +kernel

theorem met_ResetState : ((demo []).pkg 0).on = true := by decide +kernel

/-- An outcome that is a next state. -/
abbrev isNext : Host.Outcome State Fault Refusal → Bool
  | .next _ => true
  | _ => false

theorem next_ok {x : Host.Outcome State Fault Refusal} (h : isNext x = true) : ∃ t, x = .next t := by
  match x, h with
  | .next t, _ => exact ⟨t, rfl⟩

theorem met_frames :
    (∃ t, exec (.add 0 3 1 2) (inBundle (demo [(1, 2), (2, 3)]) 1 0) = .next t) ∧ (∃ t, exec (.jmp 1) (inBundle (demo []) 0 0) = .next t) ∧
    (∃ t, exec (.sts 0 1 0x60 0 0) (inBundle (demo [(1, 0x1000)]) 3 0) = .next t) ∧ (∃ t, exec (.vmov 0 0 1 2) (inBundle (demo []) 4 0) = .next t) ∧
    (∃ t, exec (.cpy 0 1 2 255) (inBundle (demo []) 7 0) = .next t) ∧ (∃ t, exec (.gsub 1) (demo [(1, 0x240)]) = .next t) ∧
    (∀ n ∈ [0, 2048],
      let s := demoDeep 0 n true
      (∃ t, exec (.call 1) s = .next t) ∧ s.bun.on = false ∧ shadowDep s.pre.shadowTop = n ∧ s.shadowIA (shadowBlk s.pre.shadowTop) true = .inl 0 ∧
        s.placeOf s.myDie 0 (s.pendingSet s.cur) = .at_ 0 ∧ s.checkAt 0 0 (.spill true) = .ok 0x10000 leaf) ∧
    Claims.local (.jmp 1) = true ∧
    (Instr.add 0 3 1 2).space? = some .scalar ∧ (Instr.jmp 1).space? = some .control ∧ (Instr.sts 0 1 0x60 0 0).space? = some .memory ∧
    (Instr.vmov 0 0 1 2).space? = some .vector0 ∧ (Instr.cpy 0 1 2 255).space? = some .engine ∧
    (let s := inBundle (demo []) 7 0
     s.boundTask s.cur = some placedTask ∧ s.pre.task = s.me.task ∧ 3 ∉ destinations (.jmp 1) ∧ ∀ j, j < 4096 → 5000 ≠ placedTask.spadAddr j) := by
  refine ⟨next_ok (by decide +kernel), next_ok (by decide +kernel), next_ok (by decide +kernel), next_ok (by decide +kernel), next_ok (by decide +kernel),
    next_ok (by decide +kernel), fun n hn => ⟨⟨_, rfl⟩, by revert n; decide +kernel⟩, rfl,
    by decide, by decide, by decide, by decide, by decide, by decide +kernel, by decide +kernel, by decide +kernel, fun j hj => ?_⟩
  simp only [Task.spadAddr]
  have : j / 65536 = 0 := by omega
  simp only [this, placedTask, List.getD_cons_zero]
  omega

theorem met_StoredBytes :
    (let s := demoNear demoMsg 0
     Sent (demoNet demoMsg 0) 9 demoMsg ∧ s.servable demoMsg = true ∧ demoMsg.ia2 = none ∧ demoMsg.kind = .write ∧ s.inSequence demoMsg = true ∧
       s.writeCheck demoMsg = (.ok 0x10400 leaf, none, 0) ∧ demoMsg.data[7]? = some 1) ∧
    (let m := { demoMsg with n := 7, ia2 := some 0x800 }
     let s := demoNear m 0
     Sent (demoNet m 0) 9 m ∧ s.servable m = true ∧ s.inSequence m = true ∧ s.writeCheck m = (.ok 0x10400 leaf, none, 0) ∧
       s.writeCheckAt m 0x800 = (.ok 0x10800 leaf, none, 0)) ∧
    (let m := { demoMsg with n := 7, ia2 := some 0x10400 }
     (match (demoNear m 0).writeCheckAt m 0x10400 with | (.denied _, _, _) => true | _ => false) = true) ∧
    (let m := { demoMsg with kind := .atomic (.amo 64 0 1) }
     let s := demoNear m 0
     s.myTurn m.target m.ia m.origin 9 = true ∧ s.walk m.target m.ia = .leaf 0x4000 false leaf ∧ s.badAt m.target 0x10400 m.n = none) ∧
    (let m := { demoMsg with ia := 0x10400 }
     (demoNear m 0).writeCheck m = (.denied 4, some false, 0)) := by decide +kernel

theorem met_MemoryCanonical : Canonical (demoIssue 0) ∧ ∃ t, step (demoIssue 0) = .next t := ⟨by decide +kernel, next_ok (by decide +kernel)⟩

/-- S0 control words (R60, R61, R70), each field at a value of its own, from the layouts of the spec. -/
theorem test_decode_s0 :
    ([
    (0b000000_00000011_00_000_0000000000000, .nop), (0b000001_00000011_00_000_1000100110101, .jmp 4405),
    (0b000010_00000011_00_000_101_1010100101, .jmpc 5 677), (0b000011_00000011_00_000_000000_0010101, .jmpi 21),
    (0b000100_00000011_00_000_100001_0101000, .jmpt 33 40), (0b000101_00000011_00_000_1000100110101, .jmpm 4405),
    (0b000110_00000011_00_000_1000100110101, .call 4405), (0b000111_00000011_00_000_000000_0010101, .calli 21),
    (0b001000_00000011_00_000_0000000000000, .ret), (0b001001_00000011_10_101_10011_10100101, .loop 2 5 19 165),
    (0b001010_00000011_10_101_10011_10100101, .loopi 2 5 19 165), (0b001011_00000011_00_000_0000000000_101, .lbrk 5),
    (0b001100_00000011_00_000_0000000000_101, .wait 5), (0b001101_00000011_00_000_00000_10100101, .trap 165),
    (0b001110_00000011_00_000_00000_10100101, .brk 165), (0b010000_00000011_00_000_100_000_0010101, .spawn 4 21),
    (0b010001_00000011_00_000_0000000000000, .suspend), (0b010010_00000011_00_000_0000000000000, .yield),
    (0b010011_00000011_00_000_0000000000000, .endTask), (0b010100_00000011_00_000_000_101_0001000, .tld 5 8),
    (0b010101_00000011_00_000_000_101_0010101, .tst 5 21), (0b111000_00000011_00_000_0000000000000, .eret),
    (0b111001_00000011_00_000_100001_0001000, .sysr 33 8), (0b111010_00000011_00_000_100001_0010101, .sysw 33 21),
    (0b111011_00000011_00_000_0000000000000, .halt), (0b111100_00000011_00_000_000000_0010101, .gsub 21)] : List (BitVec 32 × Instr)).all (fun p => (decodeWord .s0 p.1).toOption == some p.2) = true := by decide +kernel

/-- S1 and S2 scalar words (R62, R63, R71), each field at a value of its own, from the layouts of the spec. -/
theorem test_decode_s1 :
    ([
    (0b00000000000000000000000000000000, .nopScalar), (0b0000001_1001_0001000_0010001_0100010, .add 9 8 17 34),
    (0b0000010_1001_0001000_0010001_0100010, .sub 9 8 17 34), (0b0000011_1001_0001000_0010001_0100010, .mul 9 8 17 34),
    (0b0000100_1001_0001000_0010001_0100010, .mulh 9 8 17 34), (0b0000101_1001_0001000_0010001_0100010, .mulhn 9 8 17 34),
    (0b0000110_1001_0001000_0010001_0100010, .div 9 8 17 34), (0b0000111_1001_0001000_0010001_0100010, .divn 9 8 17 34),
    (0b0001000_1001_0001000_0010001_0100010, .and 9 8 17 34), (0b0001001_1001_0001000_0010001_0100010, .or 9 8 17 34),
    (0b0001010_1001_0001000_0010001_0100010, .xor 9 8 17 34), (0b0001011_1001_0001000_0010001_0100010, .andn 9 8 17 34),
    (0b0001100_1001_0001000_0010001_0100010, .shl 9 8 17 34), (0b0001101_1001_0001000_0010001_0100010, .shr 9 8 17 34),
    (0b0001110_1001_0001000_0010001_0100010, .sra 9 8 17 34), (0b0010000_1001_0001000_0010001_0100010, .min 9 8 17 34),
    (0b0010001_1001_0001000_0010001_0100010, .max 9 8 17 34), (0b0010010_1001_0001000_0010001_0100010, .minn 9 8 17 34),
    (0b0010011_1001_0001000_0010001_0100010, .maxn 9 8 17 34), (0b0010100_1001_0110_101_0010001_0100010, .cmp 9 6 5 17 34),
    (0b0010101_0110_0001000_0010001_0100010, .sel 6 8 17 34), (0b0010110_1001_0001000_10000100110101, .li 9 8 8501),
    (0b0010111_1001_0001000_10000100110101, .lih 9 8 8501), (0b0011000_1001_0001000_0010001_0000000, .clz 9 8 17),
    (0b0011001_1001_0001000_0010001_0000000, .ctz 9 8 17), (0b0011010_1001_0001000_0010001_0000000, .popc 9 8 17),
    (0b0011011_1001_0001000_0010001_0100010, .bext 9 8 17 34), (0b0011100_1001_0001000_0010001_0100010, .bins 9 8 17 34),
    (0b0100000_1001_0001000_0010001_0100010, .addsh1 9 8 17 34), (0b0100001_1001_0001000_0010001_0100010, .addsh2 9 8 17 34),
    (0b0100010_1001_0001000_0010001_0100010, .addsh3 9 8 17 34), (0b0100011_1001_0001000_0010001_0100010, .addsh5 9 8 17 34),
    (0b0100100_1001_0000_101_0000_101_0000_101, .pand 9 5 5 5), (0b0100101_1001_0000_101_0000_101_0000_101, .por 9 5 5 5),
    (0b0100110_1001_0000_101_0000_101_0000000, .pnot 9 5 5), (0b0110000_1001_0001000_0010001_0100010, .faddF32 9 8 17 34),
    (0b0110001_1001_0001000_0010001_0100010, .fsubF32 9 8 17 34), (0b0110010_1001_0001000_0010001_0100010, .fmulF32 9 8 17 34),
    (0b0110011_1001_0001000_0010001_0100010, .ffmaF32 9 8 17 34), (0b0110100_1001_0110_101_0010001_0100010, .fcmpF32 9 6 5 17 34),
    (0b0110101_1001_0001000_0010001_011_0110, .fcvt 9 8 17 3 6), (0b0111000_1001_0001000_0010001_0100010, .faddF64 9 8 17 34),
    (0b0111001_1001_0001000_0010001_0100010, .fsubF64 9 8 17 34), (0b0111010_1001_0001000_0010001_0100010, .fmulF64 9 8 17 34),
    (0b0111011_1001_0001000_0010001_0100010, .ffmaF64 9 8 17 34), (0b0111100_1001_0110_101_0010001_0100010, .fcmpF64 9 6 5 17 34)] : List (BitVec 32 × Instr)).all (fun p => (decodeWord .s1 p.1).toOption == some p.2) = true := by decide +kernel

/-- S3 memory words (R64, R65), each field at a value of its own, from the layouts of the spec. -/
theorem test_decode_s3 :
    ([
    (0b00000000000000000000000000000000, .nopMemory), (0b000001_1001_0001000_0100010_10100101, .ldB 9 8 34 165),
    (0b000010_1001_0001000_0100010_10100101, .ldH 9 8 34 165), (0b000011_1001_0001000_0100010_10100101, .ldW 9 8 34 165),
    (0b000100_1001_0001000_0100010_10100101, .ldD 9 8 34 165), (0b000101_1001_0001000_0100010_10100101, .ldQ 9 8 34 165),
    (0b000110_1001_0001000_0100010_10100101, .ldO 9 8 34 165), (0b001000_1001_0001000_0100010_10100101, .ldnB 9 8 34 165),
    (0b001001_1001_0001000_0100010_10100101, .ldnH 9 8 34 165), (0b001010_1001_0001000_0100010_10100101, .ldnW 9 8 34 165),
    (0b001011_1001_0001000_0100010_10100101, .ldWAcq 9 8 34 165), (0b001100_1001_0001000_0100010_10100101, .ldDAcq 9 8 34 165),
    (0b010000_1001_0001000_0100010_10100101, .stB 9 8 34 165), (0b010001_1001_0001000_0100010_10100101, .stH 9 8 34 165),
    (0b010010_1001_0001000_0100010_10100101, .stW 9 8 34 165), (0b010011_1001_0001000_0100010_10100101, .stD 9 8 34 165),
    (0b010100_1001_0001000_0100010_10100101, .stQ 9 8 34 165), (0b010101_1001_0001000_0100010_10100101, .stO 9 8 34 165),
    (0b010110_1001_0001000_0100010_10100101, .stWRel 9 8 34 165), (0b010111_1001_0001000_0100010_10100101, .stDRel 9 8 34 165),
    (0b011000_1001_0001000_0100010_10100101, .ldroW 9 8 34 165), (0b011001_1001_0001000_0100010_10100101, .ldroD 9 8 34 165),
    (0b011010_1001_0001000_0100010_10100101, .ldroQ 9 8 34 165), (0b011011_1001_0001000_0100010_10100101, .ldroO 9 8 34 165),
    (0b011100_1001_0001000_0100010_10100101, .stncD 9 8 34 165), (0b011101_1001_0001000_0100010_10100101, .stncQ 9 8 34 165),
    (0b011110_1001_0001000_0100010_10100101, .stncO 9 8 34 165), (0b100000_1001_0001000_0100010_10_100001, .lds 9 8 34 2 33),
    (0b100001_1001_0001000_0100010_10_100001, .sts 9 8 34 2 33), (0b100010_1001_0001011_0100010_011_1_0110, .vld 9 11 34 3 1 6),
    (0b100011_1001_0001011_0100010_011_1_0110, .vst 9 11 34 3 1 6), (0b100100_1001_0001011_0100010_10100101, .vlds 9 11 34 165),
    (0b100101_1001_0001011_0100010_10100101, .vsts 9 11 34 165), (0b101000_1001_0001000_0100010_0110_10_10, .amoW 9 8 34 6 2 2),
    (0b101001_1001_0001000_0100010_0110_10_10, .amoD 9 8 34 6 2 2), (0b101010_1001_0001000_0100010_0000_10_10, .casW 9 8 34 2 2),
    (0b101011_1001_0001000_0100010_0000_10_10, .casD 9 8 34 2 2), (0b101100_1001_0001000_0100010_0000000_1, .xadd 9 8 34 1),
    (0b101101_1001_0001000_0100010_0000000_1, .xget 9 8 34 1), (0b110000_1001_00000000000000_001_00_011, .fence 9 1 3),
    (0b110001_1001_0000000_0100010_10100101, .prf 9 34 165), (0b110010_1001_0001000_000000000000000, .probe 9 8)] : List (BitVec 32 × Instr)).all (fun p => (decodeWord .s3 p.1).toOption == some p.2) = true := by decide +kernel

/-- S4 vector words (R66), each field at a value of its own, from the layouts of the spec. -/
theorem test_decode_s4 :
    ([
    (0b00000000000000000000000000000000, .nopVector0), (0b000001_101_10_0001000_0010001_0100010, .vadd 5 2 8 17 34),
    (0b000010_101_10_0001000_0010001_0100010, .vsub 5 2 8 17 34), (0b000011_101_10_0001000_0010001_0100010, .vmul 5 2 8 17 34),
    (0b000100_101_10_0001000_0010001_0100010, .vfma 5 2 8 17 34), (0b000101_101_10_0001000_0010001_0100010, .vfms 5 2 8 17 34),
    (0b000110_101_10_0001000_0010001_0100010, .vmin 5 2 8 17 34), (0b000111_101_10_0001000_0010001_0100010, .vmax 5 2 8 17 34),
    (0b001000_101_10_0001000_0010001_0000000, .vabs 5 2 8 17), (0b001001_101_10_0001000_0010001_0000000, .vneg 5 2 8 17),
    (0b001010_101_10_0001000_0010001_0100010, .vclamp 5 2 8 17 34), (0b001011_101_10_0001000_0010001_0100010, .vand 5 2 8 17 34),
    (0b001100_101_10_0001000_0010001_0100010, .vor 5 2 8 17 34), (0b001101_101_10_0001000_0010001_0100010, .vxor 5 2 8 17 34),
    (0b001110_101_10_0001000_0010001_0100010, .vshl 5 2 8 17 34), (0b001111_101_10_0001000_0010001_0100010, .vshr 5 2 8 17 34),
    (0b010000_101_10_0001000_0010001_0100010, .vsra 5 2 8 17 34), (0b010001_101_10_0110_101_0010001_0100010, .vcmp 5 2 6 5 17 34),
    (0b010010_101_10_0001000_0010001_0100010, .vsel 5 2 8 17 34), (0b010011_101_10_0001000_0010001_0000000, .vmov 5 2 8 17),
    (0b010100_101_10_0001000_0000000_0100010, .vbcs 5 2 8 34), (0b010101_101_10_0001000_00000000000000, .vlane 5 2 8),
    (0b100001_101_10_0001000_0010001_0100010, .vaddS 5 2 8 17 34), (0b100010_101_10_0001000_0010001_0100010, .vsubS 5 2 8 17 34),
    (0b100011_101_10_0001000_0010001_0100010, .vmulS 5 2 8 17 34), (0b100100_101_10_0001000_0010001_0100010, .vfmaS 5 2 8 17 34),
    (0b100101_101_10_0001000_0010001_0100010, .vfmsS 5 2 8 17 34), (0b100110_101_10_0001000_0010001_0100010, .vminS 5 2 8 17 34),
    (0b100111_101_10_0001000_0010001_0100010, .vmaxS 5 2 8 17 34), (0b101010_101_10_0001000_0010001_0100010, .vclampS 5 2 8 17 34),
    (0b101011_101_10_0001000_0010001_0100010, .vandS 5 2 8 17 34), (0b101100_101_10_0001000_0010001_0100010, .vorS 5 2 8 17 34),
    (0b101101_101_10_0001000_0010001_0100010, .vxorS 5 2 8 17 34), (0b101110_101_10_0001000_0010001_0100010, .vshlS 5 2 8 17 34),
    (0b101111_101_10_0001000_0010001_0100010, .vshrS 5 2 8 17 34), (0b110000_101_10_0001000_0010001_0100010, .vsraS 5 2 8 17 34),
    (0b110001_101_10_0110_101_0010001_0100010, .vcmpS 5 2 6 5 17 34), (0b110010_101_10_0001000_0010001_0100010, .vselS 5 2 8 17 34)] : List (BitVec 32 × Instr)).all (fun p => (decodeWord .s4 p.1).toOption == some p.2) = true := by decide +kernel

/-- S5 vector words (R66), each field at a value of its own, from the layouts of the spec. -/
theorem test_decode_s5 :
    ([
    (0b00000000000000000000000000000000, .nopVector1), (0b000001_101_10_0001000_0010001_0000000, .vexp 5 2 8 17),
    (0b000010_101_10_0001000_0010001_0000000, .vlog 5 2 8 17), (0b000011_101_10_0001000_0010001_0000000, .vtanh 5 2 8 17),
    (0b000100_101_10_0001000_0010001_0000000, .vsig 5 2 8 17), (0b000101_101_10_0001000_0010001_0000000, .vgelu 5 2 8 17),
    (0b000110_101_10_0001000_0010001_0000000, .vsilu 5 2 8 17), (0b000111_101_10_0001000_0010001_0000000, .vrsqrt 5 2 8 17),
    (0b001000_101_10_0001000_0010001_0000000, .vsqrt 5 2 8 17), (0b001001_101_10_0001000_0010001_0000000, .vrcp 5 2 8 17),
    (0b001010_101_10_0001000_0010001_0000000, .vrcpe 5 2 8 17), (0b001011_101_10_0001000_0010001_0100010, .vrcpn 5 2 8 17 34),
    (0b001100_101_10_0001000_0010001_0000000, .vrsqe 5 2 8 17), (0b001101_101_10_0001000_0010001_0100010, .vrsqn 5 2 8 17 34),
    (0b001110_101_10_0001000_0010001_1_100001, .vcvt 5 2 8 17 1 33), (0b001111_101_10_0001000_0010001_0100010, .vperm 5 2 8 17 34),
    (0b010000_101_10_0001000_0010001_0100010, .vslide 5 2 8 17 34), (0b010001_101_10_0001000_0010001_0000000, .vsort 5 2 8 17),
    (0b010010_101_10_0001000_0010001_0000000, .vred 5 2 8 17), (0b010011000_10_00000000000_101_0000000, .mpush 2 5),
    (0b010100000_10_000000000000000000000, .minv 2), (0b010101000_10_000000000000000000000, .mpop 2),
    (0b010110000_10_000_0_101_0010001_0000000, .mset 2 0 5 17), (0b010111000_10_0001000_000_0_101_0000000, .mget 2 8 0 5),
    (0b110000_101_10_0001000_0010001_0100010, .vslideS 5 2 8 17 34)] : List (BitVec 32 × Instr)).all (fun p => (decodeWord .s5 p.1).toOption == some p.2) = true := by decide +kernel

/-- S6 array words (R67), each field at a value of its own, from the layouts of the spec. -/
theorem test_decode_s6 :
    ([
    (0b00000000000000000000000000000000, .nopArray), (0b000001_1001_0010001_0100010_00000000, .mcfg 9 17 34),
    (0b000010_1001_0010001_00000000000_0110, .cpl 9 17 6), (0b000011_1001_0010001_0000000_1_0000000, .mld 9 17 1),
    (0b000100_1001_0010001_0100010_1_0000000, .mmk 9 17 34 1), (0b000101_1001_0010001_0100010_1_0000000, .mmc 9 17 34 1),
    (0b000110_1001_0010001_0100010_1_00000_10, .msp 9 17 34 1 2), (0b000111_1001_0010001_000000000000000, .mdp 9 17),
    (0b001000_1001_0010001_0100010_0010101_0, .mdr 9 17 34 21), (0b001001_1001_0010001_0100010_0010101_0, .mstr 9 17 34 21),
    (0b001010_1001_0000000000000000000000, .mzero 9), (0b001011_1001_0010001_0100010_00000000, .mtab 9 17 34),
    (0b001100_1001_0010001_0100010_1_1_1_00000, .mhist 9 17 34 1 1 1), (0b001101_1001_0010001_0000000_10_100001, .mbind 9 17 2 33),
    (0b001110_1001_0010001_000000000000000, .mst 9 17), (0b001111_1001_0000000000000000000000, .mfence 9)] : List (BitVec 32 × Instr)).all (fun p => (decodeWord .s6 p.1).toOption == some p.2) = true := by decide +kernel

/-- S7 engine words (R68), each field at a value of its own, from the layouts of the spec. -/
theorem test_decode_s7_a :
    ([
    (0b00000000000000000000000000000000, .nopEngine), (0b000001_1001_0010001_0100010_10100101, .cpy 9 17 34 165),
    (0b000010_1001_0010001_0100010_10100101, .cpyt 9 17 34 165), (0b000011_1001_0010001_0100010_10100101, .cpyx 9 17 34 165),
    (0b000100_1001_0010001_0100010_10100101, .cpyc 9 17 34 165), (0b000101_1001_0010001_0100010_10100101, .barm 9 17 34 165),
    (0b000110_1001_0010001_0000000_10100101, .barr 9 17 165), (0b000111_1001_0010001_000000011111111, .bq 9 17),
    (0b001000_1001_0010001_0100010_10100101, .qinit 9 17 34 165), (0b001001_1001_0010001_0100010_10100101, .qadd 9 17 34 165),
    (0b001010_1001_0010001_0100010_10100101, .qmerge 9 17 34 165), (0b001011_1001_0010001_0100010_10100101, .qmergeat 9 17 34 165),
    (0b001100_1001_0010001_0100010_10100101, .qquery 9 17 34 165), (0b001101_1001_0010001_0100010_10100101, .mmerge 9 17 34 165),
    (0b010000_1001_0010001_0000000_10100101, .hinit 9 17 165), (0b010001_1001_0010001_0100010_10100101, .hadd 9 17 34 165),
    (0b010010_1001_0010001_0100010_10100101, .hmerge 9 17 34 165), (0b010011_1001_0010001_0100010_10100101, .htop 9 17 34 165),
    (0b010100_1001_0010001_0100010_10100101, .dinit 9 17 34 165), (0b010101_1001_0010001_0100010_10100101, .dadd 9 17 34 165),
    (0b010110_1001_0010001_0100010_10100101, .dmerge 9 17 34 165), (0b010111_1001_0010001_0000000_10100101, .dest 9 17 165),
    (0b011000_1001_0010001_0100010_10100101, .stopen 9 17 34 165), (0b011001_1001_0010001_0100010_10100101, .stld 9 17 34 165),
    (0b011010_1001_0010001_0100010_10100101, .stst 9 17 34 165), (0b011011_1001_0010001_0000000_10100101, .stmark 9 17 165),
    (0b011100_1001_0010001_0100010_10100101, .stback 9 17 34 165), (0b011101_1001_0010001_0100010_10100101, .stfork 9 17 34 165),
    (0b011110_1001_0010001_0100010_10100101, .stpin 9 17 34 165), (0b011111_1001_0010001_0000000_10100101, .stclose 9 17 165),
    (0b100000_1001_0010001_0100010_11111111, .stq 9 17 34), (0b100001_1001_0010001_0100010_10100101, .mig 9 17 34 165),
    (0b100010_1001_0010001_0100010_11111111, .pkset 9 17 34), (0b100011_1001_0010001_000000011111111, .own 9 17),
    (0b100100_1001_0010001_0100010_10100101, .ocinv 9 17 34 165), (0b100101_1001_00000000000000_10100101, .lrenew 9 165),
    (0b100110_1001_0010001_0100010_10100101, .hnote 9 17 34 165), (0b100111_1001_0010001_0000000_10100101, .hintr 9 17 165),
    (0b101000_1001_0010001_0000000_10100101, .gath 9 17 165), (0b101001_1001_0010001_0000000_10100101, .scat 9 17 165),
    (0b101010_1001_0010001_0000000_10100101, .scata 9 17 165), (0b101011_1001_0010001_0100010_10100101, .fqread 9 17 34 165),
    (0b101100_1001_0010001_000000011111111, .frep 9 17), (0b101101_1001_0010001_0100010_11111111, .fdrop 9 17 34),
    (0b110000_1001_0010001_0100010_10100101, .wlnew 9 17 34 165), (0b110001_1001_0010001_0000000_10100101, .wlpush 9 17 165),
    (0b110010_1001_0010001_0000000_10100101, .wlpop 9 17 165), (0b110011_1001_0010001_0100010_10100101, .wlins 9 17 34 165)] : List (BitVec 32 × Instr)).all (fun p => (decodeWord .s7 p.1).toOption == some p.2) = true := by decide +kernel

/-- S7 engine words (R68), each field at a value of its own, from the layouts of the spec. -/
theorem test_decode_s7_b :
    ([
    (0b110100_1001_0010001_000000011111111, .wlstat 9 17), (0b110110_1001_0010001_0100010_10100101, .cqsend 9 17 34 165),
    (0b110111_1001_0010001_0100010_11111111, .cst 9 17 34), (0b111000_1001_0010001_0100010_10100101, .copen 9 17 34 165),
    (0b111001_1001_0010001_0000000_10100101, .cput 9 17 165), (0b111010_1001_0010001_0000000_10100101, .cget 9 17 165),
    (0b111011_1001_0010001_0000000_10100101, .cred 9 17 165), (0b111100_1001_0010001_0000000_10100101, .cxf 9 17 165),
    (0b111101_1001_0010001_0000000_10100101, .cbar 9 17 165), (0b111110_1001_0010001_0000000_10100101, .csmp 9 17 165),
    (0b111111_1001_0010001_0100010_10100101, .cstr 9 17 34 165)] : List (BitVec 32 × Instr)).all (fun p => (decodeWord .s7 p.1).toOption == some p.2) = true := by decide +kernel

-- One step each, with results worked out from the rule named ----------------------------------------------------------------------

/-- A field of the next state. -/
abbrev after {α : Type} (f : State → α) : Host.Outcome State Fault Refusal → Option α
  | .next t => some (f t)
  | _ => none

/-- R170: the sum is modulo 2^64. -/
theorem test_add_wraps : after (fun t => t.me.reg 3) (exec (.add 0 3 1 2) (inBundle (demo [(1, 2 ^ 64 - 1), (2, 3)]) 1 0)) = some 2 := by decide +kernel

/-- R170: −1 × 2 is negative, so the high word of mulh is all ones; mulhn reads the same bits as 2^64 − 1. -/
theorem test_mulh_signs :
    after (fun t => t.me.reg 3) (exec (.mulh 0 3 1 2) (inBundle (demo [(1, 2 ^ 64 - 1), (2, 2)]) 1 0)) = some (BitVec.allOnes 64) ∧
    after (fun t => t.me.reg 3) (exec (.mulhn 0 3 1 2) (inBundle (demo [(1, 2 ^ 64 - 1), (2, 2)]) 1 0)) = some 1 := by decide +kernel

/-- R170: −2^63 / −1 gives −2^63, and −7 / 2 truncates to −3; a divisor of 0 raises 0x0B. -/
theorem test_div :
    after (fun t => t.me.reg 3) (exec (.div 0 3 1 2) (inBundle (demo [(1, 2 ^ 63), (2, 2 ^ 64 - 1)]) 1 0)) = some 0x8000000000000000 ∧
    after (fun t => t.me.reg 3) (exec (.div 0 3 1 2) (inBundle (demo [(1, 2 ^ 64 - 7), (2, 2)]) 1 0)) = some (BitVec.ofInt 64 (-3)) ∧
    after (fun t => t.bun.trap.map (·.1)) (exec (.div 0 3 1 2) (inBundle (demo [(1, 5), (2, 0)]) 1 0)) = some (some 0x0B) := by decide +kernel

/-- R170: with s3 = 0xD0 then 0x340000, the last lih of its example gives 0x0000_000D_0000_03E8. -/
theorem test_lih_example : after (fun t => t.me.reg 3) (exec (.lih 0 3 0x3E8) (inBundle (demo [(3, 0xD0 * 2 ^ 14)]) 1 0)) = some 0xD000003E8 := by decide +kernel

/-- R49: the guard 8 is the inverse of p0, so the slot has no effect. -/
theorem test_guard_false : after (fun t => t.me.reg 3) (exec (.add 8 3 1 2) (inBundle (demo [(1, 1), (2, 1), (3, 9)]) 1 0)) = some 9 := by decide +kernel

/-- R172, R87: 1.0 + 2^−24 ties to even, 1.0. -/
theorem test_fadd_ties : after (fun t => t.me.reg 3) (exec (.faddF32 0 3 1 2) (inBundle (demo [(1, 0x3F800000), (2, 0x33800000)]) 1 0)) = some 0x3F800000 := by
  decide +kernel

/-- R154: a jump of −1 bundle from VA 0x100 goes to 0xE0. -/
theorem test_jmp : after (fun t => t.me.pc) (exec (.jmp (-1)) (inBundle (demo []) 0 0)) = some 0xE0 := by decide +kernel

/-- R207, R182: a word stored to scratchpad with a size field of 0 and an offset of 1 lands 4 bytes above the base. -/
theorem test_sts : after (fun t => cellGet (t.core 0).spad 0x1004) (exec (.sts 0 2 1 0 1) (inBundle (demo [(1, 0x1000), (2, 0xAB)]) 3 0)) = some 0xAB := by decide +kernel

/-- R236: a masked or partial write aside, a row becomes valid with its first write, and vmov of an invalid row writes zeros. -/
theorem test_vmov : after (fun t => (t.core 0).row 1) (exec (.vmov 0 0 1 2) (inBundle (demo []) 4 0)) = some 0 := by decide +kernel

/-- R162: cause 0x08 enters the handler at trap.vec with act set. -/
theorem test_trap_entry :
    let s := (demo []).modCtx 0 (fun c => { c with trap := ⟨0, 0, 0, 0x401, 0, 0⟩ })
    ((s.takeTrap 0 8 0x100 7).ctx 0).pc = 0x400 ∧ ((s.takeTrap 0 8 0x100 7).ctx 0).trap.cause = 0x108 ∧ ((s.takeTrap 0 8 0x100 7).ctx 0).trap.pc = 0x100 := by
  decide +kernel

/-- R46: an undefined opcode raises 0x01 at its step: nothing of the bundle is kept. -/
theorem test_undefined_opcode :
    after (fun t => (t.ctx 0).trap.cause) (exec (.bundleIssue 0)
      ((State.reset.withFetchWord 32 0x3C000000).modCtx 0 (fun c => { c with trap := ⟨0, 0, 0, 0x401, 0, 0⟩ }))) = some 0x101 := by decide +kernel

/-- R173: the rounding field of an exact conversion is ignored, its code 4 too; 1.0 in f32 gives 1.0 in f64. -/
theorem test_fcvt_exact : after (fun t => t.me.reg 3) (exec (.fcvt 0 3 1 4 0) (inBundle (demo [(1, 0x3F800000)]) 1 0)) = some 0x3FF0000000000000 := by
  decide +kernel

-- Ill-formed instructions, one for each check -------------------------------------------------------------------------------------

theorem smoke_space : (Instr.add 0 8 1 2).wf .s3 = false ∧ Instr.referenceTick.wf .s0 = false := by decide
theorem smoke_source : (Instr.add 0 8 86 2).wf .s1 = false ∧ (Instr.vaddS 0 0 3 2 87).wf .s4 = false := by decide
theorem smoke_destination : (Instr.add 0 96 1 2).wf .s1 = false ∧ (Instr.ldD 0 86 3 0).wf .s3 = false := by decide
theorem smoke_group : (Instr.ldQ 0 9 3 0).wf .s3 = false ∧ (Instr.ldO 0 10 3 0).wf .s3 = false ∧ (Instr.xget 0 12 3 1).wf .s3 = false := by decide
theorem smoke_sized : (Instr.lds 0 9 3 2 0).wf .s3 = false ∧ (Instr.sts 0 10 3 3 0).wf .s3 = false := by decide
theorem smoke_level : (Instr.loop 0 6 0 0).wf .s0 = false ∧ (Instr.lbrk 7).wf .s0 = false := by decide
theorem smoke_predicate : (Instr.pand 0 0 1 2).wf .s1 = false ∧ (Instr.vcmp 0 0 0 0 1 2).wf .s4 = false := by decide
theorem smoke_condition : (Instr.cmp 0 10 1 2 3).wf .s1 = false ∧ (Instr.fcmpF32 0 8 1 2 3).wf .s1 = false := by decide
theorem smoke_pair : (Instr.spawn 3 2).wf .s0 = false := by decide
theorem smoke_rounding : (Instr.vld 0 3 2 5 0 0).wf .s3 = false ∧ (Instr.fcvt 0 8 1 4 1).wf .s1 = false := by decide
theorem smoke_record_word : (Instr.tst 0 8).wf .s0 = false := by decide
theorem smoke_system_register : (Instr.sysr 0x16 8).wf .s0 = false ∧ (Instr.sysw 0x37 8).wf .s0 = false := by decide
theorem smoke_lane_type : (Instr.vcvt 0 0 4 2 0 0x3F).wf .s5 = false := by decide
theorem smoke_atomic : (Instr.amoW 0 8 2 9 0 0).wf .s3 = false := by decide
theorem smoke_fence : (Instr.fence 0 3 0).wf .s3 = false ∧ (Instr.fence 0 0 5).wf .s3 = false := by decide
theorem smoke_handle : (Instr.barm 0 1 2 255).wf .s7 = false := by decide
theorem smoke_reserved : (Instr.mset 0 1 3 4).wf .s5 = false := by decide
theorem smoke_header : (⟨0, 1, 6⟩ : Header).wf .nop = false ∧ (⟨0, 0, 1⟩ : Header).wf .nop = false ∧ (⟨0, 1, 1⟩ : Header).wf (.loop 1 2 3 7) = false := by decide

end Sys2Proof.Tests
end

section
/-! SUPPORT. What a package cold reset leaves (R9, R452): the registers that it clears, the boot of a die, and the statement ResetState. -/

namespace Sys2Proof.Machine

-- Maps filtered by key ----------------------------------------------------------------------------------------------------------

/-- The entry of a key in a map of which the keys that meet `p` are kept. -/
theorem find?_filter_key {α : Type} (p : Nat → Bool) (k : Nat) (m : Map α) :
    find? k (m.filter (fun q => p q.1)) = if p k then find? k m else none := by
  induction m with
  | nil => simp
  | cons q m ih =>
    obtain ⟨j, a⟩ := q
    by_cases e : j = k
    · subst e
      by_cases hp : p j = true
      · simp [hp, find?]
      · simpa [hp] using ih
    · by_cases hp : p j = true
      · simp [hp, find?, e, ih]
      · simp [hp, find?, e, ih]

theorem getD_filter_key {α : Type} (p : Nat → Bool) (k : Nat) (d : α) (m : Map α) :
    getD k d (m.filter (fun q => p q.1)) = if p k then getD k d m else d := by
  unfold getD
  rw [find?_filter_key]
  cases p k <;> rfl

-- The registers of a package cleared (R9) ---------------------------------------------------------------------------------------

theorem State.ctx_clearPkg (s : State) (pk g : Nat) : (s.clearPkg pk).ctx g = if g / 1024 = pk then Ctx.init else s.ctx g := by
  show getD g Ctx.init (s.ctxs.filter (fun q => q.1 / 1024 != pk)) = _
  rw [getD_filter_key (fun k => k / 1024 != pk)]
  by_cases e : g / 1024 = pk <;> simp [e, State.ctx]

theorem State.core_clearPkg (s : State) (pk c : Nat) : (s.clearPkg pk).core c = if c / 256 = pk then Core.init else s.core c := by
  show getD c Core.init (s.cores.filter (fun q => q.1 / 256 != pk)) = _
  rw [getD_filter_key (fun k => k / 256 != pk)]
  by_cases e : c / 256 = pk <;> simp [e, State.core]

theorem State.die_clearPkg_other (s : State) {pk d : Nat} (e : d / 4 ≠ pk) : (s.clearPkg pk).die d = s.die d := by
  show getD d Die.init (s.dies.filter (fun q => q.1 / 4 != pk)) = _
  rw [getD_filter_key (fun k => k / 4 != pk)]
  simp [e, State.die]

-- The boot of a die (R452) --------------------------------------------------------------------------------------------------------

/-- A boot writes the die's digest and whether it is in recovery, and tells the management controller of a failure. -/
theorem State.boot_cases (s : State) (d : Nat) : ∃ f r,
    let t := s.modDie d (fun k => { k with firstStage := f, recovery := r })
    s.boot d = t ∨ ∃ report, s.boot d = t.modPkg (d / 4) report := by
  unfold State.boot
  dsimp only
  split
  · exact ⟨_, _, .inr ⟨_, rfl⟩⟩
  · exact ⟨_, _, .inl rfl⟩

/-- What a boot keeps: the contexts, the cores, the memory and the clock. -/
abbrev State.keeps (s t : State) : Prop := t.ctxs = s.ctxs ∧ t.cores = s.cores ∧ t.mem = s.mem ∧ t.tick = s.tick

theorem State.boot_keeps (s : State) (d : Nat) : s.keeps (s.boot d) := by
  obtain ⟨f, r, e | ⟨report, e⟩⟩ := s.boot_cases d <;> rw [e] <;> exact ⟨rfl, rfl, rfl, rfl⟩

theorem State.die_boot_other (s : State) {d h : Nat} (e : h ≠ d) : (s.boot d).die h = s.die h := by
  obtain ⟨f, r, eq | ⟨report, eq⟩⟩ := s.boot_cases d <;> rw [eq] <;> exact State.die_setDie_other s e _

theorem State.die_boot (s : State) (d : Nat) : ∃ f r, (s.boot d).die d = { s.die d with firstStage := f, recovery := r } := by
  obtain ⟨f, r, e | ⟨report, e⟩⟩ := s.boot_cases d <;> exact ⟨f, r, by rw [e]; simp⟩

/-- A die set to its reset values and booted: what a cold reset does to each die of its package. -/
def State.rebootDie (s : State) (d : Nat) : State := (s.setDie d { Die.init with tickBase := s.tick }).boot d

/-- A die as a cold reset at a tick leaves it: at its reset values, but for what its boot found (R452). -/
def Die.rebootedAt (tick : Nat) (k : Die) : Prop := ∃ f r, k = { Die.init with tickBase := tick, firstStage := f, recovery := r }

theorem State.rebootDie_keeps (s : State) (d : Nat) : s.keeps (s.rebootDie d) := State.boot_keeps ..

theorem State.die_rebootDie (s : State) (d : Nat) : ((s.rebootDie d).die d).rebootedAt s.tick := by
  obtain ⟨f, r, e⟩ := (s.setDie d { Die.init with tickBase := s.tick }).die_boot d
  exact ⟨f, r, by rw [State.rebootDie, e, State.die_setDie]⟩

theorem State.die_rebootDie_other (s : State) {d h : Nat} (e : h ≠ d) : (s.rebootDie d).die h = s.die h := by
  rw [State.rebootDie, State.die_boot_other _ e, State.die_setDie_other _ e]

theorem State.rebootDies_keeps (ds : List Nat) (s : State) : s.keeps (ds.foldl State.rebootDie s) := by
  induction ds generalizing s with
  | nil => exact ⟨rfl, rfl, rfl, rfl⟩
  | cons d ds ih =>
    obtain ⟨c1, k1, m1, t1⟩ := s.rebootDie_keeps d
    obtain ⟨c2, k2, m2, t2⟩ := ih (s.rebootDie d)
    exact ⟨c2.trans c1, k2.trans k1, m2.trans m1, t2.trans t1⟩

theorem State.die_rebootDies_other {ds : List Nat} {h : Nat} (e : h ∉ ds) (s : State) : (ds.foldl State.rebootDie s).die h = s.die h := by
  induction ds generalizing s with
  | nil => rfl
  | cons d ds ih =>
    rw [List.mem_cons, not_or] at e
    rw [List.foldl_cons, ih e.2, State.die_rebootDie_other _ e.1]

theorem State.die_rebootDies {ds : List Nat} {h : Nat} (e : h ∈ ds) (s : State) : ((ds.foldl State.rebootDie s).die h).rebootedAt s.tick := by
  induction ds generalizing s with
  | nil => cases e
  | cons d ds ih =>
    obtain ⟨-, -, -, ht⟩ := s.rebootDie_keeps d
    rw [List.foldl_cons]
    by_cases hd : h ∈ ds
    · exact ht ▸ ih hd _
    · obtain rfl : h = d := by simpa [hd] using e
      rw [State.die_rebootDies_other hd]
      exact s.die_rebootDie h

-- A cold reset (R9, R452) -----------------------------------------------------------------------------------------------------------

theorem mem_upFrom {a n k : Nat} : k ∈ upFrom a n ↔ a ≤ k ∧ k < a + n := by
  induction n generalizing a with
  | zero => simp [upFrom]
  | succ n ih => simp only [upFrom, List.mem_cons, ih]; omega

/-- The dies of a package are the four that it boots. -/
theorem mem_packageDies {pk d : Nat} : d ∈ upFrom (4 * pk) 4 ↔ d / 4 = pk := by rw [mem_upFrom]; omega

theorem State.coldReset_eq (s : State) (pk : Nat) : s.coldReset pk = (upFrom (4 * pk) 4).foldl State.rebootDie ((s.clearPkg pk).answerMc pk []) := rfl

theorem State.coldReset_keeps (s : State) (pk : Nat) : (s.clearPkg pk).keeps (s.coldReset pk) := by
  rw [State.coldReset_eq]
  exact State.rebootDies_keeps _ ((s.clearPkg pk).answerMc pk [])

theorem State.ctx_coldReset (s : State) (pk g : Nat) : (s.coldReset pk).ctx g = if g / 1024 = pk then Ctx.init else s.ctx g := by
  obtain ⟨hctx, -, -, -⟩ := s.coldReset_keeps pk
  rw [← State.ctx_clearPkg, State.ctx, State.ctx, hctx]

theorem State.core_coldReset (s : State) (pk c : Nat) : (s.coldReset pk).core c = if c / 256 = pk then Core.init else s.core c := by
  obtain ⟨-, hcore, -, -⟩ := s.coldReset_keeps pk
  rw [← State.core_clearPkg, State.core, State.core, hcore]

theorem State.die_coldReset (s : State) {pk d : Nat} (h : d / 4 = pk) : ((s.coldReset pk).die d).rebootedAt s.tick := by
  rw [State.coldReset_eq]
  exact State.die_rebootDies (mem_packageDies.2 h) ((s.clearPkg pk).answerMc pk [])

theorem State.die_coldReset_other (s : State) {pk d : Nat} (h : d / 4 ≠ pk) : (s.coldReset pk).die d = s.die d := by
  rw [State.coldReset_eq, State.die_rebootDies_other (mt mem_packageDies.1 h)]
  exact s.die_clearPkg_other h

/-- No home agent serves at power-on (R357). -/
theorem State.reset_serving (d : Nat) : State.reset.serving d = false := by
  show bit Die.init.haCtl 63 = false
  decide

/-- The event of a cold reset of a package that is on. -/
theorem exec_coldReset {s : State} {pk : Nat} (hpk : pk < 512) (hon : (s.pkg pk).on = true) : exec (.coldReset pk) s = .next (s.coldReset pk) := by
  show onUnit (pkgOk pk) (if (s.pkg pk).on then s.coldReset pk else s) = _
  rw [onUnit_ok (pkgOk_lt hpk), if_pos hon]

end Sys2Proof.Machine

open Sys2Proof.Machine

/-- Settles O54: the power-on state is the empty one, and a cold reset clears its package and boots each of its dies. -/
theorem resetState : Obligations.ResetState := by
  refine ⟨fun g c d => ⟨rfl, rfl, rfl, rfl, rfl, rfl, rfl, rfl, rfl, State.reset_serving d, rfl, rfl, fun n => ⟨rfl, rfl⟩⟩, fun s pk hpk hon => ?_⟩
  obtain ⟨-, -, hmem, htick⟩ := s.coldReset_keeps pk
  refine ⟨s.coldReset pk, exec_coldReset hpk hon, s.ctx_coldReset pk, s.core_coldReset pk, fun d hd => ?_, fun d hd => s.die_coldReset_other hd, hmem, htick⟩
  obtain ⟨f, r, e⟩ := s.die_coldReset hd
  rw [e]
  exact ⟨rfl, rfl, rfl, rfl, rfl, rfl⟩

end

section
/-! SUPPORT. The platform's events (R439 to R454): what hosts post and how it is done, the access tables, the reference tick, and the statement
PlatformEvents, with a lemma for each event that checks more than its unit. -/

namespace Sys2Proof.Machine

-- What hosts post (R439, R442) ----------------------------------------------------------------------------------------------------

/-- What is posted at a package, replaced. -/
abbrev State.withPosted (s : State) (pk : Nat) (ps : List Posted) : State := s.modPkg pk (fun p => { p with posted := ps })

/-- A post is the drain of the package's list with the new entry last. -/
theorem State.post_eq {s : State} {pk : Nat} {ps : List Posted} (h : (s.pkg pk).posted = ps) (p : Posted) :
    s.post pk p = (let r := (s.withPosted pk (ps ++ [p])).drainList pk [] (ps ++ [p]); r.1.withPosted pk r.2) := by
  subst h
  rw [State.post, State.drainPosted, if_neg (by simp), State.pkg_modPkg]
  rfl

/-- With nothing posted before it, what can be done at once is done, and nothing stays posted. -/
theorem State.post_done {s r : State} {pk : Nat} {p : Posted} (h : (s.pkg pk).posted = [])
    (hr : (s.withPosted pk [p]).runPosted pk p = .ok r) : s.post pk p = r.withPosted pk [] := by
  rw [State.post_eq h]
  simp [State.drainList, hr]

/-- With nothing posted before it, what must wait stays posted, and what it waits for is asked. -/
theorem State.post_waits {s : State} {pk : Nat} {p : Posted} {need : Need} (h : (s.pkg pk).posted = [])
    (hr : (s.withPosted pk [p]).runPosted pk p = .wait need) : s.post pk p = ((s.withPosted pk [p]).meet need).withPosted pk [p] := by
  rw [State.post_eq h]
  simp [State.drainList, hr]

/-- Behind an entry of its lane that must wait, what is posted waits too (log 99). -/
theorem State.post_behind {s : State} {pk : Nat} {p q : Posted} {need : Need} (h : (s.pkg pk).posted = [p]) (hl : q.lane = p.lane)
    (hr : (s.withPosted pk [p, q]).runPosted pk p = .wait need) : s.post pk q = ((s.withPosted pk [p, q]).meet need).withPosted pk [p, q] := by
  rw [State.post_eq h]
  simp [State.drainList, hr, hl]

theorem State.drainPosted_nil {s : State} {pk : Nat} (h : (s.pkg pk).posted = []) : s.drainPosted pk = s := by
  simp [State.drainPosted, h]

/-- A tick with nothing posted anywhere tries nothing again. -/
theorem State.drainAll_nil {s : State} (h : ∀ p, (s.pkg p).posted = []) (qs : Map Pkg) : qs.foldl (fun s q => s.drainPosted q.1) s = s := by
  induction qs with
  | nil => rfl
  | cons q qs ih => rw [List.foldl_cons, State.drainPosted_nil (h q.1), ih]

-- Access tables (R441) ------------------------------------------------------------------------------------------------------------

/-- Whether a table grants an access does not depend on the die's power state. -/
theorem State.granted_wake (s : State) (w d m sp a n : Nat) (wr : Bool) : (s.wake w).granted d m sp a n wr = s.granted d m sp a n wr := by
  by_cases e : d = w
  · subst e
    simp only [State.granted, State.die_wake]
  · simp only [State.granted, State.die_wake_other s e]

-- Accesses through BAR2 (R439) ----------------------------------------------------------------------------------------------------

/-- The IA of an access through BAR2: its function's base and its offset. -/
abbrev State.bar2IA (s : State) (pk fn x : Nat) : Nat := (getD (fn % 16) 0 (s.die (portDie pk (fn / 16))).apb * 2 ^ 36 + x) % 2 ^ 52

/-- The dies that an access through BAR2 reaches are awake. -/
abbrev State.bar2Awake (s : State) (pk fn : Nat) (h : HomeRec) : State := (s.wake (portDie pk (fn / 16))).wake h.owner

/-- The dependencies of a function that its later accesses still carry. -/
abbrev State.bar2Deps (s : State) (pk fn : Nat) : List Ent := (getD fn [] (s.pkg pk).fnDeps).filter (fun e => !s.covered e)

/-- The bytes of a write through BAR2, page by page, written from the die of its port. -/
abbrev State.bar2Write (u : State) (d ia n v : Nat) (deps : List Ent) : OneWrite :=
  u.writeMany d (2 ^ 32 - 1) deps ((pagePieces (n / 65536 + 2) ia n).map (fun p => (p.1, (bytesOf n v).drop (p.1 - ia) |>.take p.2)))

/-- A granted write through BAR2 that can be made at once. -/
theorem State.bar2Access_writes {s r : State} {pk fn x n v p : Nat} {h : HomeRec} {deps : List Ent}
    (hh : s.homeRec? (portDie pk (fn / 16)) (s.bar2IA pk fn x) = some (p, h))
    (hg : (s.bar2Awake pk fn h).granted h.owner fn 1 (s.bar2IA pk fn x) n true = true)
    (hd : (s.bar2Awake pk fn h).bar2Deps pk fn = deps)
    (hw : (s.bar2Awake pk fn h).bar2Write (portDie pk (fn / 16)) (s.bar2IA pk fn x) n v deps = .ok r) :
    s.bar2Access pk fn x true n v = .ok r := by
  subst hd
  unfold State.bar2Access
  dsimp only
  rw [hh]
  dsimp only
  rw [State.bar2Write] at hw
  rw [hg, hw]
  rfl

/-- One that must wait for its page. -/
theorem State.bar2Access_write_waits {s : State} {pk fn x n v p : Nat} {h : HomeRec} {deps : List Ent} {need : Need}
    (hh : s.homeRec? (portDie pk (fn / 16)) (s.bar2IA pk fn x) = some (p, h))
    (hg : (s.bar2Awake pk fn h).granted h.owner fn 1 (s.bar2IA pk fn x) n true = true)
    (hd : (s.bar2Awake pk fn h).bar2Deps pk fn = deps)
    (hw : (s.bar2Awake pk fn h).bar2Write (portDie pk (fn / 16)) (s.bar2IA pk fn x) n v deps = .wait need) :
    s.bar2Access pk fn x true n v = .wait need := by
  subst hd
  unfold State.bar2Access
  dsimp only
  rw [hh]
  dsimp only
  rw [State.bar2Write] at hw
  rw [hg, hw]
  rfl

/-- A granted read through BAR2 answers with its bytes, and their stamps join the function's dependencies. -/
theorem State.bar2Access_reads {s : State} {pk fn x n v p key e : Nat} {h : HomeRec} {deps st : List Ent} {bs : List Byte}
    (hh : s.homeRec? (portDie pk (fn / 16)) (s.bar2IA pk fn x) = some (p, h))
    (hg : (s.bar2Awake pk fn h).granted h.owner fn 1 (s.bar2IA pk fn x) n false = true)
    (hd : (s.bar2Awake pk fn h).bar2Deps pk fn = deps)
    (hr : (s.bar2Awake pk fn h).readMany (portDie pk (fn / 16)) .load deps
      (pagePieces (n / 65536 + 2) (s.bar2IA pk fn x) n) = .ok bs key st e) :
    s.bar2Access pk fn x false n v = .ok (((s.bar2Awake pk fn h).modPkg pk (fun q =>
      { q with fnDeps := put fn (st.foldl mergeEnt deps) q.fnDeps })).answerHost pk (some bs)) := by
  subst hd
  unfold State.bar2Access
  dsimp only
  rw [hh]
  dsimp only
  rw [hg, hr]
  rfl

theorem exec_bar2Access {s : State} {pk fn x n : Nat} (hpk : pk < 512) (hon : (s.pkg pk).on = true) (hfn : fn < 32) (hx : x + n ≤ 2 ^ 36)
    (wr : Bool) (v : Nat) : exec (.bar2Access pk fn x wr n v) s = .next (s.post pk (.access fn x wr n v)) := by
  show onUnit (pkgOk pk) (if !(s.pkg pk).on || decide (32 ≤ fn) || decide (2 ^ 36 < x + n) then s else s.post pk (.access fn x wr n v)) = _
  rw [onUnit_ok (pkgOk_lt hpk), if_neg]
  simp only [hon, Bool.not_true, Bool.false_or, Bool.or_eq_true, decide_eq_true_eq]
  omega

/-- A granted access through BAR2 with nothing posted before it: what the access does decides what stays posted. -/
theorem exec_bar2Access_first {s : State} {pk fn x n : Nat} {wr : Bool} {v : Nat} (hpk : pk < 512) (hon : (s.pkg pk).on = true) (hfn : fn < 32)
    (hx : x + n ≤ 2 ^ 36) (hp : (s.pkg pk).posted = []) :
    (∀ r, (s.withPosted pk [.access fn x wr n v]).bar2Access pk fn x wr n v = .ok r →
      exec (.bar2Access pk fn x wr n v) s = .next (r.withPosted pk [])) ∧
    (∀ need, (s.withPosted pk [.access fn x wr n v]).bar2Access pk fn x wr n v = .wait need →
      exec (.bar2Access pk fn x wr n v) s = .next (((s.withPosted pk [.access fn x wr n v]).meet need).withPosted pk [.access fn x wr n v])) := by
  rw [exec_bar2Access hpk hon hfn hx]
  exact ⟨fun r h => by rw [State.post_done (p := .access fn x wr n v) hp h], fun need h => by rw [State.post_waits (p := .access fn x wr n v) hp h]⟩

/-- A post changes no dependency of a function. -/
theorem State.bar2Deps_withPosted (s : State) (pk fn : Nat) (ps : List Posted) (h : HomeRec) :
    ((s.withPosted pk ps).bar2Awake pk fn h).bar2Deps pk fn =
      (getD fn [] (s.pkg pk).fnDeps).filter (fun e => !((s.withPosted pk ps).bar2Awake pk fn h).covered e) := by
  simp [State.bar2Deps]

-- Accesses through BAR4 (R440) ----------------------------------------------------------------------------------------------------

/-- A granted write through BAR4 stores the bytes that lie inside the HBM. -/
theorem exec_bar4Access_write {s : State} {pk fn x n v : Nat} (hpk : pk < 512) (hon : (s.pkg pk).on = true) (hx : x + n ≤ 2 ^ 42)
    (hg : s.granted (4 * pk + x / 2 ^ 40 % 4) (16 * (fn % 2)) 3 x n true = true) :
    exec (.bar4Access pk fn x true n v) s = .next (
      ((s.wake (4 * pk + x / 2 ^ 40 % 4)).writePA (4 * pk + x / 2 ^ 40 % 4) (x % 2 ^ 40) ((bytesOf n v).take (Nat.min n (hbmBytes - x % 2 ^ 40)))).heal
        (4 * pk + x / 2 ^ 40 % 4) (x % 2 ^ 40) (Nat.min n (hbmBytes - x % 2 ^ 40))) := by
  show execBar4Access pk fn x true n v s = _
  unfold execBar4Access
  rw [onUnit_ok (pkgOk_lt hpk)]
  dsimp only
  rw [hon, if_pos rfl, State.pkg_wake, hon, State.granted_wake, hg, if_neg (by simpa using hx)]
  rfl

/-- A granted read through BAR4 answers with the bytes inside the HBM, and ones beyond it. -/
theorem exec_bar4Access_read {s : State} {pk fn x n : Nat} (v : Nat) (hpk : pk < 512) (hon : (s.pkg pk).on = true) (hx : x + n ≤ 2 ^ 42)
    (hg : s.granted (4 * pk + x / 2 ^ 40 % 4) (16 * (fn % 2)) 3 x n false = true) :
    exec (.bar4Access pk fn x false n v) s = .next (
      (s.wake (4 * pk + x / 2 ^ 40 % 4)).answerHost pk (some (
        (s.wake (4 * pk + x / 2 ^ 40 % 4)).readPA (4 * pk + x / 2 ^ 40 % 4) (x % 2 ^ 40) (Nat.min n (hbmBytes - x % 2 ^ 40)) ++
          List.replicate (n - Nat.min n (hbmBytes - x % 2 ^ 40)) 0xFF))) := by
  show execBar4Access pk fn x false n v s = _
  unfold execBar4Access
  rw [onUnit_ok (pkgOk_lt hpk)]
  dsimp only
  rw [hon, if_pos rfl, State.pkg_wake, hon, State.granted_wake, hg, if_neg (by simpa using hx)]
  rfl

-- Rings (R444, R446) --------------------------------------------------------------------------------------------------------------

/-- A granted entry of a ring that is enabled and not full is written. -/
theorem exec_ringEntryWrite {s : State} {pk ring : Nat} {e : RingEntry} (hpk : pk < 512) (hen : ((s.pkg pk).ring ring).en = true)
    (hfull : ((s.pkg pk).ring ring).full = false) (hr : ring < 1024) (hf : (s.pkg pk).waiting.find? (fun e => e.ring == ring) = some e)
    (hg : (s.modPkg pk (fun p => { p with waiting := p.waiting.erase e })).entryGranted pk e = true) :
    exec (.ringEntryWrite pk ring) s = .next ((s.modPkg pk (fun p => { p with waiting := p.waiting.erase e })).modPkg pk (fun p => p.writeEntry s.tick e)) := by
  show execRingEntryWrite pk ring s = _
  unfold execRingEntryWrite
  rw [onUnit_ok (pkgOk_lt hpk)]
  simp only [hen, hfull, Bool.not_false, Bool.and_self, Bool.true_or, Bool.and_true, hf]
  rw [if_neg (by omega), if_neg (by simp), if_neg (by simp [hg])]
  rfl

/-- A ring whose oldest pending entry is old enough interrupts. -/
theorem exec_ringCoalesceTimeout {s : State} {pk ring : Nat} (hpk : pk < 512) (hp : ((s.pkg pk).ring ring).pending ≠ 0)
    (ht : ((s.pkg pk).ring ring).oldest + ((s.pkg pk).ring ring).ctim ≤ s.tick) :
    exec (.ringCoalesceTimeout pk ring) s = .next (s.modPkg pk (fun p => p.interrupt ring)) := by
  show execRingCoalesceTimeout pk ring s = _
  unfold execRingCoalesceTimeout
  rw [onUnit_ok (pkgOk_lt hpk)]
  dsimp only
  rw [if_neg (by simp only [Bool.or_eq_true, decide_eq_true_eq]; omega)]

-- Clocks, power, links (R7, R179, R406, R450) ---------------------------------------------------------------------------------------

/-- A tick when hosts have posted nothing. -/
theorem exec_referenceTick {s : State} (h : ∀ p, (s.pkg p).posted = []) : exec .referenceTick s = .next { s with tick := s.tick + 1, cyc := 0 } :=
  congrArg Host.Outcome.next (State.drainAll_nil (s := { s with tick := s.tick + 1, cyc := 0 }) h s.pkgs)

theorem exec_idleEntry {s : State} {d : Nat} (hd : d < 2048) (h : s.idle d = true) :
    exec (.idleEntry d) s = .next (s.modDie d (fun k =>
      { k with pwState := if 200000 ≤ (s.pkg (d / 4)).ltr then 3 else if 20000 ≤ (s.pkg (d / 4)).ltr then 2 else if 2000 ≤ (s.pkg (d / 4)).ltr then 1 else 0 })) := by
  show execIdleEntry d s = _
  unfold execIdleEntry
  rw [onUnit_ok (dieOk_lt hd), h]
  rfl

/-- A pending hash takes effect in a core that holds no scratchpad allocation. -/
theorem State.settleHash_free {s : State} {c : Nat} {v : W64} (hp : (s.core c).hashPend = some v) (ha : s.allocated c = false) :
    s.settleHash c = s.modCore c (fun k => { k with hash := w64 (bits v 59 0 + bits v 63 60 * 2 ^ 60), hashPend := none }) := by
  unfold State.settleHash
  rw [hp, ha]
  rfl

/-- A port of a die that exists. -/
theorem portOk {d k : Nat} (hd : d < 2048) (hk : k < 24) : (dieOk d && decide (k < 24)) = true := by simp [dieOk_lt hd, hk]

theorem exec_portLinkDown {s : State} {d k : Nat} (hd : d < 2048) (hk : k < 24) (h : (s.port d k).up = true) :
    exec (.portLinkDown d k) s = .next (
      (State.resent { s.modPort d k (fun p => { p with up := false, lanes := 0 }) with
        net := s.net.map (fun (q : Nat × Msg) =>
          if q.2.origin = d && q.2.kind.causal && !q.2.ids.isEmpty then (q.1, { q.2 with last := s.tick }) else q) } d).errorRecord d 6 255 0 0 (w64 k) 0 0 0) := by
  show execPortLinkDown d k s = _
  unfold execPortLinkDown
  rw [onUnit_ok (portOk hd hk), h]
  rfl

-- Reset, boot, attestation, the management controller (R9, R452 to R454) --------------------------------------------------------------

theorem exec_mcPowerOn {s : State} {pk : Nat} (hpk : pk < 512) (hoff : (s.pkg pk).on = false) :
    exec (.mcPowerOn pk) s = .next (
      (((upFrom (4 * pk) 4).foldl (fun s d => { s with mem := cellsClear s.mem (paKey d 0) (2 ^ 40) }) s).modPkg pk (fun p => { p with on := true })).coldReset pk) := by
  show execMcPowerOn pk s = _
  unfold execMcPowerOn
  rw [onUnit_ok (pkgOk_lt hpk), hoff]
  rfl

theorem exec_stageMeasurement {s : State} {d i : Nat} (hd : d < 2048) (hi : i < 8) (digest : Nat) :
    exec (.stageMeasurement d i digest) s = .next (s.modDie d (fun k =>
      { k with measure := put i (ofBytes (shake256 (bytesOf 64 (getD i 0 k.measure) ++ bytesOf 64 digest))) k.measure })) := by
  show execStageMeasurement d i digest s = _
  unfold execStageMeasurement
  rw [onUnit_ok (dieOk_lt hd), if_neg (by omega)]

/-- A die out of recovery, or asked by the management controller, answers with its report. -/
theorem exec_attestationRequest {s : State} {m d : Nat} (hd : d < 2048) (h : (s.die d).recovery = false ∨ m = 32) (nonce : Nat) :
    exec (.attestationRequest m d nonce) s = .next (s.attest d nonce) := by
  show execAttestationRequest m d nonce s = _
  unfold execAttestationRequest
  rw [onUnit_ok (dieOk_lt hd), if_neg]
  rcases h with h | h <;> simp [h]

/-- The error counters of a package's four dies are read in their order, each after the one before it. -/
theorem exec_mcReadErrors {s : State} {pk : Nat} (hpk : pk < 512) (hon : (s.pkg pk).on = true) :
    let s1 := s.hostRead 32 (4 * pk) 0x28
    let s2 := s1.hostRead 32 (4 * pk + 1) 0x28
    let s3 := s2.hostRead 32 (4 * pk + 2) 0x28
    let s4 := s3.hostRead 32 (4 * pk + 3) 0x28
    exec (.mcReadErrors pk) s = .next (s4.answerMc pk ((s.pkg pk).errors.flatten ++ [s1, s2, s3, s4].flatMap (fun t => (t.pkg pk).mcOut))) := by
  intro s1 s2 s3 s4
  show execMcReadErrors pk s = _
  unfold execMcReadErrors
  rw [onUnit_ok (pkgOk_lt hpk), hon]
  simp only [upFrom, List.foldl, List.flatMap_cons, List.flatMap_nil, List.append_nil, List.nil_append, List.append_assoc]
  rfl

end Sys2Proof.Machine

open Sys2Proof Sys2Proof.Machine

/-- Settles O47: accesses through BAR2 by what a post does with its list, the other events that check something by their lemmas above; an event that
checks only its unit is its meaning on a unit that exists. -/
theorem platformEvents : Obligations.PlatformEvents := by
  refine ⟨fun s r pk fn x n v ring hpk => ⟨?_, ?_, ?_, ?_⟩, fun s d c pk k src a i digest nonce n m img hd hc hpk => ?_⟩
  · intro wr p h hon hfn hx hp d ia posted u deps ps write hh hg
    have hdeps : u.bar2Deps pk fn = deps := s.bar2Deps_withPosted pk fn _ h
    obtain ⟨done, waits⟩ := exec_bar2Access_first (v := v) (wr := wr) hpk hon hfn hx hp
    refine ⟨?_, ?_, ?_⟩
    · rintro rfl hw
      exact done r (State.bar2Access_writes hh hg hdeps hw)
    · rintro need rfl hw
      exact waits need (State.bar2Access_write_waits hh hg hdeps hw)
    · rintro bs key st big rfl hr
      exact done _ (State.bar2Access_reads hh hg hdeps hr)
  · intro x' wr wr' n' v' need hon hfn hx hp two hw
    rw [exec_bar2Access hpk hon hfn hx, State.post_behind (q := .access fn x wr n v) hp rfl hw]
  · exact fun hon hx => ⟨exec_bar4Access_write hpk hon hx, exec_bar4Access_read v hpk hon hx⟩
  · exact ⟨fun e hen hfull hr hf hg => exec_ringEntryWrite hpk hen hfull hr hf hg, exec_ringCoalesceTimeout hpk⟩
  · exact ⟨exec_referenceTick, onUnit_ok (dieOk_lt hd) _, exec_idleEntry hd, onUnit_ok (coreOk_lt hc) _, onUnit_ok (coreOk_lt hc) _,
      onUnit_ok (dieOk_lt hd) _, onUnit_ok (dieOk_lt hd) _,
      fun v hp ha => (onUnit_ok (coreOk_lt hc) _).trans (congrArg _ (State.settleHash_free hp ha)),
      fun hk => ⟨exec_portLinkDown hd hk, onUnit_ok (portOk hd hk) _, onUnit_ok (portOk hd hk) _⟩,
      fun hon => ⟨exec_coldReset hpk hon, exec_coldReset hpk hon⟩, exec_mcPowerOn hpk, onUnit_ok (pkgOk_lt hpk) _,
      fun hi => exec_stageMeasurement hd hi digest, fun h => exec_attestationRequest hd h nonce, onUnit_ok (dieOk_lt hd) _, exec_mcReadErrors hpk,
      onUnit_ok (pkgOk_lt hpk) _, onUnit_ok (pkgOk_lt hpk) _, onUnit_ok (pkgOk_lt hpk) _⟩

end

section
/-! SUPPORT. What the specifier of a source names (R50) and what a guard asks (R49), with the statements SourceSpecifier, FalseGuard and
DecodeExamples. -/

namespace Sys2Proof.Machine

/-- An integer modulo 2^64 as a 64-bit value. -/
theorem w64_wrapN (i : Int) : w64 (wrapN 64 i) = BitVec.ofInt 64 i := by
  apply BitVec.eq_of_toNat_eq
  simp only [w64, wrapN, BitVec.toNat_ofNat, BitVec.toNat_ofInt]
  omega

-- Sources (R50) -------------------------------------------------------------------------------------------------------------------

theorem State.withSource_trap {s : State} {x : BitVec 7} {c : Nat} {i : W64} (h : s.source x = .trap c i) (k : W64 → State) :
    s.withSource x k = s.raise c (if c = 1 then s.slotInfo else i) := by
  simp [State.withSource, h]

/-- A specifier that names no queue latch is read in the context (R50, R52). -/
theorem State.source_ctx {s : State} {x : BitVec 7} (h : x.toNat < 88 ∨ 96 ≤ x.toNat) : s.source x = s.pre.source x := by
  unfold State.source
  rw [if_neg]
  simp only [Bool.and_eq_true, decide_eq_true_eq]
  omega

/-- A specifier below 86 names a register (R50). -/
theorem Ctx.source_reg {c : Ctx} {x : BitVec 7} (h : x.toNat < 86) (hp : c.pending x.toNat = false) (hq : find? x.toNat c.poison = none) :
    c.source x = .ok (c.reg x.toNat) := by
  simp [Ctx.source, h, hp, hq]

theorem Ctx.source_pending {c : Ctx} {x : BitVec 7} (h : x.toNat < 86) (hp : c.pending x.toNat = true) : c.source x = .wait := by
  simp [Ctx.source, h, hp]

theorem Ctx.source_undefined {c : Ctx} {x : BitVec 7} (h : 86 ≤ x.toNat) (h' : x.toNat < 88) : c.source x = .trap 1 0 := by
  simp [Ctx.source, Nat.not_lt.2 h, h']

/-- A specifier from 96 on names a constant from −16 to 15 (R50). -/
theorem Ctx.source_const {c : Ctx} {x : BitVec 7} (h : 96 ≤ x.toNat) : c.source x = .ok (BitVec.ofInt 64 ((x.toNat : Int) - 112)) := by
  unfold Ctx.source
  rw [if_neg (by omega), if_neg (by omega), if_neg (by omega), w64_wrapN]

/-- A queue latch gives the head of its queue, unless that is uncorrectable; an empty queue makes the slot wait (R50, R52, R448). -/
theorem State.source_latch {s : State} {x : BitVec 7} (h : 88 ≤ x.toNat) (h' : x.toNat < 96) :
    s.source x = match s.preLatch (x.toNat - 88) with
      | [] => .wait
      | v :: _ => match (if s.bun.on then s.bun.latches else s.latches s.cur).bind (fun q => s.headBad (dieOfCtx s.cur) q.1 (x.toNat - 88)) with
        | some i => .trap 0x16 i
        | none => .ok v := by
  unfold State.source
  rw [if_pos (by simp [h, h'])]
  cases s.preLatch (x.toNat - 88) with
  | nil => rfl
  | cons v vs => cases (if s.bun.on then s.bun.latches else s.latches s.cur) <;> rfl

-- Guards (R49) --------------------------------------------------------------------------------------------------------------------

theorem bitN_eq_testBit (x k : Nat) : bitN x k = x.testBit k := by
  rw [Nat.testBit_eq_decide_div_mod_eq]
  rfl

/-- The high bit of a guard (R49). -/
theorem guard_testBit_three (g : BitVec 4) : g.toNat.testBit 3 = decide (8 ≤ g.toNat) := by
  revert g
  decide

/-- The predicate that a guard names and its inversion, once no write to it is pending (R49). -/
theorem Ctx.guardValue_eq {c : Ctx} {g : BitVec 4} (h : c.pending (128 + g.toNat % 8) = false) :
    c.guardValue g = some ((g.toNat % 8 == 0 || c.pred.toNat.testBit (g.toNat % 8)) != decide (8 ≤ g.toNat)) := by
  simp only [Ctx.guardValue, Ctx.p, bitN_eq_testBit, guard_testBit_three, h, Bool.false_eq_true, if_false]

/-- No instruction of S0, S4 or S5 has a guard (R49): said of each as one Boolean, which its constructor decides. -/
theorem guardOf_isSome_space (i : Instr) :
    ((guardOf i).isSome && [some Space.control, some .vector0, some .vector1].contains i.space?) = false := by
  cases i <;> rfl

theorem guardOf_eq_none {i : Instr} (h : i.space? = some .control ∨ i.space? = some .vector0 ∨ i.space? = some .vector1) : guardOf i = none := by
  have hs : [some Space.control, some .vector0, some .vector1].contains i.space? = true := by simpa using h
  have hi := guardOf_isSome_space i
  rwa [hs, Bool.and_true, Option.isSome_eq_false_iff, Option.isNone_iff_eq_none] at hi

theorem legal_of_wf {i : Instr} {sl : Sys2Proof.Slot} (h : i.wf sl = true) : i.legal sl = true := by
  simp only [Instr.wf, Bool.and_eq_true] at h
  exact h.1.2

/-- An instruction with a guard that a slot can hold asks its guard before anything else (R49). Three look at a field of their word first, which
a word that decodes has right. -/
theorem exec_guarded {i : Instr} {sl : Sys2Proof.Slot} {g : BitVec 4} (hw : i.wf sl = true) (hg : guardOf i = some g) (s : State) :
    ∃ k, exec i s = .next (s.guarded g k) := by
  have hl := legal_of_wf hw
  cases i with
  | mst _ a =>
    cases hg
    have ha : a.toNat < 64 := of_decide_eq_true hl
    exact ⟨_, congrArg _ (if_neg (Nat.not_le.2 ha))⟩
  | barm _ a b h =>
    cases hg
    simp only [Instr.legal, Bool.and_eq_true, decide_eq_true_eq] at hl
    exact ⟨_, congrArg _ (if_neg hl.2)⟩
  | barr _ a h =>
    cases hg
    simp only [Instr.legal, Bool.and_eq_true, decide_eq_true_eq] at hl
    exact ⟨_, congrArg _ (if_neg hl.2)⟩
  | _ => cases hg <;> exact ⟨_, rfl⟩

end Sys2Proof.Machine

open Sys2Proof Sys2Proof.Machine

/-- Settles O52, by the ranges of the specifier. -/
theorem sourceSpecifier : Obligations.SourceSpecifier := by
  refine fun s x k => ⟨fun hx hp hq => ?_, fun hx hp => ?_, fun hx => ?_, fun hl hh => ?_, fun hx => ?_⟩
  · exact State.withSource_ok ((State.source_ctx (by omega)).trans (Ctx.source_reg hx hp hq)) k
  · exact State.withSource_wait ((State.source_ctx (by omega)).trans (Ctx.source_pending hx hp)) k
  · have h : 86 ≤ x.toNat ∧ x.toNat < 88 := by rcases hx with rfl | rfl <;> decide
    exact State.withSource_trap ((State.source_ctx (by omega)).trans (Ctx.source_undefined h.1 h.2)) k
  · have h := State.source_latch (s := s) hl hh
    generalize s.preLatch (x.toNat - 88) = vs at h ⊢
    generalize (if s.bun.on then s.bun.latches else s.latches s.cur).bind (fun q => s.headBad (dieOfCtx s.cur) q.1 (x.toNat - 88)) = bad at h ⊢
    cases vs with
    | nil => exact State.withSource_wait h k
    | cons v vs =>
      cases bad with
      | none => exact State.withSource_ok h k
      | some i => exact State.withSource_trap h k
  · exact State.withSource_ok ((State.source_ctx (by omega)).trans (Ctx.source_const hx)) k

/-- Settles O51: whatever a guarded slot would go on to do, a false guard leaves the state as it is. -/
theorem falseGuard : Obligations.FalseGuard := by
  refine ⟨fun i sl g s hw hg hf => ?_, fun i => guardOf_eq_none, fun c g => Ctx.guardValue_eq⟩
  obtain ⟨k, hk⟩ := exec_guarded hw hg s
  rw [hk, State.guarded_dead hf]

/-- Settles O48: every word is a closed term, which the decoder evaluates. -/
theorem decodeExamples : Obligations.DecodeExamples :=
  ⟨rfl, rfl, rfl, rfl, rfl, rfl, rfl, rfl, rfl, rfl, rfl, rfl, rfl, rfl⟩

end

section
/-! SUPPORT. Jumps (R41, R148, R154) and the instructions of system mode (R69, R164 to R166), with the statements JumpResult and
SystemInstructions. -/

namespace Sys2Proof.Machine

-- Jumps (R41, R148, R154) -----------------------------------------------------------------------------------------------------------

/-- The target of an offset jump is the PC plus 32 times the offset, modulo 2^64 (R41). -/
theorem State.target_eq (s : State) {n : Nat} (j : BitVec n) : s.target j.toInt = s.pre.pc + 32 * j.signExtend 64 := by
  rw [State.target, w64_wrapN, BitVec.ofInt_add, BitVec.ofInt_mul, BitVec.ofInt_natCast, BitVec.ofNat_toNat, BitVec.setWidth_eq]
  rfl

/-- A jump lands inside the VA space or raises cause 0x05 (R148). -/
theorem State.jumpTo_eq (s : State) (t : W64) : s.jumpTo t = Claims.landed s t := by
  unfold Claims.landed
  split
  · exact State.jumpTo_in ‹_›
  · exact State.jumpTo_out (by omega)

/-- A predicate that is free as a destination has no write pending (R20, R145). -/
theorem State.pred_ready {s : State} {k : Nat} (h : Claims.Free s [128 + k]) : s.pre.pending (128 + k) = false := by
  have hk : 128 + k ≠ 85 := by omega
  simpa [hk] using h

/-- A jump on a predicate (R154). -/
theorem exec_jmpc {s : State} {q : BitVec 3} (h : Claims.Free s [128 + q.toNat]) (j : BitVec 10) :
    exec (.jmpc q j) s = .next (if s.pre.p q.toNat then s.jumpTo (s.target j.toInt) else s.fallThrough) := by
  show execJmpc q j s = _
  simp only [execJmpc, State.pred_ready h, Bool.false_eq_true, if_false]

/-- An indirect target that is a bundle's address is taken (R41). -/
theorem State.jumpIndirect_aligned {s : State} {t : W64} (h : t.toNat % 32 = 0) (k : State) : s.jumpIndirect t k = k := by
  simp [State.jumpIndirect, h]

/-- An indirect target that is no bundle's address raises cause 0x04 with its VA (R41, R165). -/
theorem State.jumpIndirect_misaligned {s : State} {t : W64} (h : t.toNat % 32 ≠ 0) (k : State) :
    s.jumpIndirect t k = s.raise 4 (w64 (t.toNat % 2 ^ 57)) := by
  simp [State.jumpIndirect, h, bits, bitsN]

-- System instructions (R69, R164 to R166) --------------------------------------------------------------------------------------------

/-- In task mode a system instruction raises cause 0x03 (R69). -/
theorem State.systemOnly_task {s : State} (h : s.sysMode s.cur = false) (k : State) : s.systemOnly k = s.raise 3 s.slotInfo := by
  simp [State.systemOnly, h]

/-- In task mode a register that task mode may not write raises cause 0x03 (R146). -/
theorem exec_sysw_task {s : State} {r : BitVec 6} (hs : s.sysMode s.cur = false) (hr : sysRegOk r = true)
    (hw : (sysReadOnly r.toNat || sysSystemOnly r.toNat) = true) (x : BitVec 7) : exec (.sysw r x) s = .next (s.raise 3 s.slotInfo) := by
  show execSysw r x s = _
  unfold execSysw
  rw [if_neg (by simp [hr]), if_pos (by simp [hs, hw])]

/-- The return from a handler takes the next PC from trap.pc, as a bundle's address, and leaves the handler (R164). -/
theorem Ctx.returnFromHandler_leaves (c : Ctx) :
    c.returnFromHandler.pc = w64 (c.trap.pc.toNat / 32 * 32) ∧ bit c.returnFromHandler.trap.cause 8 = false := by
  refine ⟨rfl, ?_⟩
  have h : bits c.trap.cause 7 0 < 2 ^ 8 := Nat.mod_lt _ (by decide)
  rw [bit, bitN_eq_testBit]
  apply Nat.testBit_lt_two_pow
  simp only [Ctx.returnFromHandler, w64, BitVec.toNat_ofNat]
  omega

theorem exec_eret_system {s : State} (h : s.sysMode s.cur = true) :
    exec .eret s = .next ((s.modMe Ctx.returnFromHandler).modBun (fun f => { f with jumped := true })) :=
  congrArg Host.Outcome.next (State.systemOnly_ok h _)

theorem exec_halt_system {s : State} (h : s.sysMode s.cur = true) :
    exec .halt s = .next (if s.bun.on then s.modBun (fun f => { f with halt := true }) else s.modMe (fun c => { c with halted := true })) :=
  congrArg Host.Outcome.next (State.systemOnly_ok h _)

end Sys2Proof.Machine

open Sys2Proof Sys2Proof.Machine

/-- Settles O3: an offset jump lands by its target, a jump by a register by the alignment of its value. -/
theorem jumpResult : Obligations.JumpResult := by
  intro s j k q x v near cond
  have hnear : s.jumpTo (s.target j.toInt) = Claims.landed s near := by rw [State.jumpTo_eq, State.target_eq]
  have hcond : s.jumpTo (s.target k.toInt) = Claims.landed s cond := by rw [State.jumpTo_eq, State.target_eq]
  refine ⟨congrArg _ hnear, fun hq => ?_, ?_, fun hx => ⟨fun ha => ?_, fun ha => ?_⟩, rfl⟩
  · rw [exec_jmpc hq, hcond]
  · show execJmpm j s = _
    rw [execJmpm, hnear]
  · show execJmpi x s = _
    rw [execJmpi, State.withSource_ok hx, State.jumpIndirect_aligned ha, State.jumpTo_eq]
  · show execJmpi x s = _
    rw [execJmpi, State.withSource_ok hx, State.jumpIndirect_misaligned ha]

/-- Settles O9, by the mode that a system instruction finds. -/
theorem systemInstructions : Obligations.SystemInstructions := by
  refine ⟨fun s k => ⟨rfl, rfl, fun hs => ⟨⟨_, exec_eret_system hs, ?_⟩, ⟨_, exec_halt_system hs, ?_⟩⟩⟩,
    fun s x r hs => ⟨congrArg _ (State.systemOnly_task hs _), congrArg _ (State.systemOnly_task hs _), congrArg _ (State.systemOnly_task hs _),
      fun hr hw => exec_sysw_task hs hr hw x⟩⟩
  · obtain ⟨hpc, hact⟩ := s.me.returnFromHandler_leaves
    rw [← State.me_modMe s Ctx.returnFromHandler] at hpc hact
    exact ⟨hpc, hact, rfl⟩
  · cases h : s.bun.on
    · exact ⟨fun _ => by simp, nofun, rfl⟩
    · exact ⟨nofun, fun _ => rfl, rfl⟩

end

section
/-! SUPPORT. Stores (R51, R183, R187, R193, R195): one lemma for all of them, one for those of a register and one for those of a group, with the
statement StoreIssue. -/

namespace Sys2Proof.Machine

/-- A store whose bytes are there and whose access passes its checks leaves as its pieces; a release holds while an access is out (R187, R193). -/
theorem State.store_issues {s : State} {g : BitVec 4} {d b : BitVec 7} {off : Int} {n align ia w : Nat} {base : W64} {bs : List Byte}
    (hg : Claims.Live s g) (hb : Claims.Reads s b base) (hd : ∀ k, s.withStoreData d n k = k bs)
    (hp : Claims.Passes s true (effAddr base (off * n)) n ia w) (ha : effAddr base (off * n) % align = 0) (kind : MKind) (rel : Bool) :
    s.store g d b off n kind align rel =
      if rel && (s.loadsOut s.cur || s.writesOut s.cur || s.ncOut s.cur) then s.hold
      else (s.issuePieces kind none ia bs (sectorPieces 4 ia n)).2 := by
  obtain ⟨ht, hf, hm, hacq, hfull⟩ := hp
  rw [State.store, State.guarded_live hg, State.withSource_ok hb, hd, State.globalCheck_ok ht ha hf hm, State.afterAcquire_ok hacq hfull]
  cases rel <;> rfl

/-- The data of a store of at most 8 bytes is one source's (R206). -/
theorem State.withStoreData_word {s : State} {d : BitVec 7} {n : Nat} {v : W64} (h8 : n ≤ 8) (hd : Claims.Reads s d v) (k : List Byte → State) :
    s.withStoreData d n k = k (bytesOf n v.toNat) := by
  rw [State.withStoreData, if_pos h8, State.withSource_ok hd]

/-- The data of a store of more than 8 bytes is a group's, lowest register first (R51, R206). -/
theorem State.withStoreData_group {s : State} {d : BitVec 7} {n : Nat} {vs : List W64} (h8 : 8 < n)
    (hd : ∀ k : List W64 → State, s.withGroup d (n / 8) k = k vs) (k : List Byte → State) :
    s.withStoreData d n k = k (vs.map (fun v => bytesOf 8 v.toNat)).flatten := by
  rw [State.withStoreData, if_neg (by omega), hd]

/-- An access is aligned as it must be when only some forms must be, and those are aligned to their size (R183). -/
theorem mod_align_eq_zero {ea n align : Nat} {p : Prop} (hal : align = 1 ∨ align = n ∧ p) (ha : p → ea % n = 0) : ea % align = 0 := by
  rcases hal with rfl | ⟨rfl, h⟩
  · exact Nat.mod_one _
  · exact ha h

section
variable {i : Instr} {s : State} {g : BitVec 4} {d b : BitVec 7} {off : Int} {n align ia w : Nat} {kind : MKind} {base : W64}

/-- A store of one register (R187, R193, R195): only a release and an stnc store must be aligned. -/
theorem exec_store_word {rel : Bool} {v : W64} (hx : ∀ s, exec i s = .next (s.store g d b off n kind align rel)) (h8 : n ≤ 8)
    (hal : align = 1 ∨ align = n ∧ (rel = true ∨ kind = .writeNc)) (hg : Claims.Live s g) (hb : Claims.Reads s b base) (hd : Claims.Reads s d v)
    (hp : Claims.Passes s true (effAddr base (off * n)) n ia w) (ha : rel = true ∨ kind = .writeNc → effAddr base (off * n) % n = 0) :
    exec i s = .next (
      if rel && (s.loadsOut s.cur || s.writesOut s.cur || s.ncOut s.cur) then s.hold
      else (s.issuePieces kind none ia (bytesOf n v.toNat) (sectorPieces 4 ia n)).2) := by
  rw [hx, State.store_issues hg hb (State.withStoreData_word h8 hd) hp (mod_align_eq_zero hal ha)]

/-- A store of a group of registers (R51, R187, R195): only an stnc store must be aligned. -/
theorem exec_store_group {vs : List W64} (hx : ∀ s, exec i s = .next (s.store g d b off n kind align false)) (h8 : 8 < n)
    (hal : align = 1 ∨ align = n ∧ kind = .writeNc) (hg : Claims.Live s g) (hb : Claims.Reads s b base)
    (hd : ∀ k : List W64 → State, s.withGroup d (n / 8) k = k vs) (hp : Claims.Passes s true (effAddr base (off * n)) n ia w)
    (ha : kind = .writeNc → effAddr base (off * n) % n = 0) :
    exec i s = .next (s.issuePieces kind none ia ((vs.map (fun v => bytesOf 8 v.toNat)).flatten) (sectorPieces 4 ia n)).2 := by
  rw [hx, State.store_issues hg hb (State.withStoreData_group h8 hd) hp (mod_align_eq_zero hal ha)]
  rfl

end

end Sys2Proof.Machine

open Sys2Proof Sys2Proof.Machine

/-- Settles O14: each store is State.store at its size, kind and alignment, and so leaves as a store of one register or of a group. -/
theorem storeIssue : Obligations.StoreIssue := by
  constructor
  · intro p hp s g d b o base v ia w n ea hg hb hd hc ha
    simp only [List.mem_cons, List.not_mem_nil, or_false] at hp
    rcases hp with rfl | rfl | rfl | rfl | rfl | rfl | rfl
    iterate 4 exact exec_store_word (fun _ => rfl) (by decide) (.inl rfl) hg hb hd hc ha
    iterate 2 exact exec_store_word (fun _ => rfl) (by decide) (.inr ⟨rfl, .inl rfl⟩) hg hb hd hc ha
    exact exec_store_word (fun _ => rfl) (by decide) (.inr ⟨rfl, .inr rfl⟩) hg hb hd hc ha
  · intro p hp s g d b o base vs ia w n ea hg hb hd hc ha
    simp only [List.mem_cons, List.not_mem_nil, or_false] at hp
    rcases hp with rfl | rfl | rfl | rfl
    iterate 2 exact exec_store_group (fun _ => rfl) (by decide) (.inl rfl) hg hb hd hc ha
    iterate 2 exact exec_store_group (fun _ => rfl) (by decide) (.inr ⟨rfl, rfl⟩) hg hb hd hc ha

end

section
/-! SUPPORT. The row accesses vld and vst (R95, R208): what they share before they leave, and the statement RowAccessIssue. -/

namespace Sys2Proof.Machine

/-- A guarded slot of the vector forms goes on while a tile is bound (R49, R232). -/
theorem State.guarded_bound {s : State} {g : BitVec 4} (hg : Claims.Live s g) (hbound : s.pre.bound = true) (k : State) :
    s.guarded g (if !s.pre.bound then s.undefinedEncoding else k) = k := by
  rw [State.guarded_live hg, hbound]
  rfl

/-- A vector register that can be read gives its row (R19, R237, R240). -/
theorem State.withRow_reads {s : State} {x : Nat} {reads : Bool} {row : Row} (h : Claims.RowReads s x reads row) (f : Row → State) :
    s.withRow x reads f = f row := by
  obtain ⟨hfault, hwait, hmark, rfl⟩ := h
  exact State.withRow_ok hfault hwait hmark f

/-- A row access whose base reads, whose checks pass and which the port takes leaves with its units (R192, R205, R208). -/
theorem State.rowAccess_leaves {s : State} {b : BitVec 7} {base : W64} {wr : Bool} {off : Int} {pf geo : Nat} {us : List (Nat × Nat × Option Nat)}
    (hb : Claims.Reads s b base) (hport : Claims.PortReady s)
    (hcheck : ∀ k : Nat → Nat → List (Nat × Nat × Option Nat) → State, s.rowCheck wr (effAddr base off) k = k pf geo us)
    (k : Nat → Nat → List (Nat × Nat × Option Nat) → State) :
    s.withSource b (fun base => s.rowCheck wr (effAddr base off) (fun pf geo us => s.afterAcquire (k pf geo us))) = k pf geo us := by
  obtain ⟨hacquire, hfull⟩ := hport
  rw [State.withSource_ok hb, hcheck, State.afterAcquire_ok hacquire hfull]

end Sys2Proof.Machine

open Sys2Proof Sys2Proof.Machine

/-- Settles O19: with the guard true, a tile bound, the row there and the checks passed, what is left of vld and of vst is the draw and the
requests. -/
theorem rowAccessIssue : Obligations.RowAccessIssue := by
  intro s g v b r f o base pf geo us row t step hg hbound hb hport
  constructor
  · intro hfree hcheck
    change execVld g v b r f o s = _
    rw [execVld, State.guarded_bound hg hbound, State.withRowDest_ok hfree, State.rowAccess_leaves hb hport hcheck]
    rfl
  · intro hrow hcheck
    change execVst g v b r f o s = _
    rw [execVst, State.guarded_bound hg hbound, State.withRow_reads hrow, State.rowAccess_leaves hb hport hcheck]
    rfl

end

section
/-! SUPPORT. How a task leaves its context for a fault (R124, R133, R141), the host's error record (R449), and the statement TrapEntry. -/

namespace Sys2Proof.Machine

-- Tasks of a Compass --------------------------------------------------------------------------------------------------------------

@[simp] theorem State.task?_setTask (s : State) (d u : Nat) (t : Task) : (s.setTask d u t).task? d u = some t := by
  simp [State.task?, State.setTask]
@[simp] theorem State.ctx_setTask (s : State) (d u : Nat) (t : Task) (g : Nat) : (s.setTask d u t).ctx g = s.ctx g := rfl

/-- A task that a Compass has is changed in its place. -/
theorem State.modTask_eq {s : State} {d u : Nat} {t : Task} (h : s.task? d u = some t) (f : Task → Task) : s.modTask d u f = s.setTask d u (f t) := by
  simp only [State.modTask, h]

@[simp] theorem State.ctx_modTask (s : State) (d u : Nat) (f : Task → Task) (g : Nat) : (s.modTask d u f).ctx g = s.ctx g := by
  unfold State.modTask; split <;> rfl
@[simp] theorem State.mem_modTask (s : State) (d u : Nat) (f : Task → Task) : (s.modTask d u f).mem = s.mem := by
  unfold State.modTask; split <;> rfl
@[simp] theorem State.pkgs_modTask (s : State) (d u : Nat) (f : Task → Task) : (s.modTask d u f).pkgs = s.pkgs := by
  unfold State.modTask; split <;> rfl

-- The end of an issuing turn, and the release of the array (R128, R264) -------------------------------------------------------------

@[simp] theorem State.ctx_endTurn (s : State) (g h : Nat) : (s.endTurn g).ctx h = s.ctx h := by unfold State.endTurn; split <;> rfl
@[simp] theorem State.mem_endTurn (s : State) (g : Nat) : (s.endTurn g).mem = s.mem := by unfold State.endTurn; split <;> rfl
@[simp] theorem State.pkgs_endTurn (s : State) (g : Nat) : (s.endTurn g).pkgs = s.pkgs := by unfold State.endTurn; split <;> rfl
@[simp] theorem State.task?_endTurn (s : State) (g d u : Nat) : (s.endTurn g).task? d u = s.task? d u := by unfold State.endTurn; split <;> rfl

@[simp] theorem State.ctx_releaseArray (s : State) (c u g : Nat) : (s.releaseArray c u).ctx g = s.ctx g := rfl
@[simp] theorem State.mem_releaseArray (s : State) (c u : Nat) : (s.releaseArray c u).mem = s.mem := rfl
@[simp] theorem State.pkgs_releaseArray (s : State) (c u : Nat) : (s.releaseArray c u).pkgs = s.pkgs := rfl

-- Leaving a context (R133, R140, R141) --------------------------------------------------------------------------------------------

/-- A task leaves its context, which then is FREE, after its record and the array alone have been told. -/
theorem State.leaveContext_cases (s : State) (g : Nat) (w : Stop) :
    ∃ r : State, s.leaveContext g w = (r.modCtx g Ctx.freed).endTurn g ∧ (∀ h, r.ctx h = s.ctx h) ∧ r.mem = s.mem ∧ r.pkgs = s.pkgs := by
  refine ⟨_, rfl, ?_⟩
  split <;> simp

theorem State.ctx_leaveContext (s : State) (g : Nat) (w : Stop) : (s.leaveContext g w).ctx g = (s.ctx g).freed := by
  obtain ⟨r, e, hctx, -, -⟩ := s.leaveContext_cases g w
  rw [e, State.ctx_endTurn, State.ctx_modCtx, hctx]

theorem State.ctx_leaveContext_other (s : State) {g h : Nat} (e : h ≠ g) (w : Stop) : (s.leaveContext g w).ctx h = s.ctx h := by
  obtain ⟨r, eq, hctx, -, -⟩ := s.leaveContext_cases g w
  rw [eq, State.ctx_endTurn, State.ctx_modCtx_other _ e, hctx]

@[simp] theorem State.mem_leaveContext (s : State) (g : Nat) (w : Stop) : (s.leaveContext g w).mem = s.mem := by
  obtain ⟨r, e, -, hmem, -⟩ := s.leaveContext_cases g w
  rw [e, State.mem_endTurn, ← hmem]
  rfl

@[simp] theorem State.pkgs_leaveContext (s : State) (g : Nat) (w : Stop) : (s.leaveContext g w).pkgs = s.pkgs := by
  obtain ⟨r, e, -, -, hpkgs⟩ := s.leaveContext_cases g w
  rw [e, State.pkgs_endTurn, ← hpkgs]
  rfl

/-- The record of a task that faults says so, and has no context. -/
theorem State.task?_leaveContext_faulted {s : State} {g u : Nat} {v : Task} (hu : (s.ctx g).task = some u) (hv : s.task? (dieOfCtx g) u = some v)
    (code : Nat) : ∃ v', (s.leaveContext g (.faulted code)).task? (dieOfCtx g) u = some v' ∧
      v'.stop = some (.faulted code) ∧ v'.ctx = none ∧ v'.words = v.words := by
  unfold State.leaveContext
  simp only [hu, State.task?_endTurn, State.modTask_eq hv]
  exact ⟨_, State.task?_setTask .., rfl, rfl, rfl⟩

-- The end by cause 0x06 or by a fatal trap (R124, R163) -----------------------------------------------------------------------------

/-- The context of a task that a fault has ended is FREE, and its trap registers say why. -/
theorem State.ctx_endFaulted (s : State) (g : Nat) (pc info : W64) :
    (s.endFaulted g pc info).ctx g = { s.ctx g with trap := { (s.ctx g).trap with cause := 6, pc := pc, info := info } : Ctx }.freed := by
  rw [State.endFaulted, State.ctx_leaveContext, State.ctx_modCtx]

theorem State.ctx_endFaulted_other (s : State) {g h : Nat} (e : h ≠ g) (pc info : W64) : (s.endFaulted g pc info).ctx h = s.ctx h := by
  rw [State.endFaulted, State.ctx_leaveContext_other _ e, State.ctx_modCtx_other _ e]

@[simp] theorem State.mem_endFaulted (s : State) (g : Nat) (pc info : W64) : (s.endFaulted g pc info).mem = s.mem := by
  rw [State.endFaulted, State.mem_leaveContext]
  rfl

@[simp] theorem State.pkgs_endFaulted (s : State) (g : Nat) (pc info : W64) : (s.endFaulted g pc info).pkgs = s.pkgs := by
  rw [State.endFaulted, State.pkgs_leaveContext]
  rfl

/-- The record of a task that a fault has ended holds code 3 and its words. -/
theorem State.task?_endFaulted {s : State} {g u : Nat} {v : Task} (hu : (s.ctx g).task = some u) (hv : s.task? (dieOfCtx g) u = some v) (pc info : W64) :
    ∃ v', (s.endFaulted g pc info).task? (dieOfCtx g) u = some v' ∧ v'.stop = some (.faulted 3) ∧ v'.ctx = none ∧ v'.words = v.words := by
  unfold State.endFaulted
  apply State.task?_leaveContext_faulted
  · rw [State.ctx_modCtx]
    exact hu
  · exact hv

/-- The host's error record of a die is appended to its package's list (R449). -/
theorem State.errors_errorRecord (s : State) (d cls core eng : Nat) (addr cause pc info rec : W64) :
    ((s.errorRecord d cls core eng addr cause pc info rec).pkg (d / 4)).errors =
      (s.pkg (d / 4)).errors ++ [s.errorWords d cls core eng addr cause pc info rec] := by
  simp [State.errorRecord, State.toRing, State.keepRecord]

-- Traps (R124, R162, R163) ----------------------------------------------------------------------------------------------------------

/-- A fatal trap is reported to the host and ends the task (R163). -/
theorem State.takeTrap_fatal {s : State} {g cause : Nat} (h6 : cause ≠ 6) (hf : (s.ctx g).trap.fatal = true) (pc info : W64) :
    s.takeTrap g cause pc info =
      (s.errorRecord (dieOfCtx g) 3 (coreOfCtx g % 64) (causeEngine cause info) 0 (w64 cause) pc info (s.recordOf g)).endFaulted g pc 0 := by
  rw [State.takeTrap, if_neg h6, if_pos hf]

/-- A trap that is not fatal enters the handler (R162). -/
theorem State.takeTrap_handler {s : State} {g cause : Nat} (h6 : cause ≠ 6) (hf : (s.ctx g).trap.fatal = false) (pc info : W64) :
    s.takeTrap g cause pc info = s.modCtx g (fun c => c.enterHandler cause pc info) := by
  rw [State.takeTrap, if_neg h6, if_neg (by simp [hf])]

/-- The record of the task bound to a context is the one that its trap names. -/
theorem State.recordOf_bound {s : State} {g u : Nat} {v : Task} (hu : (s.ctx g).task = some u) (hv : s.task? (dieOfCtx g) u = some v) :
    s.recordOf g = w64 v.ia := by
  simp [State.recordOf, State.boundTask, hu, hv]

end Sys2Proof.Machine

open Sys2Proof Sys2Proof.Machine

/-- Settles O53: cause 0x06 ends the task as a fault does, and so does a fatal trap after its report; any other trap enters the handler. -/
theorem trapEntry : Obligations.TrapEntry := by
  intro s g cause pc info _ c t fatal
  refine ⟨fun h6 hf => State.takeTrap_handler h6 hf pc info, fun u v hu hv hend => ?_⟩
  by_cases h6 : cause = 6
  · rw [show t = s.endFaulted g pc info from if_pos h6, State.ctx_endFaulted]
    exact ⟨rfl, rfl, rfl, rfl, State.mem_endFaulted .., State.task?_endFaulted hu hv pc info, fun h e => State.ctx_endFaulted_other s e pc info,
      fun _ => ⟨State.pkgs_endFaulted .., rfl, rfl⟩, fun h => absurd h6 h⟩
  · have ht : t = _ := State.takeTrap_fatal h6 (hend.resolve_left h6) pc info
    rw [ht, State.recordOf_bound hu hv, State.ctx_endFaulted, State.pkg, State.pkgs_endFaulted]
    exact ⟨rfl, rfl, rfl, rfl, State.mem_endFaulted .., State.task?_endFaulted (s := s.errorRecord ..) hu hv pc 0,
      fun h e => State.ctx_endFaulted_other _ e pc 0, fun h => absurd h h6, fun _ => State.errors_errorRecord ..⟩

end

section
/-! SUPPORT. Accesses that are not aligned as they must be (R183, R202, R206), with the statement AccessTraps. -/

namespace Sys2Proof.Machine

section
variable {s : State} {g : BitVec 4} {d b : BitVec 7} {off : Int} {n ia w : Nat} {base : W64}

/-- An ordered load that is not aligned to its size raises cause 0x04 (R183). -/
theorem State.load_misaligned (hg : Claims.Live s g) (hf : Claims.Free s (loadRegs d n)) (hb : Claims.Reads s b base)
    (ht : translate s.pre.wnd (effAddr base (off * n)) n = some (ia, w)) (ha : effAddr base (off * n) % n ≠ 0) (signed : Bool) :
    s.load g d b off n signed true = s.raise 4 (vaInfo false (effAddr base (off * n))) := by
  rw [State.load, State.guarded_live hg, State.withDests_free hf, State.withSource_ok hb]
  exact State.globalCheck_align ht ha _

/-- A store that is not aligned as it must be raises cause 0x04 (R183, R206). -/
theorem State.store_misaligned {align : Nat} {bs : List Byte} (hg : Claims.Live s g) (hb : Claims.Reads s b base)
    (hd : ∀ k, s.withStoreData d n k = k bs) (ht : translate s.pre.wnd (effAddr base (off * n)) n = some (ia, w))
    (ha : effAddr base (off * n) % align ≠ 0) (kind : MKind) (rel : Bool) :
    s.store g d b off n kind align rel = s.raise 4 (vaInfo true (effAddr base (off * n))) := by
  rw [State.store, State.guarded_live hg, State.withSource_ok hb, hd]
  exact State.globalCheck_align ht ha _

end

end Sys2Proof.Machine

open Sys2Proof Sys2Proof.Machine

/-- Settles O13: the checks of an access stop at the first that fails, and the ordered and the bulk forms ask for the alignment of their size. -/
theorem accessTraps : Obligations.AccessTraps := by
  refine ⟨fun s wr ea n align k ht => State.globalCheck_window ht k, fun s wr ea n align ia w k ht ha => State.globalCheck_align ht ha k,
    fun s wr ea n align ia w x k ht ha hf => State.globalCheck_footprint ht ha hf k, ?_, ?_⟩
  · intro p hp s g d b o base v ia w ea hg hf hb hd ht ha
    simp only [List.mem_cons, List.not_mem_nil, or_false] at hp
    rcases hp with rfl | rfl | rfl | rfl | rfl
    · exact congrArg _ (State.load_misaligned (n := 4) hg hf hb ht ha true)
    · exact congrArg _ (State.load_misaligned (n := 8) hg hf hb ht ha true)
    iterate 3 exact congrArg _ (State.store_misaligned hg hb (State.withStoreData_word (by decide) hd) ht ha _ _)
  · intro p hp s g d b o base vs ia w ea hg hb hd ht ha
    simp only [List.mem_cons, List.not_mem_nil, or_false] at hp
    rcases hp with rfl | rfl
    all_goals exact congrArg _ (State.store_misaligned hg hb (State.withStoreData_group (by decide) hd) ht ha .writeNc false)

end

section
/-! SUPPORT. The instructions that act on the record of the task (R113, R119, R138 to R142): suspension points, tld and tst, spawn, and the three
ways of gsub, with the statement RecordInstructions. -/

namespace Sys2Proof.Machine

-- Suspension points (R140) ------------------------------------------------------------------------------------------------------------

/-- A suspension point that waits for no carried word stops the task where no bundle is in flight. -/
theorem State.stopPoint_alone {s : State} {w : Stop} (hb : s.bun.on = false) (hc : w = .ended ∨ s.pre.carryPending = false) :
    s.stopPoint w = s.stopTask s.cur s.me.pc w := by
  rcases hc with rfl | hc <;> simp [State.stopPoint, *]

/-- Within a bundle it is noted, and acts after the commit. -/
theorem State.stopPoint_bundle {s : State} {w : Stop} (hb : s.bun.on = true) (hc : w = .ended ∨ s.pre.carryPending = false) :
    s.stopPoint w = s.modBun (fun f => { f with stop := some w }) := by
  rcases hc with rfl | hc <;> simp [State.stopPoint, *]

-- The live record (R113, R142) ----------------------------------------------------------------------------------------------------------

theorem exec_tld {s : State} {t : Task} {d : BitVec 7} (ht : s.boundTask s.cur = some t) (hf : Claims.Free s [d.toNat]) (w : BitVec 3) :
    exec (.tld w d) s = .next (s.writeReg d (if w = 1 then w64 (setBitsN (t.word 1).toNat 47 44 4) else t.word w.toNat)) := by
  show execTld w d s = _
  rw [execTld, State.withDests_free hf, ht]

/-- Word 0 is not written, and the addresses in words 2 and 3 must be aligned. -/
theorem exec_tst {s : State} {t : Task} {u : Nat} {w : BitVec 3} {x : BitVec 7} {v : W64} (ht : s.boundTask s.cur = some t) (hu : s.me.task = some u)
    (hx : Claims.Reads s x v) (h0 : w ≠ 0) (ha : w = 2 ∨ w = 3 → v.toNat % 64 = 0) :
    exec (.tst w x) s = .next (s.setTask s.myDie u { t with words := setAt w.toNat (tstWord (t.word w.toNat) v w.toNat t.sys) t.words }) := by
  have halign : ((w = 2 || w = 3) && v.toNat % 64 != 0) = false := by
    by_cases h : w = 2 ∨ w = 3
    · simp [ha h]
    · simpa using fun hw => absurd hw h
  show execTst w x s = _
  rw [execTst, if_neg h0, State.withSource_ok hx, ht, hu]
  simp only [halign, Bool.false_eq_true, if_false]

-- spawn (R139) ----------------------------------------------------------------------------------------------------------------------------

section
variable {s : State} {x : BitVec 7} {v : W64} {ia w : Nat} (hx : Claims.Reads s x v) (ht : translate s.pre.wnd v.toNat 64 = some (ia, w))
  (ha : v.toNat % 64 = 0) (hf : footprintMiss (s.card s.cur) false ia 64 = none) (hm : s.memFaulted ia 64 = false)
include hx ht ha hf hm

/-- A VA whose record passes the checks of a read gives its IA (R205). -/
theorem State.withRecordIA (k : Nat → Nat → State) : s.withSource x (fun v => s.globalCheck false v.toNat 64 64 k) = k ia w := by
  rw [State.withSource_ok hx, State.globalCheck_ok ht ha hf (.inr hm)]

/-- spawn leaves its question with Compass and its predicate pair pending. -/
theorem exec_spawn {b : BitVec 3} (hd : Claims.Free s [128 + b.toNat, 128 + b.toNat + 1]) (hp : Claims.PortReady s) :
    exec (.spawn b x) s = .next ((({ s with nextId := s.nextId + 1 } : State).modMe (fun c =>
      { c with pend := (128 + b.toNat, s.nextId) :: (128 + b.toNat + 1, s.nextId) :: c.pend })).modCompass s.myDie (fun k =>
        { k with spawns := k.spawns ++
          [⟨s.cur, s.pre.task.getD 0, b.toNat, ia, ({ s with nextId := s.nextId + 1 } : State).pendingSet s.cur, s.nextId, false, s.pre.pkr⟩] })) := by
  show execSpawn b x s = _
  obtain ⟨hacquire, hfull⟩ := hp
  dsimp only [execSpawn]
  rw [State.withDests_free hd, State.withRecordIA hx ht ha hf hm, State.afterAcquire_ok hacquire hfull]
  rfl

-- gsub (R119, R142; log 86) -----------------------------------------------------------------------------------------------------------------

variable (hs : s.sysMode s.cur = true)
include hs

/-- Behind a store of its bundle or an access that is out, gsub is left to Compass. -/
theorem exec_gsub_behind (hbehind : s.gsubBehind = true) : exec (.gsub x) s = .next (s.gsubLater ia) := by
  show execGsub x s = _
  rw [execGsub, State.systemOnly_ok hs, State.withRecordIA hx ht ha hf hm, if_pos hbehind]

/-- A descriptor that cannot be read now is left to Compass. -/
theorem exec_gsub_waits {need : Need} (hbehind : s.gsubBehind = false)
    (hr : s.readMany s.myDie .load (s.pendingSet s.cur) (pagePieces 3 ia 64) = .wait need) : exec (.gsub x) s = .next (s.gsubLater ia) := by
  show execGsub x s = _
  rw [execGsub, State.systemOnly_ok hs, State.withRecordIA hx ht ha hf hm, if_neg (by simp [hbehind]), hr]

/-- One that is read, with room for the dependencies that it brings, is submitted at once. -/
theorem exec_gsub_submits {bs : List Byte} {key e : Nat} {st : List Ent} {u : State} (hbehind : s.gsubBehind = false)
    (hr : s.readMany s.myDie .load (s.pendingSet s.cur) (pagePieces 3 ia 64) = .ok bs key st e) (hk : keyReads s.pre.pkr key = true)
    (hd : (mergedDeps s.tick s.nextId s.me.deps st).length ≤ 8)
    (hu : (s.afterSync st).submitGraph s.myDie (wordsOf 8 bs) = .ok u) : exec (.gsub x) s = .next u := by
  show execGsub x s = _
  rw [execGsub, State.systemOnly_ok hs, State.withRecordIA hx ht ha hf hm, if_neg (by simp [hbehind]), hr]
  dsimp only
  rw [if_neg (by simp [hk]), if_neg (by omega), hu]

end

end Sys2Proof.Machine

open Sys2Proof Sys2Proof.Machine

/-- Settles O11, by one lemma for each instruction and each way of gsub. -/
theorem recordInstructions : Obligations.RecordInstructions := by
  constructor
  · intro s w d x v t u ht hu hd hx
    exact ⟨exec_tld ht hd w, fun h0 ha => exec_tst ht hu hx h0 ha,
      fun hb hc => ⟨congrArg _ (State.stopPoint_alone hb (.inr hc)), congrArg _ (State.stopPoint_alone hb (.inr hc))⟩,
      fun hb => congrArg _ (State.stopPoint_alone hb (.inl rfl)),
      fun hb hc => ⟨congrArg _ (State.stopPoint_bundle hb (.inr hc)), congrArg _ (State.stopPoint_bundle hb (.inr hc))⟩,
      fun hb => congrArg _ (State.stopPoint_bundle hb (.inl rfl))⟩
  · intro s b x v ia w hx ht ha hf hm
    refine ⟨exec_spawn hx ht ha hf hm, fun hs => ⟨exec_gsub_behind hx ht ha hf hm hs, ?_, ?_⟩⟩
    · rintro hbehind ⟨need, hr⟩
      exact exec_gsub_waits hx ht ha hf hm hs hbehind hr
    · intro hbehind bs key st e hr hk ds hd u hu
      exact exec_gsub_submits hx ht ha hf hm hs hbehind hr hk hd hu

end

section
/-! SUPPORT. The events of Compass (R113 to R142), one lemma for each way of an event that a statement speaks of: placement, launch, write-back, nodes
and the refill of the slots; with the statement CompassEvents. -/

namespace Sys2Proof.Machine

-- Steps of Compass that may have to wait ------------------------------------------------------------------------------------------------

@[simp] theorem Io.bind_ok {α β : Type} (a : α) (f : α → Io β) : (Io.ok a).bind f = f a := rfl
@[simp] theorem Io.orElse_ok {α : Type} (a x : α) : (Io.ok a).orElse x = .ok a := rfl
@[simp] theorem Io.orKeep_ok (r s : State) : (Io.ok r).orKeep s = r := rfl

-- Placement (R122, R123, R126) ------------------------------------------------------------------------------------------------------------

/-- A record that its card gates is not placed: only the card is kept (R122). -/
theorem State.place_gated {s : State} {d u : Nat} {t : Task} {card : Option (List Region)} (hc : s.placementCard d t = .ok card)
    (hg : (s.die d).compass.gated u { t with card := card.getD t.card } = true) (core : Option Nat) :
    s.place d u t core = .ok (s.setTask d u { t with card := card.getD t.card }) := by
  simp only [State.place, hc, Io.bind_ok, hg, if_true]

/-- The allocation of a core task changes no context. -/
theorem State.freeCtx_zeroAlloc (s : State) (c k : Nat) (units tiles : List Nat) : (s.zeroAlloc c units tiles).freeCtx k = s.freeCtx k := rfl

/-- A record that holds no core takes its units and tiles, the lowest free context, and the leases to ask for (R123, R126). -/
theorem State.place_core {s : State} {d u c g : Nat} {t : Task} {card : List Region} (hcore : t.core = none) (hf : s.freeCtx c = some g)
    (hc : s.placementCard d t = .ok (some card)) (hg : (s.die d).compass.gated u { t with card := card } = false) :
    let units := (s.freeUnits c).take t.spad
    let tiles := (s.freeTiles c).take t.tileNeed
    s.place d u t (some c) = .ok (((s.zeroAlloc c units tiles).setCtx g { Ctx.init with life := .reserved, task := some u }).setTask d u { t with
      st := 3, card := card, leases := (s.cardPages d card).map (fun n => ⟨n, false, 0⟩), passed := none, reserved := none, core := some c,
      units := units, tiles := tiles }) := by
  intro units tiles
  simp only [State.place, hc, Io.bind_ok, Option.getD_some, hg, Bool.false_eq_true, if_false]
  simp only [hcore, Option.isSome_none, State.freeCtx_zeroAlloc, hf, Bool.false_eq_true, if_false]
  rfl

-- Launch (R116, R123, R409, R410) ---------------------------------------------------------------------------------------------------------

/-- A context that is activated is what its launch or its resume gives it. -/
theorem State.ctx_activate (s : State) (d u g : Nat) (t : Task) (c : Ctx) : (s.activate d u g t c).ctx g = c := by
  simp only [State.activate, State.ctx_setTask, State.ctx_modCore, State.ctx_wake, State.learnAll, State.ctx_modDie, State.dropRoc, State.ctx_setCtx]

/-- The task that it runs is active, at the start of its quantum, with nothing left of an earlier binding. -/
theorem State.task?_activate (s : State) (d u g : Nat) (t : Task) (c : Ctx) : (s.activate d u g t c).task? d u = some { t with
    st := 4, ctx := some g, bound := s.tick, quantum := s.tick, restore := false, drained := false, faults := [], loadFaults := false, kept := [],
    spoiled := [] } := by
  have htick : (((((s.setCtx g c).dropRoc (coreOfCtx g)).learnAll d).wake d).modCore (coreOfCtx g) (fun k =>
    if k.array.holder = some u then { k with array := { k.array with paused := false } } else k)).tick = s.tick := State.tick_wake ..
  rw [State.activate]
  dsimp only
  rw [State.task?_setTask, htick]

/-- A launch without pending faults takes the windows of the graph (R116). -/
theorem State.launch_ok {s : State} {d u g : Nat} {t : Task} {x : Graph} {w : Map W64} (hl : t.loadFaults = false) (hw : s.readWindows d x.wset = .ok w) :
    s.launch d u g t x = .ok (s.activate d u g { t with lost := 0 } (launchCtx t u w x.pkr0 [])) := by
  simp [State.launch, hl, hw]

/-- The launch of a collective node whose descriptor is empty or whose group does not exist takes no number. -/
theorem State.launchCollective_none {s : State} {d u : Nat} {t : Task} {ws : List W64} (hw : s.unitWords d (bits (t.word 0) 51 0) 8 = .ok ws)
    (h : ws = [] ∨ (s.grp d (cdGrp ws)).v = false) : s.launchCollective d u t = .ok (s.setTask d u { t with st := 4, number := none }) := by
  have hnone : (!(s.grp d (cdGrp ws)).v || ws.isEmpty) = true := by rcases h with rfl | h <;> simp [*]
  simp only [State.launchCollective, hw, Io.orElse_ok, Io.bind_ok, hnone, if_true]

/-- The group that a collective node names is there. -/
theorem group_named {x : Grp} {ws : List W64} (hne : ws ≠ []) (hv : x.v = true) : (!x.v || ws.isEmpty) = false := by simp [hne, hv]

/-- One whose group has a member task fails (R410). -/
theorem State.launchCollective_member {s : State} {d u : Nat} {t : Task} {ws : List W64} (hw : s.unitWords d (bits (t.word 0) 51 0) 8 = .ok ws)
    (hne : ws ≠ []) (hv : (s.grp d (cdGrp ws)).v = true) (hm : (s.grp d (cdGrp ws)).member.isSome = true) :
    s.launchCollective d u t = .ok ((s.setTask d u { t with st := 4, number := none }).failNode d u) := by
  simp only [State.launchCollective, hw, Io.orElse_ok, Io.bind_ok, group_named hne hv, hm, Bool.false_eq_true, if_false, if_true]

/-- Any other takes the next number of its group (R409). -/
theorem State.launchCollective_numbered {s : State} {d u : Nat} {t : Task} {ws : List W64} (hw : s.unitWords d (bits (t.word 0) 51 0) 8 = .ok ws)
    (hne : ws ≠ []) (hv : (s.grp d (cdGrp ws)).v = true) (hm : (s.grp d (cdGrp ws)).member = none) :
    s.launchCollective d u t = .ok ((s.setTask d u { t with st := 4, number := some (s.grp d (cdGrp ws)).seq }).setGrp d (cdGrp ws)
      { s.grp d (cdGrp ws) with seq := ((s.grp d (cdGrp ws)).seq + 1) % 2 ^ 32 }) := by
  simp only [State.launchCollective, hw, Io.orElse_ok, Io.bind_ok, group_named hne hv, hm, Option.isSome_none, Bool.false_eq_true, if_false]

-- Write-back (R134, R140, R141) -------------------------------------------------------------------------------------------------------------

/-- A task that has nothing parked abandons nothing. -/
theorem State.abandonParked_nil {s : State} {c u : Nat} (h : parkedOf (s.core c).index.parked u (2 ^ 63) = []) : s.abandonParked c u = s := by
  rw [State.abandonParked, h, List.foldl_nil]

section
variable {s : State} {d u c : Nat} {t : Task} (ht : s.task? d u = some t) (hc : t.core = some c)
  (hp : parkedOf (s.core c).index.parked u (2 ^ 63) = [])
include ht hc hp

/-- A task that yields without a footprint violation leaves its pending faults in its save area, its record READY, and takes a new order (R140, R141). -/
theorem State.writeBack_yield {s0 s1 : State} (hsave : t.save ≠ 0) (h6 : find? 6 t.faults = none)
    (h0 : (s.reportOutlived d t).unitStore d (t.save + 0xD08) (pendingImage t.faults) = .ok s0) (h1 : s0.unitStore d t.ia (t.image 1) = .ok s1) :
    s.writeBack d u t .yield = .ok (let (n, s2) := (s1.giveUp d u t.leases s1.nextId).fresh
      s2.setTask d u { t with
        st := 1, slot := t.slot, suspended := false, order := n, leases := [], stop := none, faults := [], deps := [], loadFaults := true }) := by
  have hs : (t.save != 0) = true := by simp [hsave]
  simp only [State.writeBack, hc, State.abandonParked_nil hp, ht, h6, Option.isSome_none, hs, Bool.or_true, if_true, Bool.false_eq_true, if_false,
    bne_self_eq_false, State.writeSuspended, hsave, h0, Io.bind_ok, Bool.true_or, State.writeRecord, h1]
  rfl

/-- A task that ended without faults or successors leaves its record DONE, gives up what it holds, and may end its graph (R134, R140). -/
theorem State.writeBack_ended {s1 : State} (hf : t.faults = []) (hsucc : t.succ = 0) (h1 : s.unitStore d t.ia (t.image 6) = .ok s1) :
    s.writeBack d u t .ended = ((s1.modTask d u (fun t =>
      { t with st := 6, slot := 0, suspended := false, passed := none, reserved := none })).closeTask d u).runEvent d t.graph [] := by
  have hr : s.reportOutlived d t = s := by rw [State.reportOutlived, hf, List.foldl_nil]
  simp only [State.writeBack, hc, State.abandonParked_nil hp, ht, hr, hf, find?_nil, Option.isSome_none, List.isEmpty_nil, if_true, Bool.false_eq_true,
    if_false, bne_self_eq_false, State.successors, hsucc, Io.bind_ok, State.endRecord, State.writeRecord, h1]

end

-- The events ------------------------------------------------------------------------------------------------------------------------------------

section
variable {s : State} {d u : Nat} {t : Task} (hd : d < 2048) (ht : s.task? d u = some t)
include hd ht

/-- At its turn an eligible node is placed without a core (R126). -/
theorem exec_taskPlacement_node (he : s.eligible d u t = true) (hturn : s.isTurn d u t = true) (hk : t.kind ≠ 0) :
    exec (.taskPlacement d u) s = .next ((s.place d u t none).orKeep s) := by
  show execTaskPlacement d u s = _
  rw [execTaskPlacement, onUnit_ok (dieOk_lt hd)]
  simp [ht, he, hturn, hk]

/-- At its turn an eligible core task is placed on the first core that can take it (R126). -/
theorem exec_taskPlacement_core {c : Nat} (he : s.eligible d u t = true) (hturn : s.isTurn d u t = true) (hk : t.kind = 0)
    (hp : s.placeCore d u t = some c) : exec (.taskPlacement d u) s = .next ((s.place d u t (some c)).orKeep s) := by
  show execTaskPlacement d u s = _
  rw [execTaskPlacement, onUnit_ok (dieOk_lt hd)]
  simp [ht, he, hturn, hk, hp]

/-- A record passed over for 2^16 ticks reserves a core (R126). -/
theorem exec_passedOverReservation {c since : Nat} (he : s.eligible d u t = true) (hp : t.passed = some since) (hr : t.reserved = none)
    (hw : since + 2 ^ 16 ≤ s.tick)
    (hc : t.core.or (if t.affv then some (64 * d + t.affcore) else (upFrom (64 * d) 64).find? (fun c => !s.reservedFor d u c)) = some c) :
    exec (.passedOverReservation d u) s = .next (s.setTask d u { t with reserved := some c }) := by
  have hlate : decide (s.tick < since + 2 ^ 16) = false := decide_eq_false (by omega)
  show execPassedOverReservation d u s = _
  rw [execPassedOverReservation, onUnit_ok (dieOk_lt hd)]
  simp only [ht, hp, he, hr, hlate, hc, Option.isSome_none, Bool.not_true, Bool.or_self, Bool.false_eq_true, if_false]

/-- No record of a disabled graph is launched (R142; log 54). -/
theorem exec_taskLaunch_disabled {x : Graph} (hx : s.graph? d t.graph = some x) (hdis : x.disabled = true) : exec (.taskLaunch d u) s = .next s := by
  show execTaskLaunch d u s = _
  rw [execTaskLaunch, onUnit_ok (dieOk_lt hd)]
  simp only [ht, hx, hdis, Bool.or_true, if_true]

section
variable {x : Graph} (hst : t.st = 3) (hl : ∀ l ∈ t.leases, l.stage = 2) (hx : s.graph? d t.graph = some x) (hdis : x.disabled = false)
include hst hl hx hdis

/-- The launch of a record whose leases are all granted, by its kind (R123, R132). -/
theorem exec_taskLaunch : exec (.taskLaunch d u) s = .next (
    if t.kind = 2 then (s.launchCollective d u t).orKeep s
    else if t.kind != 0 then s.setTask d u { t with st := 4 }
    else match t.core.bind (fun c => (upFrom (4 * c) 4).find? (fun g => (s.ctx g).life == Life.reserved && (s.ctx g).task == some u)) with
      | some g => (if t.restore then s.resume d u g t else s.launch d u g t x).orKeep s
      | none => s) := by
  have hleased : t.leases.any (fun l => l.stage != 2) = false := by simpa [List.any_eq_false] using hl
  show execTaskLaunch d u s = _
  rw [execTaskLaunch, onUnit_ok (dieOk_lt hd)]
  simp only [ht, hst, hleased, hx, hdis, bne_self_eq_false, Bool.or_self, Bool.false_eq_true, if_false]
  cases t.core.bind (fun c => (upFrom (4 * c) 4).find? (fun g => (s.ctx g).life == Life.reserved && (s.ctx g).task == some u)) <;> rfl

theorem exec_taskLaunch_collective (hk : t.kind = 2) : exec (.taskLaunch d u) s = .next ((s.launchCollective d u t).orKeep s) := by
  rw [exec_taskLaunch hd ht hst hl hx hdis, if_pos hk]

theorem exec_taskLaunch_node (h0 : t.kind ≠ 0) (h2 : t.kind ≠ 2) : exec (.taskLaunch d u) s = .next (s.setTask d u { t with st := 4 }) := by
  rw [exec_taskLaunch hd ht hst hl hx hdis, if_neg h2, if_pos (by simpa using h0)]

/-- A core task is launched, or resumed, in the context reserved for it. -/
theorem exec_taskLaunch_core {c g : Nat} (hk : t.kind = 0) (hc : t.core = some c)
    (hg : (upFrom (4 * c) 4).find? (fun g => (s.ctx g).life == Life.reserved && (s.ctx g).task == some u) = some g) :
    exec (.taskLaunch d u) s = .next ((if t.restore then s.resume d u g t else s.launch d u g t x).orKeep s) := by
  rw [exec_taskLaunch hd ht hst hl hx hdis, if_neg (by omega), if_neg (by simp [hk]), hc, Option.bind_some, hg]

end

/-- A record that holds no core, and one of whose pages cannot be made resident, is FAULTED with code 2 (R123, R133). -/
theorem exec_residencyRefused (hst : t.st = 3) (hc : t.core = none) (hl : t.leases.any (fun l => l.stage == 3) = true) :
    exec (.residencyRefused d u) s = .next (((s.endRecord d u 2).bind (fun s => (s.closeTask d u).graphDone d t.graph)).orKeep s) := by
  have hrefused : t.leases.all (fun l => l.stage != 3) = false := by
    obtain ⟨l, hmem, h3⟩ := List.any_eq_true.1 hl
    exact List.all_eq_false.2 ⟨l, hmem, by simpa using h3⟩
  show execResidencyRefused d u s = _
  rw [execResidencyRefused, onUnit_ok (dieOk_lt hd)]
  simp only [ht, hst, hc, hrefused, bne_self_eq_false, Bool.or_self, Bool.false_eq_true, if_false]

/-- A stopped task that has left nothing behind is written back (R140, R141). -/
theorem exec_recordWriteBack {w : Stop} (hw : t.stop = some w) (hk : t.kind = 3 → w ≠ .ended) (hleft : s.leftDone d u t = true) (hst : t.st ≠ 7) :
    exec (.recordWriteBack d u) s = .next ((s.writeBack d u t w).orKeep s) := by
  have hcond : (t.kind = 3 && w == .ended || !s.leftDone d u t) = false := by
    by_cases h3 : t.kind = 3
    · simp [h3, hk h3, hleft]
    · simp [h3, hleft]
  show execRecordWriteBack d u s = _
  rw [execRecordWriteBack, onUnit_ok (dieOk_lt hd)]
  simp only [ht, hw, hcond, hst, Bool.false_eq_true, if_false]

/-- A conditional node that runs acts (R135). -/
theorem exec_conditionalNodeRun {x : Graph} (hx : s.graph? d t.graph = some x) (hr : t.nodeRuns 3 = true) :
    exec (.conditionalNodeRun d u) s = .next ((s.conditional d u t x).orKeep s) := by
  show execConditionalNodeRun d u s = _
  rw [execConditionalNodeRun, onUnit_ok (dieOk_lt hd)]
  simp only [ht, hx, hr, if_true]

/-- A join node ends as soon as it runs (R118). -/
theorem exec_joinNodeEnd (hr : t.nodeRuns 5 = true) : exec (.joinNodeEnd d u) s = .next ((s.writeBack d u t .ended).orKeep s) := by
  show execJoinNodeEnd d u s = _
  rw [execJoinNodeEnd, onUnit_ok (dieOk_lt hd)]
  simp only [ht, hr, if_true]

/-- A notify node writes the entry of a well-formed action object and ends (R118, R444). -/
theorem exec_notifyNodeRun {ws : List W64} (hr : t.nodeRuns 4 = true) (hw : (s.unitWords d t.object 1).orElse [w64 (2 ^ 63)] = .ok ws) :
    exec (.notifyNodeRun d u) s = .next (((if bits (wordN ws 0) 63 10 = 0 then s.toRing d (bits (wordN ws 0) 9 0) 1
      [t.word 4, t.word 5, t.word 6, w64 t.ia] else s).writeBack d u t .ended).orKeep s) := by
  show execNotifyNodeRun d u s = _
  rw [execNotifyNodeRun, onUnit_ok (dieOk_lt hd)]
  simp only [ht, hr, hw, Io.bind_ok, Bool.not_true, Bool.false_eq_true, if_false]

/-- A copy node whose descriptor passes its checks enters the node copier's queue (R118, R230). -/
theorem exec_copyNodeRun {ws : List W64} {m : CopyCmd} (hr : t.nodeRuns 1 = true) (hroom : (s.channel (64 * d) 2).cmds.length < 16)
    (hnew : (s.channel (64 * d) 2).cmds.any (fun q => q.2.tag.u == u) = false) (hw : s.unitWords d t.object 8 = .ok ws) (hk : descKind ws ≠ 2)
    (hm : (s.nodeTag d u t).2.nodeCopy d t (s.nodeTag d u t).1 ws = some m) :
    let v := (s.nodeTag d u t).2
    exec (.copyNodeRun d u) s = .next (v.setChannel (64 * d) 2
      { v.channel (64 * d) 2 with cmds := put (s.nodeTag d u t).1.tok m (v.channel (64 * d) 2).cmds }) := by
  intro v
  have hfull : decide (16 ≤ (s.channel (64 * d) 2).cmds.length) = false := decide_eq_false (by omega)
  show execCopyNodeRun d u s = _
  rw [execCopyNodeRun, onUnit_ok (dieOk_lt hd)]
  simp only [ht, hr, hfull, hnew, hw, hk, hm, Io.bind_ok, Io.orElse_ok, Io.orKeep_ok, Bool.not_true, Bool.or_self, Bool.false_eq_true, if_false, v]

/-- A collective node that is not in its queue yet, with room there, joins its group's collective with its number, or fails (R409, R410). -/
theorem exec_collectiveNodeRun {ws : List W64} (hr : t.nodeRuns 2 = true)
    (hnew : (s.die d).coll.queue.any (fun q => q.2.tag.u == u && q.2.node) = false) (hroom : collectives (s.die d).coll.queue < 64)
    (hw : s.unitWords d t.object 8 = .ok ws) (m : Option ColCmd) :
    (s.nodeTag d u t).2.nodeCollective d t (s.nodeTag d u t).1 ws = .ok m → exec (.collectiveNodeRun d u) s = .next (match m, t.number with
      | some m, some q => (s.nodeTag d u t).2.modColl d (fun c => { c with queue := put (s.nodeTag d u t).1.tok { m with seq := q } c.queue })
      | _, _ => (s.nodeTag d u t).2.endNode d u false) := by
  intro hm
  have hfull : decide (64 ≤ collectives (s.die d).coll.queue) = false := decide_eq_false (by omega)
  show execCollectiveNodeRun d u s = _
  rw [execCollectiveNodeRun, onUnit_ok (dieOk_lt hd)]
  simp only [ht, hr, hnew, hfull, hw, hm, Io.bind_ok, Io.orElse_ok, Bool.not_true, Bool.or_self, Bool.false_eq_true, if_false]
  cases m with
  | none => rfl
  | some m => cases t.number <;> rfl

end

/-- The first graph in turn whose queue's front may enter a slot refills it, and its turn is over (R125). -/
theorem exec_overflowQueueRefill {s : State} {d gi v : Nat} {g : Graph} {rest : List Nat} (hd : d < 2048)
    (hturn : ((s.die d).compass.graphs.filter (fun g => decide ((s.die d).compass.lastRefill < g.1)) ++
      (s.die d).compass.graphs.filter (fun g => decide (g.1 ≤ (s.die d).compass.lastRefill))).find?
        (fun g => (s.die d).compass.frontSlot g.2 != 0) = some (gi, g))
    (hq : g.queue = v :: rest) (hb : g.blocked = []) :
    exec (.overflowQueueRefill d) s = .next (((s.modTask d v (fun t => { t with st := 1, slot := (s.die d).compass.frontSlot g })).modGraph d gi
      (fun g => { g with queue := rest })).modCompass d (fun k => { k with lastRefill := gi })) := by
  show execOverflowQueueRefill d s = _
  rw [execOverflowQueueRefill, onUnit_ok (dieOk_lt hd)]
  simp only [hturn, hq, hb]

end Sys2Proof.Machine

open Sys2Proof Sys2Proof.Machine

/-- Settles O43, by one lemma for each way of an event. -/
theorem compassEvents : Obligations.CompassEvents := by
  intro s r d u t hd ht
  refine ⟨fun he hturn => ⟨?_, ?_, ?_, ?_⟩, fun c since he hp hr hw hc => exec_passedOverReservation hd ht he hp hr hw hc,
    ?_, ?_, ?_, ?_, ?_, ?_, ?_, ?_, ?_, ?_, ?_, ?_⟩
  · intro c hk hp hr
    rw [exec_taskPlacement_core hd ht he hturn hk hp, hr, Io.orKeep_ok]
  · intro hk hr
    rw [exec_taskPlacement_node hd ht he hturn hk, hr, Io.orKeep_ok]
  · intro card hkind hc hg
    by_cases hk : t.kind = 0
    · obtain ⟨c, hp⟩ := Option.isSome_iff_exists.1 (hkind.resolve_left (absurd hk))
      rw [exec_taskPlacement_core hd ht he hturn hk hp, State.place_gated hc hg, Io.orKeep_ok]
    · rw [exec_taskPlacement_node hd ht he hturn hk, State.place_gated hc hg, Io.orKeep_ok]
  · intro c g card hk hcore hp hf hc hg
    rw [exec_taskPlacement_core hd ht he hturn hk hp, State.place_core hcore hf hc hg]
    exact ⟨_, rfl, State.ctx_setCtx .., State.task?_setTask ..⟩
  · intro x _ _ hx hdis
    exact exec_taskLaunch_disabled hd ht hx hdis
  · intro x hst hl hx hdis
    refine ⟨exec_taskLaunch_node hd ht hst hl hx hdis, fun ws hk hw => ?_, fun c g hk hc hg => ?_⟩
    · rw [exec_taskLaunch_collective hd ht hst hl hx hdis hk]
      exact ⟨fun h => by rw [State.launchCollective_none hw h, Io.orKeep_ok],
        fun hne hv hm => by rw [State.launchCollective_member hw hne hv hm, Io.orKeep_ok],
        fun hne hv hm => by rw [State.launchCollective_numbered hw hne hv hm, Io.orKeep_ok]⟩
    · rw [exec_taskLaunch_core hd ht hst hl hx hdis hk hc hg]
      refine ⟨fun hr => by rw [hr, Io.orKeep_ok], fun w hre hlf hw => ⟨_, rfl, ?_⟩⟩
      rw [if_neg (by simp [hre]), State.launch_ok hlf hw, Io.orKeep_ok]
      exact ⟨State.ctx_activate .., State.task?_activate ..⟩
  · intro s1 hst hc hl h1 hr
    rw [exec_residencyRefused hd ht hst hc hl, h1, Io.bind_ok, hr, Io.orKeep_ok]
  · intro w hw hk hleft hst hr
    rw [exec_recordWriteBack hd ht hw hk hleft hst, hr, Io.orKeep_ok]
  · intro c s0 s1 hw hleft hst hc hp hsave h6 h0 h1
    rw [exec_recordWriteBack hd ht hw (fun _ => nofun) hleft hst, State.writeBack_yield ht hc hp hsave h6 h0 h1]
    rfl
  · intro c s1 hw hk hleft hst hc hp hf hsucc h1 hr
    rw [exec_recordWriteBack hd ht hw (by omega) hleft hst, State.writeBack_ended ht hc hp hf hsucc h1, hr, Io.orKeep_ok]
  · intro x hx hruns hr
    rw [exec_conditionalNodeRun hd ht hx hruns, hr, Io.orKeep_ok]
  · intro hruns hr
    rw [exec_joinNodeEnd hd ht hruns, hr, Io.orKeep_ok]
  · intro ws hruns hw hr
    rw [exec_notifyNodeRun hd ht hruns hw, hr, Io.orKeep_ok]
  · intro ws m hruns hroom hnew hw hk hm
    exact exec_copyNodeRun hd ht hruns hroom hnew hw hk hm
  · intro ws m hruns hnew hroom hw hne
    refine ⟨fun hm => exec_collectiveNodeRun hd ht hruns hnew hroom hw none hm, fun q hm hq => ?_⟩
    rw [exec_collectiveNodeRun hd ht hruns hnew hroom hw (some m) hm, hq]
    rfl
  · intro k gi g v rest hturn hq hb
    exact exec_overflowQueueRefill hd hturn hq hb

end

section
/-! SUPPORT. The scalar instructions (R170 to R173): each form once its operands are there, the shifts, fields and counts in Lean's own
terms, and the statements IntegerResult and FloatResult. -/

namespace Sys2Proof.Machine

-- Fields of a shift amount (R170) ------------------------------------------------------------------------------------------------------

/-- Bits [5:0] of a value. -/
theorem bits_five_zero (b : W64) : bits b 5 0 = b.toNat % 64 := by simp [bits, bitsN]

/-- Bits [11:6] of a value. -/
theorem bits_eleven_six (b : W64) : bits b 11 6 = b.toNat / 64 % 64 := rfl

-- The results, by the operators of Lean (R170) --------------------------------------------------------------------------------------------

theorem shlVal_eq (x y : W64) : shlVal x y = x <<< (y.toNat % 64) := by
  apply BitVec.eq_of_toNat_eq
  simp [shlVal, bits_five_zero, w64, Nat.shiftLeft_eq]

theorem shrVal_eq (x y : W64) : shrVal x y = x >>> (y.toNat % 64) := by
  have hx := x.isLt
  apply BitVec.eq_of_toNat_eq
  rw [shrVal, bits_five_zero, w64, BitVec.toNat_ofNat, BitVec.toNat_ushiftRight, Nat.shiftRight_eq_div_pow]
  exact Nat.mod_eq_of_lt (Nat.lt_of_le_of_lt (Nat.div_le_self ..) hx)

theorem sraVal_eq (x y : W64) : sraVal x y = x.sshiftRight (y.toNat % 64) := by
  rw [sraVal, bits_five_zero, BitVec.sshiftRight, Int.shiftRight_eq_div_pow]

/-- Adding a value shifted left by k bits is adding its multiple. -/
theorem addshVal_eq (k : Nat) (x y : W64) : addshVal k x y = x + y * BitVec.ofNat 64 (2 ^ k) := by
  apply BitVec.eq_of_toNat_eq
  simp [addshVal, w64, Nat.add_mod, Nat.mul_mod]

theorem lihVal_eq (z : W64) (i : BitVec 14) : lihVal z i = z * 16384 + i.zeroExtend 64 := by
  apply BitVec.eq_of_toNat_eq
  simp [lihVal, w64]

theorem bextVal_eq (x y : W64) : bextVal x y = BitVec.ofNat 64 (x.toNat / 2 ^ (y.toNat % 64) % 2 ^ (y.toNat / 64 % 64 + 1)) := by
  rw [bextVal, bits_five_zero, bits_eleven_six, w64]

theorem binsVal_eq (z x y : W64) : binsVal z x y =
    ((z &&& ~~~(BitVec.ofNat 64 ((2 ^ (y.toNat / 64 % 64 + 1) - 1) * 2 ^ (y.toNat % 64)))) |||
      BitVec.ofNat 64 (x.toNat % 2 ^ (y.toNat / 64 % 64 + 1) * 2 ^ (y.toNat % 64))) := by
  simp only [binsVal, bits_five_zero, bits_eleven_six, w64]

theorem clzVal_eq (x : W64) : clzVal x = BitVec.ofNat 64 (((List.range 64).find? (fun k => x.getLsbD (63 - k))).getD 64) := by
  rw [clzVal, clzN_eq x.toNat x.isLt]
  rfl

theorem ctzVal_eq (x : W64) : ctzVal x = BitVec.ofNat 64 (((List.range 64).find? x.getLsbD).getD 64) := by
  rw [ctzVal, ctzN_eq]
  rfl

theorem popcVal_eq (x : W64) : popcVal x = BitVec.ofNat 64 ((List.range 64).countP x.getLsbD) := by
  rw [popcVal, popcountN_eq]
  rfl

/-- The conditions of cmp, by their codes (R63). -/
theorem cmpHolds_of_mem {c : Nat} {x y : W64} {v : Bool}
    (h : (c, v) ∈ [(0, decide (x = y)), (1, decide (x ≠ y)), (2, decide (x.toInt < y.toInt)), (3, decide (x.toInt ≤ y.toInt)),
      (4, decide (x.toInt > y.toInt)), (5, decide (x.toInt ≥ y.toInt)), (6, decide (x.toNat < y.toNat)), (7, decide (x.toNat ≤ y.toNat)),
      (8, decide (x.toNat > y.toNat)), (9, decide (x.toNat ≥ y.toNat))]) : cmpHolds c x y = v := by
  simp only [List.mem_cons, Prod.mk.injEq, List.not_mem_nil, or_false] at h
  rcases h with ⟨rfl, rfl⟩ | ⟨rfl, rfl⟩ | ⟨rfl, rfl⟩ | ⟨rfl, rfl⟩ | ⟨rfl, rfl⟩ | ⟨rfl, rfl⟩ | ⟨rfl, rfl⟩ | ⟨rfl, rfl⟩ | ⟨rfl, rfl⟩ | ⟨rfl, rfl⟩
  case inr.inl => by_cases e : x = y <;> simp [cmpHolds, e]
  all_goals rfl

-- The forms of S1 and S2 whose operands are there (R49, R50, R145) -----------------------------------------------------------------------------

section
variable {s : State} {g : BitVec 4} {d a b : BitVec 7} {x y z : W64} (hg : Claims.Live s g) (hd : Claims.Free s [d.toNat]) (ha : Claims.Reads s a x)
include hg hd ha

theorem State.alu1_writes {f : W64 → W64} {v : W64} (hv : f x = v) : s.alu1 g d a f = s.writeReg d v := by
  rw [State.alu1, State.toReg_live hg hd, State.withSource_ok ha, hv]

variable (hb : Claims.Reads s b y)
include hb

theorem State.alu2_writes {f : W64 → W64 → W64} {v : W64} (hv : f x y = v) : s.alu2 g d a b f = s.writeReg d v := by
  rw [State.alu2, State.toReg_live hg hd, State.with2_ok ha hb, hv]

theorem State.divide_writes (f : W64 → W64 → W64) (hy : y ≠ 0) : s.divide g d a b f = s.writeReg d (f x y) := by
  rw [State.divide, State.toReg_live hg hd, State.with2_ok ha hb, if_neg hy]

theorem State.divide_zero (f : W64 → W64 → W64) (hy : y = 0) : s.divide g d a b f = s.raise 0x0B s.slotInfo := by
  rw [State.divide, State.toReg_live hg hd, State.with2_ok ha hb, if_pos hy]

/-- bins has three sources, its destination among them (R170). -/
theorem exec_bins {v : W64} (hz : Claims.Reads s d z) (hv : binsVal z x y = v) : exec (.bins g d a b) s = .next (s.writeReg d v) := by
  show execBins g d a b s = _
  rw [execBins, State.toReg_live hg hd, State.with3_ok ha hb hz, hv]

theorem State.alu2f_writes (f : Nat → Nat → Nat × Cond) :
    s.alu2f g d a b f = (s.raiseCond (f x.toNat y.toNat).2).writeReg d (w64 (f x.toNat y.toNat).1) := by
  rw [State.alu2f, State.toReg_live hg hd, State.with2_ok ha hb]

theorem State.alu3f_writes (hz : Claims.Reads s d z) (f : Nat → Nat → Nat → Nat × Cond) :
    s.alu3f g d a b f = (s.raiseCond (f x.toNat y.toNat z.toNat).2).writeReg d (w64 (f x.toNat y.toNat z.toNat).1) := by
  rw [State.alu3f, State.toReg_live hg hd, State.with3_ok ha hb hz]

end

theorem exec_li {s : State} {g : BitVec 4} {d : BitVec 7} (hg : Claims.Live s g) (hd : Claims.Free s [d.toNat]) (i : BitVec 14) :
    exec (.li g d i) s = .next (s.writeReg d (i.signExtend 64)) := congrArg Host.Outcome.next (State.toReg_live hg hd _)

theorem exec_fcvt {s : State} {g : BitVec 4} {d a : BitVec 7} {x : W64} (hg : Claims.Live s g) (hd : Claims.Free s [d.toNat])
    (ha : Claims.Reads s a x) (r : BitVec 3) (c : BitVec 4) :
    exec (.fcvt g d a r c) s = .next ((s.raiseCond (fcvtVal c.toNat r.toNat x.toNat).2).writeReg d (w64 (fcvtVal c.toNat r.toNat x.toNat).1)) := by
  show execFcvt g d a r c s = _
  rw [execFcvt, State.toReg_live hg hd, State.withSource_ok ha]

/-- sel asks for its selector, not for a guard: it runs under either value (R62). -/
theorem exec_sel {s : State} {e : BitVec 4} {d a b : BitVec 7} {x y : W64} {v : Bool} (he : s.pre.guardValue e = some v)
    (hd : Claims.Free s [d.toNat]) (ha : Claims.Reads s a x) (hb : Claims.Reads s b y) :
    exec (.sel e d a b) s = .next (s.writeReg d (if v then x else y)) := by
  show execSel e d a b s = _
  rw [execSel, he]
  dsimp only
  rw [State.withDests_free hd, State.with2_ok ha hb]

section
variable {s : State} {g : BitVec 4} {k : BitVec 3} (hg : Claims.Live s g) (hk : Claims.Free s [128 + k.toNat])
include hg hk

theorem exec_cmp {c : BitVec 4} {a b : BitVec 7} {x y : W64} {v : Bool} (ha : Claims.Reads s a x) (hb : Claims.Reads s b y)
    (hv : cmpHolds c.toNat x y = v) : exec (.cmp g c k a b) s = .next (s.writePred k v) := by
  show execCmp g c k a b s = _
  rw [execCmp, State.toPred_live hg hk, State.with2_ok ha hb, hv]

theorem State.compareF_writes {a b : BitVec 7} {x y : W64} (ha : Claims.Reads s a x) (hb : Claims.Reads s b y) (f : FloatFmt) (c : BitVec 4) :
    s.compareF g f c k a b = (s.raiseCond (fcmpCond c.toNat (f.decode x.toNat) (f.decode y.toNat))).writePred k
      (fcmpHolds c.toNat (f.decode x.toNat) (f.decode y.toNat)) := by
  rw [State.compareF, State.toPred_live hg hk, State.with2_ok ha hb]

/-- A predicate instruction whose predicates wait for nothing (R171). -/
theorem State.predOp_writes {a b : BitVec 3} (ha : Claims.Free s [128 + a.toNat]) (hb : Claims.Free s [128 + b.toNat]) (f : Bool → Bool → Bool) :
    s.predOp g k a b f = s.writePred k (f (s.pre.p a.toNat) (s.pre.p b.toNat)) := by
  rw [State.predOp, State.toPred_live hg hk, State.pred_ready ha, State.pred_ready hb]
  rfl

end

end Sys2Proof.Machine

open Sys2Proof Sys2Proof.Machine

/-- Settles O1, by the form of each instruction: its operands there, its destination takes the value of its formula. -/
theorem integerResult : Obligations.IntegerResult := by
  refine ⟨fun s g d a b x y hd ha hb => ⟨fun hg => ?_, fun v he => exec_sel he hd ha hb⟩, fun s g d i hg hd => exec_li hg hd i,
    fun s g d a b i x y z hg hd ha hb hz => ⟨congrArg _ (State.alu1_writes hg hd hz (lihVal_eq z i)), exec_bins hg hd ha hb hz (binsVal_eq z x y)⟩,
    fun s g c k pa pb a b x y hg hk hpa hpb ha hb => ⟨fun v hv => exec_cmp hg hk ha hb (cmpHolds_of_mem hv),
      congrArg _ (State.predOp_writes hg hk hpa hpb _), congrArg _ (State.predOp_writes hg hk hpa hpb _),
      congrArg _ (State.predOp_writes hg hk hpa hpa _), rfl⟩⟩
  have two : ∀ (f : W64 → W64 → W64) {v}, f x y = v → (.next (s.alu2 g d a b f) : Host.Outcome State Fault Refusal) = .next (s.writeReg d v) :=
    fun f _ hv => congrArg _ (State.alu2_writes hg hd ha hb hv)
  have one : ∀ (f : W64 → W64) {v}, f x = v → (.next (s.alu1 g d a f) : Host.Outcome State Fault Refusal) = .next (s.writeReg d v) :=
    fun f _ hv => congrArg _ (State.alu1_writes hg hd ha hv)
  exact ⟨two addVal rfl, two subVal rfl, two mulVal rfl, two mulhVal rfl, two mulhnVal rfl, two andVal rfl, two orVal rfl, two xorVal rfl,
    two andnVal rfl, two shlVal (shlVal_eq x y), two shrVal (shrVal_eq x y), two sraVal (sraVal_eq x y), two minVal rfl, two maxVal rfl,
    two minnVal rfl, two maxnVal rfl, two (addshVal 1) (addshVal_eq 1 x y), two (addshVal 2) (addshVal_eq 2 x y),
    two (addshVal 3) (addshVal_eq 3 x y), two (addshVal 5) (addshVal_eq 5 x y), two bextVal (bextVal_eq x y), one clzVal (clzVal_eq x),
    one ctzVal (ctzVal_eq x), one popcVal (popcVal_eq x),
    fun hy => ⟨congrArg _ (State.divide_writes hg hd ha hb divVal hy), congrArg _ (State.divide_writes hg hd ha hb divnVal hy)⟩,
    fun hy => ⟨congrArg _ (State.divide_zero hg hd ha hb divVal hy), congrArg _ (State.divide_zero hg hd ha hb divnVal hy)⟩⟩

/-- Settles O2, by the form of each instruction: its conditions are raised, its destination takes the rounded result. -/
theorem floatResult : Obligations.FloatResult := by
  intro s g d a b k c v r x y hg hd hk ha hb put
  have two : ∀ f : Nat → Nat → Nat × Cond, Host.Outcome.next (s.alu2f g d a b f) = put (f x.toNat y.toNat) :=
    fun f => congrArg _ (State.alu2f_writes hg hd ha hb f)
  exact ⟨two _, two _, two _, two _, two _, two _,
    fun z hz => ⟨congrArg _ (State.alu3f_writes hg hd ha hb hz _), congrArg _ (State.alu3f_writes hg hd ha hb hz _)⟩,
    exec_fcvt hg hd ha r v, congrArg _ (State.compareF_writes hg hk ha hb f32Fmt c), congrArg _ (State.compareF_writes hg hk ha hb f64Fmt c)⟩

end

section
/-! SUPPORT. jmpt (R154), loops (R149, R151), wait (R160, R161) and system registers (R146, R147), with the statements TableJumpResult,
LoopResult, WaitResult and SystemRegisterResult. -/

namespace Sys2Proof.Machine

/-- The VA part of a value, as trap.info gives it (R165). -/
theorem bits_va (v : W64) : bits v 56 0 = v.toNat % 2 ^ 57 := by simp [bits, bitsN]

-- The table jump (R154) ------------------------------------------------------------------------------------------------------------------

theorem exec_jmpt {s : State} {t : BitVec 6} {x : BitVec 7} {tb i : W64} (ht : Claims.Reads s (BitVec.ofNat 7 t.toNat) tb) (hx : Claims.Reads s x i) :
    exec (.jmpt t x) s = .next (
      if tb.toNat % 4 != 0 then s.raise 4 (w64 (bits tb 56 0))
      else s.globalCheck false tb.toNat 4 1 (fun ia _ => s.syncLoad ia 4 (fun bs s1 =>
        if ofBytes bs ≤ i.toNat then s1.fallThrough
        else s.globalCheck false (wrapN 64 ((tb.toNat : Int) + 4 + 4 * (i.toNat : Int))) 4 1 (fun ia2 _ => s1.syncLoad ia2 4 (fun es s2 =>
          if bits (s.target (signedN 32 (ofBytes es))) 63 57 != 0 then s.raise 5 (s.target (signedN 32 (ofBytes es)))
          else s2.jumpTo (s.target (signedN 32 (ofBytes es)))))))) := by
  show execJmpt t x s = _
  rw [execJmpt, State.with2_ok ht hx]

/-- A word of the table that the slot reads at once (R154, R205). -/
theorem State.tableWord {s u r : State} {ea ia w : Nat} {bs : List Byte} (ht : translate s.pre.wnd ea 4 = some (ia, w))
    (hf : footprintMiss (s.card s.cur) false ia 4 = none) (hm : s.memFaulted ia 4 = false)
    (hl : ∀ k : List Byte → State → State, u.syncLoad ia 4 k = k bs r) (k : List Byte → State → State) :
    s.globalCheck false ea 4 1 (fun ia _ => u.syncLoad ia 4 k) = k bs r := by
  rw [State.globalCheck_ok ht (Nat.mod_one _) hf (.inr hm), hl]

/-- A jump by a table entry: a target outside the VA space raises its cause in the state before the loads (R148). -/
theorem State.tableJump (s u : State) (t : W64) :
    (if bits t 63 57 != 0 then s.raise 5 t else u.jumpTo t) = if t.toNat < 2 ^ 57 then Claims.jumped u t else s.raise 5 t := by
  by_cases h : t.toNat < 2 ^ 57
  · rw [if_pos h, if_neg (by simp [bits_high_zero h]), State.jumpTo_in h]
  · rw [if_neg h, if_pos (by simpa using bits_high_ne (Nat.le_of_not_lt h))]

-- Loops (R149, R151) ------------------------------------------------------------------------------------------------------------------------

/-- Level n started for a body of len + 1 bundles, or the body skipped at a count of 0 (R149). -/
theorem State.startLoop_fits {s : State} {n len : Nat} (h : s.pre.nestBad n len = false) (stg c : Nat) :
    s.startLoop n stg c len = (s.modMe (fun k =>
      let k := k.dropLevels n
      if c = 0 then k else k.setLevel n ⟨true, stg, len, 0, c, w64 (s.pre.pc.toNat + 32)⟩)).jumpTo
      (w64 (if c = 0 then s.pre.pc.toNat + 32 * (len + 1) + 32 else s.pre.pc.toNat + 32)) := by
  rw [State.startLoop, if_neg (by simp [h])]

theorem State.startLoop_bad {s : State} {n len : Nat} (h : s.pre.nestBad n len = true) (stg c : Nat) :
    s.startLoop n stg c len = s.undefinedEncoding := by
  rw [State.startLoop, if_pos h]

/-- A body that does not fit is found before the count register is read (R149). -/
theorem exec_loop_bad {s : State} {n : BitVec 3} {b : BitVec 8} (h : s.pre.nestBad n.toNat b.toNat = true) (st : BitVec 2) (c : BitVec 5) :
    exec (.loop st n c b) s = .next s.undefinedEncoding := by
  show execLoop st n c b s = _
  rw [execLoop, if_pos h]

theorem exec_loop {s : State} {n : BitVec 3} {c : BitVec 5} {b : BitVec 8} {v : W64} (h : s.pre.nestBad n.toNat b.toNat = false)
    (hc : Claims.Reads s (BitVec.ofNat 7 c.toNat) v) (st : BitVec 2) :
    exec (.loop st n c b) s = .next (s.startLoop n.toNat st.toNat (v.toNat % 2 ^ 24) b.toNat) := by
  show execLoop st n c b s = _
  rw [execLoop, if_neg (by simp [h]), State.withSource_ok hc, bits, bitsN, Nat.pow_zero, Nat.div_one]

-- wait (R160, R161, R196) -----------------------------------------------------------------------------------------------------------------------

/-- What the conditions of the wait have been seen to be: by the bundle that holds it, or sampled by the slot run alone (log 71). -/
def State.waitSeen (s : State) (n : Nat) : WaitSt := if s.bun.on then s.bun.wait.getD ⟨s.tick, 0⟩ else s.sampleWait s.cur n 0

/-- The event register without the bits that the wait consumes (R160, R161). -/
def State.waitTakes (s : State) (n : Nat) : State :=
  s.modCore s.myCore (fun k => { k with event := w64 (k.event.toNat &&&
    (2 ^ 64 - 1 - s.pre.waitConsumes n ((s.core s.myCore).event &&& ~~~(w64 s.bun.taken)))) })

section
variable {s : State} {w : BitVec 3} (hok : s.pre.waitOk w.toNat = true) (hoff : s.waitBadOffset s.cur w.toNat = none)
  (hdata : s.waitBadData s.cur w.toNat = none)
  (hpt : waitPt (s.pre.waitWord w.toNat 0) ≠ 0 → s.pre.pending (128 + waitPt (s.pre.waitWord w.toNat 0)) = false)
include hok hoff hdata hpt

/-- A defined wait whose status predicate is free and whose data are good goes by what it has seen and by its timeout (R160). -/
theorem exec_wait : exec (.wait w) s = .next (
    if s.pre.waitDone w.toNat (s.waitSeen w.toNat) then ((s.waitTakes w.toNat).waitStatus w.toNat true).waitOver
    else if s.pre.waitExpired w.toNat s.tick (s.waitSeen w.toNat) then
      if waitTrp (s.pre.waitWord w.toNat 0) then s.raise 0x0C (w64 (w.toNat * 256 + (s.waitSeen w.toNat).seen))
      else if waitSusp (s.pre.waitWord w.toNat 0) then s.waitOver.stopPoint .suspend
      else (s.waitStatus w.toNat false).waitOver
    else s.waitOn (s.waitSeen w.toNat)) := by
  show execWait w s = _
  have hfree : (waitPt (s.pre.waitWord w.toNat 0) != 0 && s.pre.pending (128 + waitPt (s.pre.waitWord w.toNat 0))) = false := by
    simpa [Bool.and_eq_false_imp] using hpt
  simp only [execWait, hok, hoff, hdata, hfree, Bool.not_true, Bool.false_eq_true, if_false]
  rfl

theorem exec_wait_done (hd : s.pre.waitDone w.toNat (s.waitSeen w.toNat) = true) :
    exec (.wait w) s = .next ((s.waitTakes w.toNat).waitStatus w.toNat true).waitOver := by
  rw [exec_wait hok hoff hdata hpt, if_pos hd]

variable (hd : s.pre.waitDone w.toNat (s.waitSeen w.toNat) = false)
include hd

theorem exec_wait_goes_on (he : s.pre.waitExpired w.toNat s.tick (s.waitSeen w.toNat) = false) :
    exec (.wait w) s = .next (s.waitOn (s.waitSeen w.toNat)) := by
  rw [exec_wait hok hoff hdata hpt, hd, he]
  rfl

variable (he : s.pre.waitExpired w.toNat s.tick (s.waitSeen w.toNat) = true)
include he

theorem exec_wait_traps (ht : waitTrp (s.pre.waitWord w.toNat 0) = true) :
    exec (.wait w) s = .next (s.raise 0x0C (w64 (w.toNat * 256 + (s.waitSeen w.toNat).seen))) := by
  rw [exec_wait hok hoff hdata hpt, hd, he, ht]
  rfl

theorem exec_wait_suspends (ht : waitTrp (s.pre.waitWord w.toNat 0) = false) (hs : waitSusp (s.pre.waitWord w.toNat 0) = true) :
    exec (.wait w) s = .next (s.waitOver.stopPoint .suspend) := by
  rw [exec_wait hok hoff hdata hpt, hd, he, ht, hs]
  rfl

theorem exec_wait_times_out (ht : waitTrp (s.pre.waitWord w.toNat 0) = false) (hs : waitSusp (s.pre.waitWord w.toNat 0) = false) :
    exec (.wait w) s = .next (s.waitStatus w.toNat false).waitOver := by
  rw [exec_wait hok hoff hdata hpt, hd, he, ht, hs]
  rfl

end

theorem State.waitStatus_eq (s : State) (n : Nat) (v : Bool) : s.waitStatus n v =
    if waitPt (s.pre.waitWord n 0) = 0 then s else s.modMe (fun c => c.setP (waitPt (s.pre.waitWord n 0)) v) := rfl

theorem State.waitOver_eq (s : State) : s.waitOver =
    if s.bun.on then s.dropRoc s.myCore else (s.dropRoc s.myCore).modMe (fun c => { c with wait := none }) := rfl

@[simp] theorem State.bun_waitStatus (s : State) (n : Nat) (v : Bool) : (s.waitStatus n v).bun = s.bun := by
  rw [State.waitStatus_eq]
  split <;> rfl

@[simp] theorem State.bun_waitOver (s : State) : s.waitOver.bun = s.bun := by
  rw [State.waitOver_eq]
  split <;> rfl

/-- A suspension with no carried word to wait for (R140). -/
theorem State.stopPoint_suspend {s : State} (h : s.pre.carryPending = false) : s.stopPoint .suspend =
    if s.bun.on then s.modBun (fun f => { f with stop := some .suspend }) else s.stopTask s.cur s.me.pc .suspend := by
  cases hb : s.bun.on
  · exact State.stopPoint_alone hb (.inr h)
  · exact State.stopPoint_bundle hb (.inr h)

-- System registers (R146, R147) -------------------------------------------------------------------------------------------------------------------

/-- A predicate image that waits for no predicate (R20). -/
theorem predImage_ready {s : State} {r : BitVec 6} (h : r = 7 → s.pre.predPending = false) : ¬ (decide (r = 7) && s.pre.predPending) = true := by simpa using h

theorem exec_sysr {s : State} {r : BitVec 6} {d : BitVec 7} (hr : sysRegOk r = true) (hp : r = 7 → s.pre.predPending = false)
    (hd : Claims.Free s [d.toNat]) : exec (.sysr r d) s = .next (s.writeReg d (s.sysReg r.toNat)) := by
  show execSysr r d s = _
  rw [execSysr, if_neg (by simp [hr]), State.withDests_free hd, if_neg (predImage_ready hp)]

/-- A write that the mode allows; one of a register that is read-only in system mode too does nothing (R146). -/
theorem exec_sysw {s : State} {r : BitVec 6} {x : BitVec 7} {v : W64} (hr : sysRegOk r = true) (hp : r = 7 → s.pre.predPending = false)
    (hx : Claims.Reads s x v) (hm : (!s.sysMode s.cur && (sysReadOnly r.toNat || sysSystemOnly r.toNat)) = false) :
    exec (.sysw r x) s = .next (if sysReadOnly r.toNat then s else s.writeSysReg r.toNat v) := by
  show execSysw r x s = _
  rw [execSysw, if_neg (by simp [hr]), if_neg (by simp [hm]), if_neg (predImage_ready hp), State.withSource_ok hx]

end Sys2Proof.Machine

open Sys2Proof Sys2Proof.Machine

/-- Settles O4: the count is read once the table is aligned, the entry once the index is below the count. -/
theorem tableJumpResult : Obligations.TableJumpResult := by
  intro s t x tb i htb hx
  refine ⟨fun ha => ?_, fun s1 ia w bs ha ht hf hm hl => ⟨fun hc => ?_, ?_⟩⟩
  · rw [exec_jmpt htb hx, if_pos (by simpa using ha), bits_va]
  · rw [exec_jmpt htb hx, if_neg (by simp [ha]), State.tableWord ht hf hm hl, if_pos hc]
  · intro s2 ia2 w2 es ea dest hc ht2 hf2 hm2 hl2
    rw [exec_jmpt htb hx, if_neg (by simp [ha]), State.tableWord ht hf hm hl, if_neg (Nat.not_le.2 hc), State.tableWord ht2 hf2 hm2 hl2,
      State.tableJump]

/-- Settles O5, by whether the body fits the levels around it. -/
theorem loopResult : Obligations.LoopResult := by
  intro s st n c b v x last start bad
  refine ⟨fun hfit => ⟨fun hc => ?_, congrArg _ (State.startLoop_fits hfit _ _)⟩,
    fun hbad => ⟨exec_loop_bad hbad st c, congrArg _ (State.startLoop_bad hbad _ _)⟩, rfl⟩
  rw [exec_loop hfit hc, State.startLoop_fits hfit]

/-- Settles O8, by what the wait has seen, its timeout and the bits of its control word. -/
theorem waitResult : Obligations.WaitResult := by
  intro s w n pt st status ended hok hoff hdata hpt
  have hstatus : ∀ u v, u.pre = s.pre → u.waitStatus w.toNat v = status u v := fun u v hu => by rw [State.waitStatus_eq, hu]
  have hended : ∀ u, u.bun = s.bun → u.waitOver = ended u := fun u hu => by rw [State.waitOver_eq, hu]
  refine ⟨fun hd => ?_, exec_wait_goes_on hok hoff hdata hpt, fun hd he => ⟨exec_wait_traps hok hoff hdata hpt hd he, fun ht hs hc => ?_, fun ht hs => ?_⟩⟩
  · rw [exec_wait_done hok hoff hdata hpt hd, hended _ (by simp [State.waitTakes]), hstatus (s.waitTakes _) _ rfl]
    rfl
  · rw [exec_wait_suspends hok hoff hdata hpt hd he ht hs, State.stopPoint_suspend (by rwa [hended s rfl]), State.bun_waitOver, hended s rfl]
  · rw [exec_wait_times_out hok hoff hdata hpt hd he ht hs, hended _ (by simp), hstatus s _ rfl]

/-- Settles O10: sysr and sysw of a defined register that the mode allows. -/
theorem systemRegisterResult : Obligations.SystemRegisterResult := by
  intro s r d x v hr hp hd hx
  refine ⟨exec_sysr hr hp hd, fun hs ho => ?_, fun ho hs => ?_⟩
  · rw [exec_sysw hr hp hx (by simp [hs]), if_pos ho]
  · rw [exec_sysw hr hp hx (by rcases hs with hs | hs <;> simp [hs, ho]), if_neg (by simp [ho])]

end

section
/-! SUPPORT. Calls (R155, R156): the spill of a full shadow stack, the push, and the statement CallResult. -/

namespace Sys2Proof.Machine

-- The spill (R156) -------------------------------------------------------------------------------------------------------------------------

theorem State.spill_ok {s u : State} {t : Task} {blk b : Nat} (hb : s.shadowIA blk true = .inl b)
    (hgood : s.spadBad s.myCore t (t.shadowOff 0) 16384 = false)
    (hw : s.writeOne s.myDie b (s.spadRead s.myCore t (t.shadowOff 0) 16384) (.spill true) 0 (s.pendingSet s.cur) = .ok u) :
    s.spill t blk = .ok (u.modMe (fun c => { c with shadowTop := shadowTopOf (blk + 1) 0 })) := by
  rw [State.spill, hb]
  simp only [hgood, hw, Bool.false_eq_true, if_false]

/-- A block that no address or region covers, or entries with an uncorrectable error, make the spill fail (R155, R156; log 80). -/
theorem State.spill_failed {s : State} {t : Task} {blk : Nat}
    (h : (∃ q, s.shadowIA blk true = .inr q) ∨ s.spadBad s.myCore t (t.shadowOff 0) 16384 = true) : s.spill t blk = .failed 0x0A 0 := by
  rw [State.spill]
  cases hb : s.shadowIA blk true with
  | inr q => rfl
  | inl b =>
    have hbad := h.resolve_left (fun ⟨q, hq⟩ => by simp [hb] at hq)
    exact if_pos hbad

/-- What a call does before its push: nothing while the shadow stack has room, else a spill, if there is a page with a block for it (R156). -/
def State.makeRoom (s : State) (t : Task) : Moved :=
  if shadowDep s.pre.shadowTop < 2048 then .ok s
  else if !bit s.pre.shadowBase 0 || shadowBlk s.pre.shadowTop = 4 then .failed 0x0A 0
  else s.spill t (shadowBlk s.pre.shadowTop)

theorem State.makeRoom_room {s : State} (h : shadowDep s.pre.shadowTop < 2048) (t : Task) : s.makeRoom t = .ok s := if_pos h

theorem State.makeRoom_spill {s : State} (hfull : 2048 ≤ shadowDep s.pre.shadowTop) (hpage : bit s.pre.shadowBase 0 = true)
    (hblk : shadowBlk s.pre.shadowTop ≠ 4) (t : Task) : s.makeRoom t = s.spill t (shadowBlk s.pre.shadowTop) := by
  rw [State.makeRoom, if_neg (by omega), if_neg (by simp [hpage, hblk])]

/-- No page, no block left, or a spill that fails: the stack stays full (R156; log 80). -/
theorem State.makeRoom_failed {s : State} {t : Task} (hfull : 2048 ≤ shadowDep s.pre.shadowTop)
    (h : bit s.pre.shadowBase 0 = false ∨ shadowBlk s.pre.shadowTop = 4 ∨ (∃ q, s.shadowIA (shadowBlk s.pre.shadowTop) true = .inr q) ∨
      s.spadBad s.myCore t (t.shadowOff 0) 16384 = true) : s.makeRoom t = .failed 0x0A 0 := by
  by_cases hnone : bit s.pre.shadowBase 0 = false ∨ shadowBlk s.pre.shadowTop = 4
  · rw [State.makeRoom, if_neg (by omega), if_pos (by simpa using hnone)]
  · obtain ⟨hpage, hblk⟩ := not_or.1 hnone
    rw [State.makeRoom_spill hfull (by simpa using hpage) hblk, State.spill_failed ((h.resolve_left hpage).resolve_left hblk)]

-- The push (R156) --------------------------------------------------------------------------------------------------------------------------

/-- The return address pushed by the call of `s` as shadow entry k of the state `u` that has room, and stored at IA ia (R156). -/
def State.pushCall (s u : State) (t : Task) (sp : W64) (ia k : Nat) : State :=
  let ra := bytesOf 8 (w64 (s.pre.pc.toNat + 32)).toNat
  let p := ((u.spadWrite s.myCore t (t.shadowOff k) ra).modMe (fun c => c.setReg 59 (sp - 8))).modMe
    (fun c => { c with shadowTop := shadowTopOf (shadowBlk c.shadowTop) (k + 1) })
  (p.issuePieces .write none ia ra (sectorPieces 2 ia 8)).2

section
variable {s : State} {sp : W64} {t : Task} (hsp : Claims.Reads s 59 sp) (ha : sp.toNat % 8 = 0) (ht : s.boundTask s.cur = some t)
include hsp ha ht

/-- A call whose stack pointer is aligned makes room, and then pushes. -/
theorem State.callTo_eq (tg : W64) : s.callTo tg = (match s.makeRoom t with
    | .wait n => s.holdFor n
    | .failed c i => s.raise c i
    | .ok u =>
      if s.bun.on && 2048 ≤ shadowDep s.pre.shadowTop then s.hold.moving
      else s.globalCheck true (effAddr sp (-8)) 8 1 (fun ia _ => s.afterAcquire (
        if bits tg 63 57 != 0 then s.raise 5 tg else (s.pushCall u t sp ia (shadowDep u.me.shadowTop)).jumpTo tg))) := by
  rw [State.callTo, State.withSource_ok hsp, if_neg (by simp [ha]), ht]
  rfl

theorem State.callTo_failed {c : Nat} {i : W64} (hm : s.makeRoom t = .failed c i) (tg : W64) : s.callTo tg = s.raise c i := by
  rw [State.callTo_eq hsp ha ht, hm]

/-- Within a bundle the call is considered again once the spill is made (log 95). -/
theorem State.callTo_spills {u : State} (hm : s.makeRoom t = .ok u) (hb : s.bun.on = true) (hfull : 2048 ≤ shadowDep s.pre.shadowTop) (tg : W64) :
    s.callTo tg = s.hold.modBun (fun f => { f with refill := true }) := by
  rw [State.callTo_eq hsp ha ht, hm]
  dsimp only
  rw [if_pos (by simp [hb, hfull]), State.moving, if_pos (by simp [State.hold, hb, State.modBun])]

theorem State.callTo_pushes {u : State} {tg : W64} {ia w : Nat} (hm : s.makeRoom t = .ok u)
    (hroom : s.bun.on = false ∨ shadowDep s.pre.shadowTop < 2048) (hia : translate s.pre.wnd (effAddr sp (-8)) 8 = some (ia, w))
    (hf : footprintMiss (s.card s.cur) true ia 8 = none) (hport : Claims.PortReady s) (htg : tg.toNat < 2 ^ 57) :
    s.callTo tg = Claims.jumped (s.pushCall u t sp ia (shadowDep u.me.shadowTop)) tg := by
  obtain ⟨hacquire, hslots⟩ := hport
  rw [State.callTo_eq hsp ha ht, hm]
  dsimp only
  rw [if_neg (by rcases hroom with h | h <;> simp [h]), State.globalCheck_ok hia (Nat.mod_one _) hf (.inl rfl), State.afterAcquire_ok hacquire hslots,
    if_neg (by simp [bits_high_zero htg]), State.jumpTo_in htg]

end

theorem exec_call {s : State} (h : Claims.Free s [59]) (j : BitVec 13) : exec (.call j) s = .next (s.callTo (s.target j.toInt)) :=
  congrArg Host.Outcome.next (State.withDests_free h _)

/-- A call to the bundle's address in a register (R41, R156). -/
theorem exec_calli {s : State} {x : BitVec 7} {v : W64} (h : Claims.Free s [59]) (hx : Claims.Reads s x v) (ha : v.toNat % 32 = 0)
    (hv : v.toNat < 2 ^ 57) : exec (.calli x) s = .next (s.callTo v) := by
  show execCalli x s = _
  rw [execCalli, State.withDests_free h, State.withSource_ok hx, State.jumpIndirect_aligned ha, if_neg (by simp [bits_high_zero hv])]

end Sys2Proof.Machine

open Sys2Proof Sys2Proof.Machine

/-- Settles O6: a call makes room on the shadow stack, by a spill when the stack is full, and then pushes; calli is a call to the value of its
register. -/
theorem callResult : Obligations.CallResult := by
  intro s j x sp v t ia w ra dep blk pushed hfree hsp ha ht hx hva hv
  rw [exec_call hfree, exec_calli hfree hx hva hv]
  refine ⟨fun hia hf hport htg => ⟨fun hroom htop => ?_, fun b u hfull hpage hblk hb hgood hw => ?_⟩, fun hfull hbad => ?_⟩
  · have push : ∀ tg : W64, tg.toNat < 2 ^ 57 → s.callTo tg = Claims.jumped (pushed s dep) tg := fun tg h => by
      rw [State.callTo_pushes hsp ha ht (State.makeRoom_room hroom t) (.inr hroom) hia hf hport h, htop]
      rfl
    exact ⟨congrArg _ (push _ htg), congrArg _ (push _ hv)⟩
  · intro e
    have hm := (State.makeRoom_spill hfull hpage hblk t).trans (State.spill_ok hb hgood hw)
    exact ⟨fun hoff => ⟨congrArg _ (State.callTo_pushes hsp ha ht hm (.inl hoff) hia hf hport htg),
        congrArg _ (State.callTo_pushes hsp ha ht hm (.inl hoff) hia hf hport hv)⟩,
      fun hon => ⟨congrArg _ (State.callTo_spills hsp ha ht hm hon hfull _), congrArg _ (State.callTo_spills hsp ha ht hm hon hfull _)⟩⟩
  · have hm := State.makeRoom_failed hfull hbad
    exact ⟨congrArg _ (State.callTo_failed hsp ha ht hm _), congrArg _ (State.callTo_failed hsp ha ht hm _)⟩

end

section
/-! SUPPORT. The accesses of masters to the registers of a die (R437, R441 to R445), with the statement RegisterEvents. -/

namespace Sys2Proof.Machine

/-- A write that the access table grants wakes the die and acts (R437, R441). -/
theorem State.hostWrite_granted {s : State} {m d off : Nat} (h : Claims.Granted s m d off) (v : W64) :
    s.hostWrite m d off v = Claims.wrote s d off v := by
  obtain ⟨hon, hg⟩ := h
  rw [State.hostWrite, if_neg (by simp [hon]), if_neg (by simp [hg])]

/-- A write that the access table does not grant is recorded (R441, R443). -/
theorem State.hostWrite_denied {s : State} {m d off : Nat} (hon : (s.pkg (d / 4)).on = true) (h : s.granted d m 0 off 8 true = false) (v : W64) :
    s.hostWrite m d off v = s.denied d m off := by
  rw [State.hostWrite, if_neg (by simp [hon]), if_pos (by simp [h])]

/-- A read answers the management controller on the sideband, and a host by a completion (R441, R445). -/
theorem State.hostRead_granted {s : State} {m d off : Nat} (hon : (s.pkg (d / 4)).on = true) (h : s.granted d m 0 off 8 false = true) :
    s.hostRead m d off = if m = 32 then (s.wake d).answerMc (d / 4) [s.readReg64 d off]
      else (s.wake d).answerHost (d / 4) (some (bytes8 (s.readReg64 d off))) := by
  rw [State.hostRead, if_neg (by simp [hon]), if_neg (by simp [h])]

/-- A denied read gives all ones on the sideband, and an Unsupported Request to a host (R441, R443). -/
theorem State.hostRead_denied {s : State} {m d off : Nat} (hon : (s.pkg (d / 4)).on = true) (h : s.granted d m 0 off 8 false = false) :
    s.hostRead m d off = if m = 32 then (s.denied d m off).answerMc (d / 4) [w64 (2 ^ 64 - 1)] else (s.denied d m off).answerHost (d / 4) none := by
  rw [State.hostRead, if_neg (by simp [hon]), if_pos (by simp [h])]

end Sys2Proof.Machine

open Sys2Proof Sys2Proof.Machine

/-- Settles O46: every event of the list is a write of a register by a master, or a read of one, that the access table grants or denies. -/
theorem registerEvents : Obligations.RegisterEvents := by
  intro s m d c v hd hc
  have die (t : State) : onUnit (dieOk d) t = .next t := onUnit_ok (dieOk_lt hd) t
  have acts {off : Nat} (h : Claims.Granted s m d off) (v : W64) : onUnit (dieOk d) (s.hostWrite m d off v) = .next (Claims.wrote s d off v) := by
    rw [die, State.hostWrite_granted h]
  have coreActs {i : Nat} (h : Claims.Granted s m (c / 64) (coreOff c i)) :
      onUnit (coreOk c) (s.hostWrite m (c / 64) (coreOff c i) v) = .next (Claims.wrote s (c / 64) (coreOff c i) v) := by
    rw [onUnit_ok (coreOk_lt hc), State.hostWrite_granted h]
  refine ⟨fun off h => acts h v, fun off hon hno => (die _).trans (congrArg _ (State.hostWrite_denied hon hno v)), fun off hon => ?_, ?_,
    fun h => ⟨acts h _, acts h _, acts h _⟩, fun h => ⟨acts h _, acts h _⟩, fun h => ⟨acts h _, acts h _⟩, coreActs, coreActs, coreActs⟩
  · have read : exec (.registerRead m d off) s = .next (s.hostRead m d off) := die _
    rw [read]
    refine ⟨fun h => ?_, fun h => ?_⟩
    · rw [State.hostRead_granted hon h]
      exact ⟨fun hm => by rw [if_pos hm], fun hm => by rw [if_neg hm]⟩
    · rw [State.hostRead_denied hon h]
      exact ⟨fun hm => by rw [if_pos hm], fun hm => by rw [if_neg hm]⟩
  · simp only [List.forall_mem_cons]
    exact ⟨fun h => acts h v, fun h => acts h v, fun h => acts h v, fun h => acts h v, fun h => acts h v, nofun⟩

end

section
/-! SUPPORT. Barrier objects (R215, R216), the copies at issue (R219) and the barrier commands (R217), with the statements BarrierUpdate, BarrierResult
and CopyIssue. -/

namespace Sys2Proof.Machine

-- Barrier objects (R216) ----------------------------------------------------------------------------------------------------------

theorem maxCount_lt {n : Nat} : maxCount < n ↔ 2 ^ 48 ≤ n := by unfold maxCount; omega

theorem not_maxCount_lt {n : Nat} (h : n < 2 ^ 48) : ¬ maxCount < n := by rw [maxCount_lt]; omega

/-- The test leaves an object whose count is 0 or not reached. -/
theorem Barrier.test_waits {b : Barrier} (h : b.exp = 0 ∨ b.arr < b.exp) : b.test = b := by
  rw [Barrier.test, if_neg]
  simp only [Bool.and_eq_true, bne_iff_ne, decide_eq_true_eq]
  omega

/-- The test flips the phase of an object whose count is reached, and records an overrun. -/
theorem Barrier.test_flips {b : Barrier} (h0 : b.exp ≠ 0) (h : b.exp ≤ b.arr) : b.test = ⟨!b.ph, 0, b.ovr || decide (b.exp < b.arr), 0⟩ := by
  rw [Barrier.test, if_pos]
  simp only [Bool.and_eq_true, bne_iff_ne, decide_eq_true_eq]
  exact ⟨h0, h⟩

/-- The three outcomes of the test: the count not reached, met, or overrun. -/
theorem Barrier.test_outcomes (b : Barrier) :
    (b.exp = 0 ∨ b.arr < b.exp → b.test = b) ∧ (b.exp ≠ 0 → b.arr = b.exp → b.test = ⟨!b.ph, 0, b.ovr, 0⟩) ∧
      (b.exp ≠ 0 → b.exp < b.arr → b.test = ⟨!b.ph, 0, true, 0⟩) := by
  refine ⟨Barrier.test_waits, fun h0 h => ?_, fun h0 h => ?_⟩
  · rw [Barrier.test_flips h0 (Nat.le_of_eq h.symm), h, decide_eq_false (Nat.lt_irrefl _), Bool.or_false]
  · rw [Barrier.test_flips h0 (Nat.le_of_lt h), decide_eq_true h, Bool.or_true]

/-- Arrivals that fit are counted; those past the limit leave the limit, and set ovr. -/
theorem Barrier.arrive_fits {b : Barrier} {n : Nat} (h : b.arr + n < 2 ^ 48) : b.arrive n = { b with arr := b.arr + n }.test := by
  rw [Barrier.arrive, if_neg (not_maxCount_lt h)]

theorem Barrier.arrive_saturates {b : Barrier} {n : Nat} (h : 2 ^ 48 ≤ b.arr + n) : b.arrive n = { b with arr := 2 ^ 48 - 1, ovr := true }.test := by
  rw [Barrier.arrive, if_pos (maxCount_lt.2 h), maxCount]

-- Slots of the engines (R49, R192) --------------------------------------------------------------------------------------------------

/-- A handle other than 255 names an object (R26). -/
theorem handle_ne {h : BitVec 8} (hh : h ≠ 255) : h.toNat ≠ 255 := fun e => hh (BitVec.eq_of_toNat_eq e)

section
variable {s : State} {g : BitVec 4} {t : Task} (hr : Claims.Ready s g t)
include hr

theorem State.engineSlot_ready (k : Task → State) : s.engineSlot g k = k t := by
  obtain ⟨hg, ht, hacquire⟩ := hr
  exact State.engineSlot_ok hg ht hacquire k

/-- An engine slot with one operand. -/
theorem State.engineSlot_source {a : BitVec 7} {x : W64} (ha : Claims.Reads s a x) (k : Task → W64 → State) :
    s.engineSlot g (fun t => s.withSource a (k t)) = k t x := by
  rw [State.engineSlot_ready hr, State.withSource_ok ha]

/-- An engine slot with two operands. -/
theorem State.engineSlot_sources {a b : BitVec 7} {x y : W64} (ha : Claims.Reads s a x) (hb : Claims.Reads s b y) (k : Task → W64 → W64 → State) :
    s.engineSlot g (fun t => s.with2 a b (k t)) = k t x y := by
  rw [State.engineSlot_ready hr, State.with2_ok ha hb]

end

/-- Parameters with an uncorrectable error raise 0x16 (R36). -/
theorem State.goodParams_bad {s : State} {t : Task} {a n : Nat} (h : s.spadBad s.myCore t a n = true) (k : State) :
    s.goodParams t a n k = s.raise 0x16 (info16 3 (s.firstBad t a n)) := by
  rw [State.goodParams, if_pos h]

-- Barrier commands (R217) -----------------------------------------------------------------------------------------------------------

section
variable {s : State} {g : BitVec 4} {a b : BitVec 7} {h : BitVec 8} {n : W64} {t : Task} (hr : Claims.Ready s g t) (ha : Claims.Reads s a n)
include hr ha

theorem exec_barr (hh : h ≠ 255) (hn : n.toNat < 2 ^ 48) :
    exec (.barr g a h) s = .next (s.goodParams t (16 * h.toNat) 16 (s.updateBarrier s.myCore t h.toNat (fun x => x.arrive n.toNat))) := by
  change execBarr g a h s = _
  rw [execBarr, if_neg hh, State.engineSlot_source hr ha, if_neg (not_maxCount_lt hn)]

theorem exec_barm_adds (hb : Claims.Reads s b 0) (hh : h ≠ 255) (hn : n.toNat < 2 ^ 48) :
    exec (.barm g a b h) s = .next (s.armable t h n.toNat (s.refusal6 h) (s.updateBarrier s.myCore t h.toNat (fun x => x.arm n.toNat))) := by
  change execBarm g a b h s = _
  rw [execBarm, if_neg hh, State.engineSlot_sources hr ha hb]
  dsimp only
  rw [if_neg (by simpa using not_maxCount_lt hn), if_pos rfl]

theorem exec_barm_sets (hb : Claims.Reads s b 1) (hh : h ≠ 255) (hn : n.toNat < 2 ^ 48) :
    exec (.barm g a b h) s =
      .next (s.goodParams t (16 * h.toNat) 16 (s.updateBarrier s.myCore t h.toNat (fun x => (⟨x.ph, 0, false, n.toNat⟩ : Barrier).test))) := by
  change execBarm g a b h s = _
  rw [execBarm, if_neg hh, State.engineSlot_sources hr ha hb]
  dsimp only
  rw [if_neg (by simpa using not_maxCount_lt hn), if_neg (by decide)]

/-- bq of 0 or 1 reads that channel. -/
theorem exec_bq_reads (hn : n.toNat < 2) : exec (.bq g a) s = .next (s.atOnceL5 (s.channel s.myCore n.toNat).status) := by
  have hbit : bit n 1 = false := by rw [bit, bitN, Nat.div_eq_of_lt (by omega)]; rfl
  change execBq g a s = _
  rw [execBq, State.engineSlot_source hr ha, Nat.mod_eq_of_lt hn]
  dsimp only
  rw [if_neg (by omega), hbit, if_neg (by decide)]

/-- bq of 2 or 3 reads channel 0 or 1 and clears its fault. -/
theorem exec_bq_clears (h2 : 2 ≤ n.toNat) (h4 : n.toNat < 4) :
    let x := s.channel s.myCore (n.toNat - 2)
    exec (.bq g a) s = .next ((s.atOnceL5 x.status).setChannel (s.atOnceL5 x.status).myCore (n.toNat - 2)
      { x with flt := false, sub := 0, fctx := 0, fh := 0, fcnt := 0, off := 0 }) := by
  have hbit : bit n 1 = true := by rw [bit, bitN, show n.toNat / 2 ^ 1 = 1 by omega]; rfl
  change execBq g a s = _
  rw [execBq, State.engineSlot_source hr ha, show n.toNat % 2 = n.toNat - 2 by omega]
  dsimp only
  rw [if_neg (by omega), if_pos hbit]

end

-- Copies at issue (R219) ------------------------------------------------------------------------------------------------------------

/-- A draw leaves every barrier object as it is (R100, R216). -/
theorem State.draw_takesBytes (s : State) (r k : Nat) {t : Task} {h n : Nat} : (s.draw r k).2.takesBytes t h n ↔ s.takesBytes t h n := by
  unfold State.takesBytes State.spadBad State.barrier State.spadRead State.myCore State.core
  rw [State.draw_cur, State.draw_cores]

/-- A range of global memory that one window maps and one region covers (R124, R174). -/
theorem State.engineRange_ok {s : State} {t : Task} {wr : Bool} {va n ia w : Nat} (ht : translate s.pre.wnd va n = some (ia, w))
    (hf : footprintMiss t.card wr ia n = none) (k : Nat → Nat → State) : s.engineRange t wr va n k = k ia w := by
  simp only [State.engineRange, ht, hf]

/-- A global mx.apart side of a copy, whose window maps its scales with it (R95, R219). -/
theorem State.copySide_apart {s : State} {t : Task} {wr : Bool} {a back len w ia w' : Nat} (hb : back ≤ a) (hw : windowOf s.pre.wnd a = some w) :
    let va := windowIA s.pre.wnd w a
    let r := apartRange va len (windowSD s.pre.wnd w)
    va ≤ a + r.1 → translate s.pre.wnd (a + r.1 - va) r.2 = some (ia, w') → footprintMiss t.card wr ia r.2 = none →
    ∀ k : Side → State, s.copySide t wr false true a back len k = k ⟨va, windowSD s.pre.wnd w, r.1, r.2⟩ := by
  intro va r hle ht hf k
  have hstart : ((a : Int) + r.1 - va).toNat = a + r.1 - va := by omega
  rw [State.copySide, if_neg (by decide), if_neg (by omega), if_pos rfl, hw]
  refine (if_neg (show ¬ (a : Int) + r.1 - va < 0 by omega)).trans ?_
  exact State.engineRange_ok (hstart ▸ ht) hf _

/-- A side of a copy that passes its checks (R219). -/
theorem State.copySide_ok {s : State} {t : Task} {wr scratch apart : Bool} {a back len : Nat} {x : Side}
    (h : Claims.SideAt s t wr scratch apart a back len x) (k : Side → State) : s.copySide t wr scratch apart a back len k = k x := by
  cases scratch with
  | true =>
    obtain ⟨hb, ⟨-, hlow, hfit, hpage⟩, rfl⟩ := h
    exact State.copySide_spad hb hlow hfit (hpage.resolve_left (by decide)) k
  | false =>
    obtain ⟨hb, h⟩ := h
    cases apart with
    | true =>
      obtain ⟨w, w', ia, hw, hle, ht, hf, rfl⟩ := h
      exact State.copySide_apart hb hw hle ht hf k
    | false =>
      obtain ⟨ia, w, ht, hf, rfl⟩ := h
      exact State.copySide_global hb ht hf k

/-- The parameters of a command that pass their checks (R36, R155, R177). -/
theorem State.engineSpad_params {s : State} {t : Task} {a n align : Nat} (h : Claims.Params s t a n align) (k : State) :
    s.engineSpad t false a n align true k = k := by
  obtain ⟨⟨halign, hlow, hfit, hpage⟩, hgood⟩ := h
  exact State.engineSpad_ok halign hlow hfit hpage (.inr (.inr hgood)) k

end Sys2Proof.Machine

open Sys2Proof Sys2Proof.Machine

/-- Settles O32, by the test of R216: an update that does not reach the count leaves the object, one that does flips its phase. -/
theorem barrierUpdate : Obligations.BarrierUpdate := by
  refine ⟨fun b n => ⟨fun hfit => ?_, fun hover => ?_, Barrier.test_outcomes { b with exp := b.exp + n }⟩, ?_, ?_⟩
  · rw [Barrier.arrive_fits hfit]
    exact Barrier.test_outcomes { b with arr := b.arr + n }
  · rw [Barrier.arrive_saturates hover]
    exact ⟨fun h0 => h0 ▸ Barrier.test_waits (.inl h0), fun h0 hlt => Barrier.test_flips (b := ⟨b.ph, 2 ^ 48 - 1, true, b.exp⟩) h0 (Nat.le_pred_of_lt hlt)⟩
  · exact fun s t h total draw info k hh hgood hover => State.issueCommand_refused (handle_ne hh) hgood (maxCount_lt.2 hover) draw info k
  · intro s g a b h n t hr ha hb hh hn hgood hover
    rw [exec_barm_adds hr ha hb hh hn, State.armable_refused (handle_ne hh) hgood (maxCount_lt.2 hover)]
    rfl

/-- Settles O31, by what each command goes on to once its operands are there: barm 0 to the arming, barm 1 and barr to an object that must be good. -/
theorem barrierResult : Obligations.BarrierResult := by
  intro s g a b h n m t hr ha hb
  refine ⟨fun hh hn hbad => ⟨?_, ?_⟩, fun hh hn hgood => ⟨?_, ?_, ?_⟩, exec_bq_reads hr ha, exec_bq_clears hr ha, rfl⟩
  · rintro (rfl | rfl)
    · exact ⟨_, by rw [exec_barm_adds hr ha hb hh hn, State.armable_bad (handle_ne hh) hbad]⟩
    · exact ⟨_, by rw [exec_barm_sets hr ha hb hh hn, State.goodParams_bad hbad]⟩
  · exact ⟨_, by rw [exec_barr hr ha hh hn, State.goodParams_bad hbad]⟩
  · rintro rfl hfit
    rw [exec_barm_adds hr ha hb hh hn, State.armable_ok (.inr ⟨hgood, Nat.le_pred_of_lt hfit⟩)]
  · rintro rfl
    rw [exec_barm_sets hr ha hb hh hn, State.goodParams_ok hgood]
  · rw [exec_barr hr ha hh hn, State.goodParams_ok hgood]

/-- Settles O30, by the checks of R219 in their order: the channel, the parameters, the words, the sides and the count of the handle; then the queue. -/
theorem copyIssue : Obligations.CopyIssue := by
  intro p hp s g a b h av bv t from_ to_ kind n ws w2 src dst ext total drawn m u hr ha hb hch hparams hwords hblocks hstart hfrom hto harm
  have hexec : exec (p.1 g a b h) s = .next (s.copyCommand kind g a b h) := by
    simp only [List.mem_cons, List.not_mem_nil, or_false] at hp
    rcases hp with rfl | rfl | rfl | rfl <;> rfl
  have hword : ¬ (!copyWordsOk kind false ws) = true := by rw [hwords]; decide
  have hconv : ¬ (kind == 4 && ((isMX src.2 || isMX dst.2) && descLen ws % 32 != 0 || !sideStartOk src.2 (descSrc ws) ||
      !sideStartOk dst.2 (descDst ws))) = true := by
    by_cases h4 : kind = 4
    · obtain ⟨hs, hd⟩ := hstart h4
      simpa [hs, hd, h4] using hblocks h4
    · simp [h4]
  rw [hexec, State.copyCommand, State.engineSlot_sources hr ha hb]
  -- The checks that pass, in the order of copyCommand.
  refine congrArg _ ?_
  refine (if_neg (by omega)).trans ?_
  refine (State.engineSpad_params hparams _).trans ?_
  refine (if_neg hword).trans ?_
  refine (if_neg hconv).trans ?_
  refine (State.copySide_ok hfrom _).trans ?_
  refine (State.copySide_ok hto _).trans ?_
  refine (State.armable_ok harm _ _).trans ?_
  by_cases hfull : 16 ≤ (s.channel s.myCore bv.toNat).cmds.length
  · rw [if_pos hfull]
    exact State.waitWhile_true (decide_eq_true hfull) _
  · rw [if_neg hfull]
    refine (State.waitWhile_false (decide_eq_false hfull) _).trans ?_
    exact State.issueCommand_ok ((State.draw_takesBytes ..).2 harm) _ _ _

end

section
/-! SUPPORT. The vector slots (R239 to R261): what their operands' rows and scalars give, each shared operation once its operands are there, and
the statements VectorTwoRowResult, VectorScalarResult, VectorOneRowResult, VectorFmaResult, VectorMoveResult, VectorPermuteResult,
VectorReduceResult and MaskResult. -/

namespace Sys2Proof.Machine

-- Operands ------------------------------------------------------------------------------------------------------------------------

/-- Row x is no result of faulting work, and no write to it is pending (R19, R237). -/
abbrev State.RowThere (s : State) (x : Nat) : Prop := s.rowFaulted (s.vrow x) = false ∧ s.rowWaits (s.vrow x) = false

theorem State.rowThere_of_reads {s : State} {x : Nat} {on : Bool} {row : Row} (h : Claims.RowReads s x on row) : s.RowThere x := by
  obtain ⟨hfault, hwait, -⟩ := h
  exact ⟨hfault, hwait⟩

theorem State.source_ne_wait {s : State} {x : BitVec 7} {v : W64} (h : Claims.Reads s x v) : s.source x ≠ .wait := by
  rw [h]
  nofun

/-- Operand b can be read, as these lanes: a row's, or a scalar broadcast to all (R252). -/
def Opnd.Gives (s : State) (e n : Nat) (on : Bool) (lanes : List Nat) : Opnd → Prop
  | .row r => ∃ row, Claims.RowReads s r.toNat on row ∧ lanes = rowLanes e n row
  | .scalar x => ∃ v, Claims.Reads s x v ∧ lanes = List.replicate n (v.toNat % 2 ^ (8 * e))

theorem Opnd.gives_row {s : State} {e n : Nat} {on : Bool} {r : BitVec 7} {row : Row} (h : Claims.RowReads s r.toNat on row) :
    (Opnd.row r).Gives s e n on (rowLanes e n row) := ⟨row, h, rfl⟩

theorem Opnd.gives_scalar {s : State} {e n : Nat} {on : Bool} {x : BitVec 7} {v : W64} (h : Claims.Reads s x v) :
    (Opnd.scalar x).Gives s e n on (List.replicate n (v.toNat % 2 ^ (8 * e))) := ⟨v, h, rfl⟩

/-- The operand of an instruction that has a row form and a scalar form. -/
abbrev Opnd.ofForm (scalar : Bool) (b : BitVec 7) : Opnd := if scalar then .scalar b else .row b

theorem Opnd.gives_ofForm {s : State} {e n : Nat} {on scalar : Bool} {b : BitVec 7} {v : W64} {row : Row}
    (hv : scalar = true → Claims.Reads s b v) (hr : scalar = false → Claims.RowReads s b.toNat on row) :
    (Opnd.ofForm scalar b).Gives s e n on (if scalar then List.replicate n (v.toNat % 2 ^ (8 * e)) else rowLanes e n row) := by
  cases scalar with
  | false => exact Opnd.gives_row (hr rfl)
  | true => exact Opnd.gives_scalar (hv rfl)

section
variable {s : State} {e n : Nat} {on : Bool} {lanes : List Nat} {b : Opnd} (hb : b.Gives s e n on lanes)
include hb

theorem State.withLanes_gives (k : List Nat → State) : s.withLanes b e n on k = k lanes := by
  cases b with
  | row r => obtain ⟨row, hrow, rfl⟩ := hb; exact State.withRow_reads hrow (fun v => k (rowLanes e n v))
  | scalar x => obtain ⟨v, hv, rfl⟩ := hb; exact State.withSource_ok hv (fun v => k (List.replicate n (v.toNat % 2 ^ (8 * e))))

theorem Opnd.rows_there : ∀ x ∈ b.rows, s.RowThere x := by
  cases b with
  | row r => obtain ⟨row, hrow, -⟩ := hb; exact List.forall_mem_singleton.2 (State.rowThere_of_reads hrow)
  | scalar x => simp [Opnd.rows]

theorem Opnd.srcs_there : ∀ x ∈ b.srcs, s.source x ≠ .wait := by
  cases b with
  | row r => simp [Opnd.srcs]
  | scalar x => obtain ⟨v, hv, -⟩ := hb; exact List.forall_mem_singleton.2 (State.source_ne_wait hv)

end

-- Gates ---------------------------------------------------------------------------------------------------------------------------

section
variable {s : State} {g : BitVec 2} (hg : Claims.Gated s g)
include hg

theorem State.bound_of_gated : s.pre.bound = true := by
  obtain ⟨-, -, hbound⟩ := hg
  exact hbound

/-- The type check of a vector slot passes when a tile is bound and the instruction accepts its type (R232, R234, R241). -/
theorem State.accepts_of_gated {ok : Bool} (hok : ok = true) : (s.pre.bound && ok) = true := by rw [State.bound_of_gated hg, hok, Bool.and_true]

/-- A vector slot that acts goes on (R58). -/
theorem State.vec_gated {ok : Bool} (hok : ok = true) (k : State) : s.vec g ok k = k := by
  obtain ⟨hgate, hlive, -⟩ := hg
  rw [hok, State.vec_live hgate hlive]

/-- A mask-stack slot that can use the stack goes on; one that cannot is an undefined encoding (R46, R261). -/
theorem State.vecStack_usable {bad : Bool} (h : bad = false) (k : State) : s.vecStack g bad k = k := by
  rw [State.vecStack, h, Bool.false_and, if_neg (by decide), State.vec_gated hg rfl]

theorem State.vecStack_unusable {bad : Bool} (h : bad = true) (k : State) : s.vecStack g bad k = s.undefinedEncoding := by
  obtain ⟨-, hlive, -⟩ := hg
  rw [State.vecStack, h, hlive, Bool.or_true, Bool.true_and, if_pos rfl]

end

-- Shared operations ---------------------------------------------------------------------------------------------------------------

section
variable {s : State} {k : BitVec 3} {g : BitVec 2} {d a : BitVec 7} {ra : Row} {accepted : Bool} {dests : List Nat} (hg : Claims.Gated s g)
include hg

/-- A slot of one row, up to the reading of the row (R42, R237, R240). -/
theorem State.vec_row {on : Bool} {xs : List (BitVec 7)} (hok : accepted = true) (ha : Claims.RowReads s a.toNat on ra)
    (hd : ∀ x ∈ dests, s.destWaits (s.vrow x) = false) (hxs : ∀ x ∈ xs, s.source x ≠ .wait) (f : Row → State) :
    s.vec g accepted (s.settled [a.toNat] dests xs (s.withRow a.toNat on f)) = f ra := by
  rw [State.vec_gated hg hok, State.settled_ok (List.forall_mem_singleton.2 (State.rowThere_of_reads ha)) hd hxs, State.withRow_reads ha]

/-- A slot of a row and an operand b, likewise. -/
theorem State.vec_operands {onA onB : Bool} {b : Opnd} {e n : Nat} {lb : List Nat} (hok : accepted = true) (ha : Claims.RowReads s a.toNat onA ra)
    (hb : b.Gives s e n onB lb) (hd : ∀ x ∈ dests, s.destWaits (s.vrow x) = false) (f : Row → List Nat → State) :
    s.vec g accepted (s.settled (a.toNat :: b.rows) dests b.srcs (s.withRow a.toNat onA (fun ra => s.withLanes b e n onB (f ra)))) = f ra lb := by
  rw [State.vec_gated hg hok, State.settled_ok (List.forall_mem_cons.2 ⟨State.rowThere_of_reads ha, Opnd.rows_there hb⟩) hd (Opnd.srcs_there hb),
    State.withRow_reads ha, State.withLanes_gives hb]

/-- A slot of two rows, likewise. -/
theorem State.vec_rows {onA onB : Bool} {b : BitVec 7} {rb : Row} (hok : accepted = true) (ha : Claims.RowReads s a.toNat onA ra)
    (hb : Claims.RowReads s b.toNat onB rb) (hd : ∀ x ∈ dests, s.destWaits (s.vrow x) = false) (f : Row → Row → State) :
    s.vec g accepted (s.settled [a.toNat, b.toNat] dests [] (s.withRow a.toNat onA (fun ra => s.withRow b.toNat onB (f ra)))) = f ra rb := by
  rw [State.vec_gated hg hok, State.settled_ok (List.forall_mem_cons.2 ⟨State.rowThere_of_reads ha,
    List.forall_mem_singleton.2 (State.rowThere_of_reads hb)⟩) hd (List.forall_mem_nil _), State.withRow_reads ha, State.withRow_reads hb]

/-- A slot that also reads its destination, likewise (R245). -/
theorem State.vec_accumulates {on : Bool} {b : Opnd} {e n : Nat} {lb : List Nat} {rd : Row} (hok : accepted = true) (ha : Claims.RowReads s a.toNat on ra)
    (hb : b.Gives s e n on lb) (hrd : Claims.RowReads s d.toNat on rd) (hd : ∀ x ∈ dests, s.destWaits (s.vrow x) = false)
    (f : Row → List Nat → Row → State) :
    s.vec g accepted (s.settled (a.toNat :: d.toNat :: b.rows) dests b.srcs
      (s.withRow a.toNat on (fun ra => s.withLanes b e n on (fun lb => s.withRow d.toNat on (f ra lb))))) = f ra lb rd := by
  rw [State.vec_gated hg hok, State.settled_ok (List.forall_mem_cons.2 ⟨State.rowThere_of_reads ha, List.forall_mem_cons.2
    ⟨State.rowThere_of_reads hrd, Opnd.rows_there hb⟩⟩) hd (Opnd.srcs_there hb), State.withRow_reads ha, State.withLanes_gives hb,
    State.withRow_reads hrd]

/-- A lane-wise instruction of one row (R240). -/
theorem State.vec1_result {ok : Fmt → Bool} {f : Fmt → Nat → Nat → Nat} :
    let t := s.pre.laneFmt
    let n := 512 / t.size
    let m := s.pre.laneMask k.toNat
    ok t = true → Claims.RowReads s a.toNat (someLane m n) ra → Claims.RowFree s d.toNat →
    s.vec1 k g d a ok f = Claims.lanesWritten s s d t.size n m (((rowLanes t.size n ra).zip (upFrom 0 n)).map (fun q => f t q.2 q.1)) := by
  intro t n m hok ha hd
  refine (State.vec_row hg (State.accepts_of_gated hg hok) ha (List.forall_mem_singleton.2 hd) (List.forall_mem_nil _) _).trans ?_
  exact State.writeLanes_free hd ..

/-- A lane-wise instruction of two operands: it draws once, and each lane takes its own coin (R240, R242). -/
theorem State.vec2_result {b : Opnd} {ok : Fmt → Bool} {draws : Bool} {f : Fmt → Nat → Nat → Nat → Nat} {lb : List Nat} :
    let t := s.pre.laneFmt
    let n := 512 / t.size
    let m := s.pre.laneMask k.toNat
    let rs := draws && t.isFloat && s.pre.vecRnd == 4
    let z := Claims.drawn s rs n
    ok t = true → Claims.RowReads s a.toNat (someLane m n) ra → b.Gives s t.size n (someLane m n) lb → Claims.RowFree s d.toNat →
    s.vec2 k g d a b ok draws f = Claims.lanesWritten s z.2 d t.size n m
      (((rowLanes t.size n ra).zip (lb.zip (upFrom 0 n))).map (fun q => f t (if rs then coin z.2.pre.seed.toNat (z.1 + q.2.2) else 0) q.1 q.2.1)) := by
  intro t n m rs z hok ha hb hd
  refine (State.vec_operands hg (State.accepts_of_gated hg hok) ha hb (List.forall_mem_singleton.2 hd) _).trans ?_
  exact State.writeLanes_drawn hd ..

/-- A multiplication and addition of a float type, rounded once (R245). -/
theorem State.vFma_float {sub : Bool} {b : Opnd} {f : FloatFmt} {lb : List Nat} {rd : Row} :
    let t := s.pre.laneFmt
    let n := 512 / t.size
    let m := s.pre.laneMask k.toNat
    let rs := s.pre.vecRnd == 4
    let z := Claims.drawn s rs n
    t = .flt f → Claims.RowReads s a.toNat (someLane m n) ra → b.Gives s t.size n (someLane m n) lb → Claims.RowReads s d.toNat (someLane m n) rd →
    Claims.RowFree s d.toNat →
    s.vFma sub k g d a b = Claims.lanesWritten s z.2 d t.size n m
      (((rowLanes t.size n ra).zip (lb.zip ((rowLanes t.size n rd).zip (upFrom 0 n)))).map (fun q =>
        fmaLane sub f z.2.pre.vecRnd z.2.pre.vecOvf (if rs then coin z.2.pre.seed.toNat (z.1 + q.2.2.2) else 0) q.1 q.2.1 q.2.2.1)) := by
  intro t n m rs z hf ha hb hrd hd
  unfold State.vFma
  dsimp only
  split
  case h_1 f' hf' =>
    obtain rfl : f' = f := Fmt.flt.inj (hf'.symm.trans hf)
    refine (State.vec_accumulates hg (State.bound_of_gated hg) ha hb hrd (List.forall_mem_singleton.2 hd) _).trans ?_
    exact State.writeLanes_drawn hd ..
  case h_2 hnot => exact absurd hf (hnot f)

/-- The packed dot products of an integer type (R250). -/
theorem State.vFma_int {sub sg : Bool} {b : Opnd} {w : Nat} {lb : List Nat} {rd : Row} :
    let t := s.pre.laneFmt
    let m := s.pre.laneMask k.toNat
    t = .int w sg → Claims.RowReads s a.toNat (someLane m 128) ra → b.Gives s 4 128 (someLane m 128) lb → Claims.RowReads s d.toNat (someLane m 128) rd →
    Claims.RowFree s d.toNat →
    s.vFma sub k g d a b = Claims.lanesWritten s s d 4 128 m
      (((rowLanes 4 128 ra).zip (lb.zip (rowLanes 4 128 rd))).map (fun q => dotGroup sub t.width sg q.1 q.2.1 q.2.2)) := by
  intro t m hf ha hb hrd hd
  unfold State.vFma
  dsimp only
  split
  case h_1 f' hf' => exact absurd (hf'.symm.trans hf) nofun
  case h_2 hnot =>
    refine (State.vec_accumulates hg (State.bound_of_gated hg) ha hb hrd (List.forall_mem_singleton.2 hd) _).trans ?_
    simp only [t, hf]
    exact State.writeLanes_free hd ..

/-- vcmp (R251). -/
theorem State.vCmp_result {c : BitVec 4} {q : BitVec 3} {b : Opnd} {lb : List Nat} :
    let t := s.pre.laneFmt
    let n := 512 / t.size
    let m := s.pre.laneMask k.toNat
    Claims.RowReads s a.toNat (someLane m n) ra → b.Gives s t.size n (someLane m n) lb →
    s.vCmp k g c q a b = s.writeMask q.toNat (maskOf (((rowLanes t.size n ra).zip (lb.zip (upFrom 0 n))).map (fun z =>
      enabled m z.2.2 && fcmpHolds c.toNat (t.decode z.1) (t.decode z.2.1)))) := by
  intro t n m ha hb
  exact State.vec_operands hg (State.bound_of_gated hg) ha hb (List.forall_mem_nil _) _

/-- vsel (R252). -/
theorem State.vSel_result {b : Opnd} {lb : List Nat} :
    let t := s.pre.laneFmt
    let n := 512 / t.size
    let m := s.pre.laneMask k.toNat
    Claims.RowReads s a.toNat (someLane m n) ra → b.Gives s t.size n (!everyLane m n) lb → Claims.RowFree s d.toNat →
    s.vSel k g d a b = Claims.lanesWritten s s d t.size n allLanes (mergeLanes m lb (rowLanes t.size n ra)) := by
  intro t n m ha hb hd
  refine (State.vec_operands hg (State.bound_of_gated hg) ha hb (List.forall_mem_singleton.2 hd) _).trans ?_
  exact State.writeLanes_free hd ..

end

end Sys2Proof.Machine

open Sys2Proof Sys2Proof.Machine

/-- Settles O20, by the one operation behind the instructions of two operands. -/
theorem vectorTwoRowResult : Obligations.VectorTwoRowResult := by
  intro p hp s k g d a b ra rb t n m rs hg hok ha hb hd
  have hexec : exec (p.1 k g d a b) s = .next (s.vec2 k g d a (.row b) p.2.1 p.2.2.1 (p.2.2.2 s)) := by
    simp only [List.mem_cons, List.not_mem_nil, or_false] at hp
    rcases hp with rfl | rfl | rfl | rfl | rfl | rfl | rfl | rfl | rfl | rfl | rfl | rfl <;> rfl
  rw [hexec, State.vec2_result hg hok ha (Opnd.gives_row hb) hd]

/-- Settles O21, by the same operation with its second operand a scalar. -/
theorem vectorScalarResult : Obligations.VectorScalarResult := by
  intro p hp s k g d a b ra v t n m rs hg hok ha hb hd
  have hexec : exec (p.1 k g d a b) s = .next (s.vec2 k g d a (.scalar b) p.2.1 p.2.2.1 (p.2.2.2 s)) := by
    simp only [List.mem_cons, List.not_mem_nil, or_false] at hp
    rcases hp with rfl | rfl | rfl | rfl | rfl | rfl | rfl | rfl | rfl | rfl | rfl | rfl <;> rfl
  rw [hexec, State.vec2_result hg hok ha (Opnd.gives_scalar hb) hd]

/-- Settles O22, by the one operation behind the instructions of one row. -/
theorem vectorOneRowResult : Obligations.VectorOneRowResult := by
  intro p hp s k g d a ra t n m hg hok ha hd
  have hexec : exec (p.1 k g d a) s = .next (s.vec1 k g d a p.2.1 p.2.2) := by
    simp only [List.mem_cons, List.not_mem_nil, or_false] at hp
    rcases hp with rfl | rfl | rfl | rfl | rfl | rfl | rfl | rfl | rfl | rfl | rfl | rfl | rfl | rfl <;> rfl
  rw [hexec, State.vec1_result hg hok ha hd]

/-- Settles O23: a refinement is an instruction of two rows that draws nothing; vfma and vfms go by the lane type, whatever form b has. -/
theorem vectorFmaResult : Obligations.VectorFmaResult := by
  constructor
  · intro p hp s k g d a b ra rb t n m hg hok ha hb hd
    have hexec : exec (p.1 k g d a b) s = .next (s.vRefine p.2 k g d a b) := by
      simp only [List.mem_cons, List.not_mem_nil, or_false] at hp
      rcases hp with rfl | rfl <;> rfl
    rw [hexec, State.vRefine, State.vec2_result hg hok ha (Opnd.gives_row hb) hd]
    rfl
  · intro p hp s k g d a b ra rb rd v t m lanesB hg hv hd
    have hexec : exec (p.1 k g d a b) s = .next (s.vFma p.2.1 k g d a (.ofForm p.2.2 b)) := by
      simp only [List.mem_cons, List.not_mem_nil, or_false] at hp
      rcases hp with rfl | rfl | rfl | rfl <;> rfl
    constructor
    · intro f hf n rs ha hrd hb
      rw [hexec, State.vFma_float hg hf ha (Opnd.gives_ofForm hv hb) hrd hd]
    · intro w sg hf ha hrd hb
      rw [hexec, State.vFma_int hg hf ha (Opnd.gives_ofForm hv hb) hrd hd]

/-- Settles O24: vcmp and vsel by the operation of their two forms, the others by what each writes once its operand is there. -/
theorem vectorMoveResult : Obligations.VectorMoveResult := by
  constructor
  · intro s k q g c d a b x ra rb v t n m rs bc mask hg ha hx hd
    refine ⟨fun hb => ?_, ?_, fun hb => ?_, ?_, ?_, ?_⟩
    · exact congrArg Host.Outcome.next (State.vCmp_result hg ha (Opnd.gives_row hb))
    · exact congrArg Host.Outcome.next (State.vCmp_result hg ha (Opnd.gives_scalar hx))
    · exact congrArg Host.Outcome.next (State.vSel_result hg ha (Opnd.gives_row hb) hd)
    · exact congrArg Host.Outcome.next (State.vSel_result hg ha (Opnd.gives_scalar hx) hd)
    · refine congrArg Host.Outcome.next ?_
      refine (State.vec_gated hg (State.bound_of_gated hg) _).trans ?_
      refine (State.settled_ok (List.forall_mem_nil _) (List.forall_mem_singleton.2 hd) (List.forall_mem_singleton.2 (State.source_ne_wait hx)) _).trans ?_
      refine (State.withLanes_gives (Opnd.gives_scalar hx) _).trans ?_
      exact State.writeLanes_free hd ..
    · refine congrArg Host.Outcome.next ?_
      refine (State.vec_gated hg (State.bound_of_gated hg) _).trans ?_
      exact State.writeLanes_drawn hd ..
  · intro s k g d a r u ra t v src dst n m old w rs z hg hu ha hd
    have hsides : (if r = 0 then (t, v) else (v, t)) = (src, dst) := by
      by_cases hr : r = 0
      · simp only [src, dst, if_pos hr]
      · simp only [src, dst, if_neg hr]
    change execVcvt k g d a r u s = _
    rw [execVcvt]
    dsimp only
    rw [hsides]
    refine congrArg Host.Outcome.next ?_
    refine (State.vec_row hg (State.accepts_of_gated hg hu) ha (List.forall_mem_singleton.2 hd) (List.forall_mem_nil _) _).trans ?_
    refine (State.withRowDest_ok hd _).trans ?_
    rw [State.draw_preRows]

/-- Settles O25, by what each writes once its rows are there. -/
theorem vectorPermuteResult : Obligations.VectorPermuteResult := by
  intro s k g d a b x ra rb v t n m hg hd hx
  have hbound := State.bound_of_gated hg
  have hdest := List.forall_mem_singleton.2 hd
  refine ⟨fun ha hb => ?_, fun ha hb => ?_, fun ha => ⟨?_, ?_⟩⟩
  · exact congrArg Host.Outcome.next ((State.vec_rows hg hbound ha hb hdest _).trans (State.writeLanes_free hd ..))
  · exact congrArg Host.Outcome.next ((State.vec_rows hg hbound ha hb hdest _).trans (State.writeLanes_free hd ..))
  · refine congrArg Host.Outcome.next ?_
    refine (State.vec_row hg hbound ha hdest (List.forall_mem_singleton.2 (State.source_ne_wait hx)) _).trans ?_
    refine (State.withSource_ok hx _).trans ?_
    exact State.writeLanes_free hd ..
  · exact congrArg Host.Outcome.next ((State.vec_row hg hbound ha hdest (List.forall_mem_nil _) _).trans (State.writeLanes_free hd ..))

/-- Settles O26, by the free registers and the row. -/
theorem vectorReduceResult : Obligations.VectorReduceResult := by
  intro s k g d a ra t n m hg hfree ha
  refine congrArg Host.Outcome.next ?_
  refine (State.vec_gated hg (State.bound_of_gated hg) _).trans ?_
  refine (State.withDests_free hfree _).trans ?_
  exact State.withRow_reads ha _

/-- Settles O27, by the state of the stack: 16 masks refuse a push, and a stack of one mask or more is inverted, popped and set. -/
theorem maskResult : Obligations.MaskResult := by
  intro s g q d a ra top rest f n bits01 image hg
  refine ⟨fun hroom => ?_, fun hfull => ?_, fun hstack => ?_, fun ha => ?_, fun hd => ?_, rfl, rfl⟩
  · exact congrArg Host.Outcome.next (State.vecStack_usable hg (decide_eq_false (Nat.not_le.2 hroom)) _)
  · exact congrArg Host.Outcome.next (State.vecStack_unusable hg (decide_eq_true hfull) _)
  · refine ⟨?_, ?_, fun ha => ?_⟩
    · change execMinv g s = _
      rw [execMinv, hstack]
      exact congrArg Host.Outcome.next (State.vecStack_usable hg rfl _)
    · change execMpop g s = _
      rw [execMpop, hstack]
      exact congrArg Host.Outcome.next (State.vecStack_usable hg rfl _)
    · change execMset g 1 q a s = _
      rw [execMset, State.bound_of_gated hg, hstack]
      exact congrArg Host.Outcome.next ((State.vecStack_usable hg rfl _).trans (State.withRow_reads ha _))
  · change execMset g 0 q a s = _
    rw [execMset, State.bound_of_gated hg]
    exact congrArg Host.Outcome.next ((State.vecStack_usable hg rfl _).trans (State.withRow_reads ha _))
  · constructor <;> exact congrArg Host.Outcome.next ((State.vec_gated hg (State.bound_of_gated hg) _).trans (State.writeLanes_free hd ..))

end

section
/-! SUPPORT. The array's slots (R264, R293, R300): each array instruction as the slot they share, the first two checks of its operands, and the
statements ArrayIssue and ArrayControlResult. -/

namespace Sys2Proof.Machine

-- The slot that array instructions share (R264, R293) ------------------------------------------------------------------------------

/-- Instruction `i` is the array slot with op and ctl: it reads x and y, its checks find `c`, and it enters the queue from the state `armed`. -/
def State.ArrayForm (s : State) (g : BitVec 4) (t : Task) (i : Instr) (c : ArrayCheck) (op ctl : Nat) (x y : W64) (armed : State) : Prop :=
  ∃ operands check before, exec i s = .next (s.arraySlot g op ctl operands check before) ∧ (∀ k, operands k = k x y) ∧
    check t (s.core s.myCore).array.view x y = c ∧ before x s = armed

/-- The same with its operands left open: what the slot raises or waits for does not depend on them. -/
def State.ArrayChecked (s : State) (g : BitVec 4) (t : Task) (i : Instr) (c : ArrayCheck) : Prop :=
  ∃ op ctl x y armed, s.ArrayForm g t i c op ctl x y armed

/-- One that finds the queue full waits, its checks passed (R293, log 27). -/
theorem State.arraySlot_full {s : State} {g : BitVec 4} {t : Task} (hg : Claims.Live s g) (ht : s.boundTask s.cur = some t)
    (hfree : s.arrayTaken = false) (hfull : s.arrayFull = true) {op ctl : Nat} {operands : (W64 → W64 → State) → State}
    {check : Task → ArrayView → W64 → W64 → ArrayCheck} {before : W64 → State → State} {x y : W64} (ho : ∀ k, operands k = k x y)
    {reads : List (Nat × Nat)} {rows : List (Nat × Bool)} {draw : Nat} {img : List Nat}
    (h : check t (s.core s.myCore).array.view x y = .ok reads rows draw img) : s.arraySlot g op ctl operands check before = s.hold := by
  rw [State.arraySlot, State.guarded_live hg, ht]
  dsimp only
  rw [ho, State.waitWhile_false hfree, h]
  exact State.waitWhile_true hfull _

section
variable {s : State} {g : BitVec 4} {t : Task} {i : Instr} {c : ArrayCheck} (hg : Claims.Live s g) (ht : s.boundTask s.cur = some t)

theorem State.ArrayForm.checked {op ctl : Nat} {x y : W64} {armed : State} (hf : s.ArrayForm g t i c op ctl x y armed) : s.ArrayChecked g t i c :=
  ⟨op, ctl, x, y, armed, hf⟩

include hg ht

/-- The array free, its queue with room, the checks passed: the instruction enters the queue. -/
theorem State.ArrayForm.enters {op ctl : Nat} {x y : W64} {armed : State} {reads : List (Nat × Nat)} {rows : List (Nat × Bool)} {draw : Nat}
    {img : List Nat} (hf : s.ArrayForm g t i c op ctl x y armed) (hfree : s.arrayTaken = false) (hq : s.arrayFull = false)
    (hc : c = .ok reads rows draw img) : exec i s = .next (armed.enterArray t op ctl x y img reads rows draw) := by
  obtain ⟨operands, check, before, hexec, ho, rfl, rfl⟩ := hf
  rw [hexec, State.arraySlot_ok hg ht hfree hq ho hc]

/-- The array free, its queue full, the checks passed: the slot waits. -/
theorem State.ArrayChecked.waits {reads : List (Nat × Nat)} {rows : List (Nat × Bool)} {draw : Nat} {img : List Nat} (hf : s.ArrayChecked g t i c)
    (hfree : s.arrayTaken = false) (hfull : s.arrayFull = true) (hc : c = .ok reads rows draw img) : exec i s = .next s.hold := by
  obtain ⟨_, _, _, _, _, operands, check, before, hexec, ho, rfl, -⟩ := hf
  rw [hexec, State.arraySlot_full hg ht hfree hfull ho hc]

/-- The array free, a check failed: the instruction raises what the check finds. -/
theorem State.ArrayChecked.raises {q : Nat} {info : W64} (hf : s.ArrayChecked g t i c) (hfree : s.arrayTaken = false) (hc : c = .fault q info) :
    exec i s = .next (s.raise q info) := by
  obtain ⟨_, _, _, _, _, operands, check, before, hexec, ho, rfl, -⟩ := hf
  rw [hexec, State.arraySlot_fault hg ht hfree ho hc]

/-- The array another task's: the slot waits, whatever its checks would find. -/
theorem State.ArrayChecked.holds (hf : s.ArrayChecked g t i c) (htaken : s.arrayTaken = true) : exec i s = .next s.hold := by
  obtain ⟨_, _, _, _, _, operands, check, before, hexec, ho, -, -⟩ := hf
  rw [hexec, State.arraySlot_busy hg ht htaken ho]

end

-- Each array instruction as that slot (R266 to R290) -------------------------------------------------------------------------------

section
variable {s : State} {a b : BitVec 7} {x y : W64} (g : BitVec 4) (t : Task)

theorem arrayForm_mzero : s.ArrayForm g t (.mzero g) (s.mzeroCheck (s.core s.myCore).array.view) 10 0 0 0 s :=
  ⟨_, _, _, rfl, noOperands_ok s, rfl, rfl⟩

variable (ha : Claims.Reads s a x)
include ha

theorem arrayForm_cpl (l : BitVec 4) : s.ArrayForm g t (.cpl g a l) (s.cplCheck t (s.core s.myCore).array.view l x) 2 l.toNat x 0 s :=
  ⟨_, _, _, rfl, oneOperand_ok ha, rfl, rfl⟩

theorem arrayForm_mld (c : BitVec 1) : s.ArrayForm g t (.mld g a c) (s.mldCheck t (s.core s.myCore).array.view x) 3 (c.toNat * 128) x 0 s :=
  ⟨_, _, _, rfl, oneOperand_ok ha, rfl, rfl⟩

theorem arrayForm_mdp : s.ArrayForm g t (.mdp g a) (s.mdpCheck t (s.core s.myCore).array.view x) 7 0 x 0 s :=
  ⟨_, _, _, rfl, oneOperand_ok ha, rfl, rfl⟩

variable (hb : Claims.Reads s b y)
include hb

theorem arrayForm_mcfg : s.ArrayForm g t (.mcfg g a b) (s.mcfgCheck x y) 1 0 x y s :=
  ⟨_, _, _, rfl, State.with2_ok ha hb, rfl, rfl⟩

theorem arrayForm_mmk (z : BitVec 1) :
    s.ArrayForm g t (.mmk g a b z) (s.mmkCheck t (s.core s.myCore).array.view x y) 4 (z.toNat * 128) x y s :=
  ⟨_, _, _, rfl, State.with2_ok ha hb, rfl, rfl⟩

theorem arrayForm_mmc (z : BitVec 1) :
    s.ArrayForm g t (.mmc g a b z) (s.mmcCheck t (s.core s.myCore).array.view x y) 5 (z.toNat * 128) x y s :=
  ⟨_, _, _, rfl, State.with2_ok ha hb, rfl, rfl⟩

theorem arrayForm_msp (z : BitVec 1) (n : BitVec 2) :
    s.ArrayForm g t (.msp g a b z n) (s.mspCheck t (s.core s.myCore).array.view n x y) 6 (z.toNat * 128 + n.toNat) x y s :=
  ⟨_, _, _, rfl, State.with2_ok ha hb, rfl, rfl⟩

theorem arrayForm_mdr (st : BitVec 7) :
    s.ArrayForm g t (.mdr g a b st) (s.mdrCheck t (s.core s.myCore).array.view (st.toNat * 2) x y) 8 (st.toNat * 2) x y s :=
  ⟨_, _, _, rfl, State.with2_ok ha hb, rfl, rfl⟩

theorem arrayForm_mstr (st : BitVec 7) :
    s.ArrayForm g t (.mstr g a b st) (s.mstrCheck t (s.core s.myCore).array.view (st.toNat * 2) x y) 9 (st.toNat * 2) x y
      (s.armStream (bits x 47 32)) :=
  ⟨_, _, _, rfl, State.with2_ok ha hb, rfl, rfl⟩

theorem arrayForm_mtab : s.ArrayForm g t (.mtab g a b) (s.mtabCheck t x y) 11 0 x y s :=
  ⟨_, _, _, rfl, State.with2_ok ha hb, rfl, rfl⟩

theorem arrayForm_mhist (r k w : BitVec 1) :
    let hist := r.toNat * 128 + k.toNat * 64 + w.toNat * 32
    s.ArrayForm g t (.mhist g a b r k w) (s.mhistCheck t r w hist x y) 12 hist x y s :=
  ⟨_, _, _, rfl, State.with2_ok ha hb, rfl, rfl⟩

/-- The twelve array instructions that claim the array or enter its queue, each with its check. -/
theorem arrayChecked_all (st : BitVec 7) (l : BitVec 4) (c z r k w : BitVec 1) (n : BitVec 2) :
    let v := (s.core s.myCore).array.view
    let stages := st.toNat * 2
    let hist := r.toNat * 128 + k.toNat * 64 + w.toNat * 32
    ∀ p ∈ [(Instr.mcfg g a b, s.mcfgCheck x y), (.cpl g a l, s.cplCheck t v l x), (.mld g a c, s.mldCheck t v x), (.mmk g a b z, s.mmkCheck t v x y),
      (.mmc g a b z, s.mmcCheck t v x y), (.msp g a b z n, s.mspCheck t v n x y), (.mdp g a, s.mdpCheck t v x), (.mdr g a b st, s.mdrCheck t v stages x y),
      (.mstr g a b st, s.mstrCheck t v stages x y), (.mzero g, s.mzeroCheck v), (.mtab g a b, s.mtabCheck t x y),
      (.mhist g a b r k w, s.mhistCheck t r w hist x y)], s.ArrayChecked g t p.1 p.2 := by
  intro v stages hist
  simp only [List.forall_mem_cons]
  exact ⟨(arrayForm_mcfg g t ha hb).checked, (arrayForm_cpl g t ha l).checked, (arrayForm_mld g t ha c).checked, (arrayForm_mmk g t ha hb z).checked,
    (arrayForm_mmc g t ha hb z).checked, (arrayForm_msp g t ha hb z n).checked, (arrayForm_mdp g t ha).checked, (arrayForm_mdr g t ha hb st).checked,
    (arrayForm_mstr g t ha hb st).checked, (arrayForm_mzero g t).checked, (arrayForm_mtab g t ha hb).checked, (arrayForm_mhist g t ha hb r k w).checked,
    List.forall_mem_nil _⟩

end

-- The fields of an operand, then the configuration (R300, log 27) --------------------------------------------------------------------

theorem State.check10_fails (s : State) {bad : Bool} (h : bad = true) (q : Nat) (cs : List (Bool × Nat)) (k : ArrayCheck) :
    s.check10 ((bad, q) :: cs) k = s.sub10 q := if_pos h

theorem State.check10_passes (s : State) {bad : Bool} (h : bad = false) (q : Nat) (cs : List (Bool × Nat)) (k : ArrayCheck) :
    s.check10 ((bad, q) :: cs) k = s.check10 cs k := by rw [State.check10, h]; exact if_neg Bool.false_ne_true

theorem ArrayView.needs_none {v : ArrayView} (h : v.cfg = none) (s : State) (k : W64 → W64 → ArrayCheck) : v.needs s k = s.sub10 1 := by
  rw [ArrayView.needs, h]

/-- The check `c` has the sub-cause 0 where an operand is malformed, and 1 where the operands are good but the array is not configured. -/
def State.ChecksFields (s : State) (v : ArrayView) (good : Bool) (c : ArrayCheck) : Prop :=
  (good = false → c = s.sub10 0) ∧ (v.cfg = none → good = true → c = s.sub10 1)

/-- A check of the operands' fields before all that needs the configuration. -/
theorem State.checksFields (s : State) (v : ArrayView) {good bad : Bool} (e : bad = !good) (k : W64 → W64 → ArrayCheck) :
    s.ChecksFields v good (s.check10 [(bad, 0)] (v.needs s k)) := by
  subst e
  exact ⟨fun h => s.check10_fails (by rw [h]; rfl) .., fun hv h => (s.check10_passes (by rw [h]; rfl) ..).trans (ArrayView.needs_none hv s k)⟩

section
variable (s : State) (t : Task) (v : ArrayView) (x y : W64)

theorem State.cplCheck_fields (l : BitVec 4) : s.ChecksFields v (onlyFields x [(21, 0)]) (s.cplCheck t v l x) := s.checksFields v rfl _

theorem State.mldCheck_fields : s.ChecksFields v (onlyFields x [(31, 24), (21, 0)]) (s.mldCheck t v x) := s.checksFields v rfl _

theorem State.mdpCheck_fields : s.ChecksFields v (onlyFields x [(21, 0)]) (s.mdpCheck t v x) := s.checksFields v rfl _

theorem State.mmkCheck_fields :
    s.ChecksFields v (onlyFields x [(43, 32), (31, 24), (21, 0)] && onlyFields y [(31, 24), (21, 0)]) (s.mmkCheck t v x y) :=
  s.checksFields v (Bool.not_and ..).symm _

/-- The check of mmc has the lane code as an entry of its own, of the same sub-cause. -/
theorem State.mmcCheck_fields :
    s.ChecksFields v (onlyFields x [(38, 32), (21, 16), (15, 8), (1, 0)] && onlyFields y [(31, 24), (21, 0)] && laneCodeOk (bits x 21 16))
      (s.mmcCheck t v x y) := by
  rw [State.mmcCheck, ← Bool.not_and]
  cases onlyFields x [(38, 32), (21, 16), (15, 8), (1, 0)] && onlyFields y [(31, 24), (21, 0)] with
  | false => exact ⟨fun _ => rfl, nofun⟩
  | true => exact s.checksFields v rfl _

theorem State.mspCheck_fields (n : BitVec 2) :
    s.ChecksFields v (n != 3 && (onlyFields x [(43, 32), (31, 24), (21, 0)] && onlyFields y [(53, 32), (31, 24), (21, 0)])) (s.mspCheck t v n x y) :=
  s.checksFields v (by rw [Bool.not_and, Bool.not_and, Bool.or_assoc, bne, Bool.not_not]) _

theorem State.drainCheck_fields (stages : Nat) (stream : Bool) (k : Nat → ArrayCheck) :
    s.ChecksFields v (Claims.drainFields stream stages x y) (s.drainCheck t v x y stages stream k) :=
  s.checksFields v (Bool.not_and ..).symm _

theorem State.mdrCheck_fields (stages : Nat) : s.ChecksFields v (Claims.drainFields false stages x y) (s.mdrCheck t v stages x y) :=
  s.drainCheck_fields t v x y stages false _

theorem State.mstrCheck_fields (stages : Nat) : s.ChecksFields v (Claims.drainFields true stages x y) (s.mstrCheck t v stages x y) :=
  s.drainCheck_fields t v x y stages true _

theorem State.mtabCheck_malformed (h : (onlyFields x [(21, 0)] && tableOk y) = false) : s.mtabCheck t x y = s.sub10 0 :=
  s.check10_fails (by rw [← Bool.not_and, h]; rfl) ..

theorem State.mhistCheck_malformed (r w : BitVec 1) {hist : Nat}
    (h : hist = 0 ∨ (onlyFields x (if r = 1 then [(21, 0)] else []) && onlyFields y (if w = 1 then [(15, 8), (3, 0)] else [(3, 0)])) = false) :
    s.mhistCheck t r w hist x y = s.sub10 0 := by
  refine s.check10_fails ?_ ..
  rw [Bool.or_assoc, ← Bool.not_and]
  rcases h with rfl | h
  · rfl
  · rw [h, Bool.not_false, Bool.or_true]

end

/-- The operands of msp are malformed where its code n is reserved or a bit outside the fields is set. -/
theorem msp_malformed {n : BitVec 2} {good : Bool} (h : n = 3 ∨ good = false) : (n != 3 && good) = false := by
  rcases h with rfl | rfl
  · rfl
  · exact Bool.and_false _

/-- The array free: a malformed operand raises cause 0x10 with sub-cause 0, an array that is not configured with sub-cause 1. -/
theorem State.ArrayChecked.field_faults {s : State} {g : BitVec 4} {t : Task} {i : Instr} {c : ArrayCheck} {v : ArrayView} {good : Bool}
    (hf : s.ArrayChecked g t i c) (hc : s.ChecksFields v good c) (hg : Claims.Live s g) (ht : s.boundTask s.cur = some t)
    (hfree : s.arrayTaken = false) :
    (good = false → exec i s = .next (s.raise 0x10 (info10 0 0 s.bun.word.toNat))) ∧
      (v.cfg = none → good = true → exec i s = .next (s.raise 0x10 (info10 1 0 s.bun.word.toNat))) := by
  obtain ⟨hfields, hconf⟩ := hc
  exact ⟨fun h => hf.raises hg ht hfree (hfields h), fun hv h => hf.raises hg ht hfree (hconf hv h)⟩

theorem State.mcfgCheck_malformed {s : State} {x y : W64} (h : configOk x y = false) : s.mcfgCheck x y = s.sub10 0 :=
  s.check10_fails (by rw [h]; rfl) ..

theorem State.mcfgCheck_ok {s : State} {x y : W64} (h : configOk x y = true) : s.mcfgCheck x y = .ok [] [] 0 [] :=
  s.check10_passes (by rw [h]; rfl) ..

-- mbind (R291) ----------------------------------------------------------------------------------------------------------------------

section
variable {s : State} {g : BitVec 4} {a : BitVec 7} {x : W64} (hg : Claims.Live s g) (ha : Claims.Reads s a x) (hx : bits x 63 5 = 0)
  (hl : bits x 2 0 ≤ 4)
include hg ha hx hl

theorem exec_mbind_off (h : bit x 4 = true) : exec (.mbind g a 0 0) s = .next (s.modMe (fun c => { c with vbind := 0 })) := by
  change execMbind g a 0 0 s = _
  rw [execMbind, State.guarded_live hg, State.withSource_ok ha]
  simp [hx, Nat.not_lt.2 hl, h]

theorem exec_mbind_tile {k : BitVec 2} {u : BitVec 6} {t : Task} (h : bit x 4 = false) (hu : laneCodeOk u.toNat = true)
    (ht : s.boundTask s.cur = some t) (hk : k.toNat < t.tiles.length) :
    exec (.mbind g a k u) s = .next (s.modMe (fun c =>
      { c with vbind := w64 (2 ^ 63 + bits x 3 3 * 2 ^ 16 + bits x 2 0 * 2 ^ 13 + k.toNat * 2 ^ 8 + u.toNat) })) := by
  change execMbind g a k u s = _
  rw [execMbind, State.guarded_live hg, State.withSource_ok ha]
  simp [hx, Nat.not_lt.2 hl, h, hu, ht, Nat.not_le.2 hk]

end

end Sys2Proof.Machine

open Sys2Proof Sys2Proof.Machine

/-- Settles O28: each array instruction is the shared slot, which enters the queue with what the check finds. -/
theorem arrayIssue : Obligations.ArrayIssue := by
  intro s g a b st l c z r k w n x y t reads rows draw img v stages hist found enter hg ht htaken hfull ha hb
  exact ⟨(arrayForm_mcfg g t ha hb).enters hg ht htaken hfull, (arrayForm_cpl g t ha l).enters hg ht htaken hfull,
    (arrayForm_mld g t ha c).enters hg ht htaken hfull, (arrayForm_mmk g t ha hb z).enters hg ht htaken hfull,
    (arrayForm_mmc g t ha hb z).enters hg ht htaken hfull, (arrayForm_msp g t ha hb z n).enters hg ht htaken hfull,
    (arrayForm_mdp g t ha).enters hg ht htaken hfull, (arrayForm_mdr g t ha hb st).enters hg ht htaken hfull,
    (arrayForm_mstr g t ha hb st).enters hg ht htaken hfull, (arrayForm_mzero g t).enters hg ht htaken hfull,
    (arrayForm_mtab g t ha hb).enters hg ht htaken hfull, (arrayForm_mhist g t ha hb r k w).enters hg ht htaken hfull⟩

/-- Settles O29, by the shared slot: the array's holder first, then the check of the operands' fields, of the configuration and of the rest, then
the queue; mbind, mst and mfence act at once. -/
theorem arrayControlResult : Obligations.ArrayControlResult := by
  refine ⟨fun s g a b st l c z r k w n x y t => ?_, fun s g a k u x t hg => ⟨fun ha hx hl => ⟨?_, ?_⟩, fun hlow hfree => ?_, fun hdone => ?_, rfl⟩⟩
  · intro v stages hist sub hg ht ha hb
    have hall := arrayChecked_all g t ha hb st l c z r k w n
    refine ⟨fun htaken => ?_, fun hfree hfull hok => ?_, fun hfree q info p hp => (hall p hp).raises hg ht hfree, forall_and.1 fun hfree => ?_⟩
    · exact List.forall_mem_map (f := Prod.fst) (P := fun i => exec i s = .next s.hold) |>.2 fun p hp => (hall p hp).holds hg ht htaken
    · exact (arrayForm_mcfg g t ha hb).checked.waits hg ht hfree hfull (State.mcfgCheck_ok hok)
    · have mcfg0 := fun h => (arrayForm_mcfg g t ha hb).checked.raises hg ht hfree (State.mcfgCheck_malformed h)
      have mtab0 := fun h => (arrayForm_mtab g t ha hb).checked.raises hg ht hfree (s.mtabCheck_malformed t x y h)
      have mhist0 := fun h => (arrayForm_mhist g t ha hb r k w).checked.raises hg ht hfree (s.mhistCheck_malformed t x y r w h)
      have mzero1 := fun hv => (arrayForm_mzero g t).checked.raises hg ht hfree (ArrayView.needs_none hv s _)
      obtain ⟨cpl0, cpl1⟩ := (arrayForm_cpl g t ha l).checked.field_faults (s.cplCheck_fields t v x l) hg ht hfree
      obtain ⟨mdp0, mdp1⟩ := (arrayForm_mdp g t ha).checked.field_faults (s.mdpCheck_fields t v x) hg ht hfree
      obtain ⟨mld0, mld1⟩ := (arrayForm_mld g t ha c).checked.field_faults (s.mldCheck_fields t v x) hg ht hfree
      obtain ⟨mmk0, mmk1⟩ := (arrayForm_mmk g t ha hb z).checked.field_faults (s.mmkCheck_fields t v x y) hg ht hfree
      obtain ⟨mmc0, mmc1⟩ := (arrayForm_mmc g t ha hb z).checked.field_faults (s.mmcCheck_fields t v x y) hg ht hfree
      obtain ⟨msp0, msp1⟩ := (arrayForm_msp g t ha hb z n).checked.field_faults (s.mspCheck_fields t v x y n) hg ht hfree
      obtain ⟨mdr0, mdr1⟩ := (arrayForm_mdr g t ha hb st).checked.field_faults (s.mdrCheck_fields t v x y stages) hg ht hfree
      obtain ⟨mstr0, mstr1⟩ := (arrayForm_mstr g t ha hb st).checked.field_faults (s.mstrCheck_fields t v x y stages) hg ht hfree
      exact ⟨⟨mcfg0, fun h => ⟨cpl0 h, mdp0 h⟩, mld0, mmk0, mmc0, fun h => msp0 (msp_malformed h), mdr0, mstr0, mtab0, mhist0⟩,
        fun hv => ⟨mzero1 hv, fun h => ⟨cpl1 hv h, mdp1 hv h⟩, mld1 hv, mmk1 hv, mmc1 hv,
          fun hn h => msp1 hv (Bool.and_eq_true_iff.2 ⟨bne_iff_ne.2 hn, h⟩), mdr1 hv, mstr1 hv⟩⟩
  · exact exec_mbind_off hg ha hx hl
  · exact exec_mbind_tile hg ha hx hl
  · change execMst g a s = _
    rw [execMst, if_neg (Nat.not_le.2 hlow), State.toReg_live hg hfree]
  · change execMfence g s = _
    rw [execMfence, State.guarded_live hg, State.waitWhile_false hdone]

end

section
/-! SUPPORT. The slot that the Survey commands share (R322, R323, R328), once its checks pass, and the statement SurveyIssue. -/

namespace Sys2Proof.Machine

/-- The command as the last in the queue of its core's Survey (R322). -/
def State.enterSurvey (s : State) (m : SurveyCmd) : State :=
  s.modCore s.myCore (fun k => { k with survey := put m.tag.tok m k.survey })

/-- The constant that stands for a missing parameter b is 0 (R50). -/
theorem State.source_noB (s : State) : s.source noB = .ok 0 :=
  (State.source_ctx (by decide)).trans (Ctx.source_const (by decide))

section
variable {s : State} {g : BitVec 4} {a b : BitVec 7} {h : BitVec 8} {t : Task} {x y : W64} {ia op : Nat} {spec : Task → W64 → W64 → SurveySpec}
  {needs : SurveySpec} (hr : Claims.Ready s g t) (ha : Claims.Reads s a x) (hb : Claims.Reads s b y)
include hr ha hb

/-- A Survey slot whose operands are there and pass: its total is armed, and it enters the queue or waits for a place (R323, R328). -/
theorem State.surveySlot_checked (hspec : spec t x y = needs) (hok : Claims.SurveyOk s t needs ia) :
    s.surveySlot g a b h op spec =
      s.issueQueued t h needs.1 (s.refusal6 h) (decide (8 ≤ ((s.core s.myCore).survey.filter (fun q => q.2.sent.isNone)).length))
        (fun tag u => u.enterSurvey ⟨tag, op, x, y, ia, needs.1, none, none⟩) := by
  obtain ⟨total, areas, glob, bad⟩ := needs
  obtain ⟨hareas, hbad, hglob⟩ := hok
  obtain rfl : bad = false := hbad
  rw [State.surveySlot, State.engineSlot_sources hr ha hb, hspec]
  exact State.surveyCheck_ok hareas hglob _

/-- An instruction that is the Survey slot enters a queue with fewer than 8 commands (R322). -/
theorem survey_enters {i : Instr} (hroom : ((s.core s.myCore).survey.filter (fun q => q.2.sent.isNone)).length < 8)
    (hexec : exec i s = .next (s.surveySlot g a b h op spec)) (hspec : spec t x y = needs) (hok : Claims.SurveyOk s t needs ia)
    (harm : Claims.CanArm s t h needs.1) :
    exec i s = .next ((Claims.armed s t h needs.1 0).enterSurvey ⟨(s.newTag t h.toNat 0).1, op, x, y, ia, needs.1, none, none⟩) := by
  rw [hexec, State.surveySlot_checked hr ha hb hspec hok, decide_eq_false (Nat.not_le.2 hroom), State.issueQueued_ok harm]

end

end Sys2Proof.Machine

open Sys2Proof Sys2Proof.Machine

/-- Settles O33: each Survey command is the shared slot, with the constant 0 for the b that hinit and dest lack. -/
theorem surveyIssue : Obligations.SurveyIssue := by
  intro s g a b h x y t ia enter hr ha hb hroom
  have enters {i op spec needs} := survey_enters (i := i) (op := op) (spec := spec) (needs := needs) (h := h) (ia := ia) hr ha hb hroom
  have entersNoB {i op spec needs} := survey_enters (i := i) (op := op) (spec := spec) (needs := needs) (h := h) (ia := ia) hr ha s.source_noB hroom
  exact ⟨enters rfl rfl, enters rfl rfl, enters rfl rfl, enters rfl rfl, enters rfl rfl, enters rfl rfl, entersNoB rfl rfl,
    enters rfl rfl, enters rfl rfl, enters rfl rfl, enters rfl rfl, enters rfl rfl, enters rfl rfl, entersNoB rfl rfl⟩

end

section
/-! SUPPORT. A check that passes, and what the issue of a command leaves: the context that runs, the frame of its bundle, and its die. -/

namespace Sys2Proof.Machine

/-- A check that does not fail goes on. -/
theorem State.check_passes {bad : Bool} (h : bad = false) (p q : State) : (if bad = true then p else q) = q := if_neg (ne_true_of_eq_false h)

theorem State.cur_updateBarrier (s : State) (c : Nat) (t : Task) (h : Nat) (f : Barrier → Barrier) : (s.updateBarrier c t h f).cur = s.cur := by
  unfold State.updateBarrier; split <;> rfl

theorem State.bun_updateBarrier (s : State) (c : Nat) (t : Task) (h : Nat) (f : Barrier → Barrier) : (s.updateBarrier c t h f).bun = s.bun := by
  unfold State.updateBarrier; split <;> rfl

section
variable (s : State) (t : Task) (h : BitVec 8) (n draw : Nat)

theorem State.cur_armed : (Claims.armed s t h n draw).cur = s.cur := by
  unfold Claims.armed
  split
  · rfl
  · exact State.cur_updateBarrier ..

theorem State.bun_armed : (Claims.armed s t h n draw).bun = s.bun := by
  unfold Claims.armed
  split
  · rfl
  · exact State.bun_updateBarrier ..

theorem State.myDie_armed : (Claims.armed s t h n draw).myDie = s.myDie := congrArg dieOfCtx (s.cur_armed t h n draw)

end

end Sys2Proof.Machine

end

section
/-! SUPPORT. The slot that the state-store commands share (R337, R349), and the statement StateStoreIssue. -/

namespace Sys2Proof.Machine

/-- The command as the last in the queue of the state store of its die (R337). -/
def State.enterStore (s : State) (m : StCmd) : State := s.modStore s.myDie (fun k => { k with queue := put m.tag.tok m k.queue })

/-- A state-store slot whose operands are there and pass: it waits behind a commit of its task, or its total is armed and it enters the queue
(R337, R349). -/
theorem State.storeSlot_checked {s : State} {g : BitVec 4} {a b : BitVec 7} {h : BitVec 8} {t : Task} {x y : W64} {op : Nat}
    {spec : W64 → W64 → StoreSpec} (hr : Claims.Ready s g t) (ha : Claims.Reads s a x) (hb : Claims.Reads s b y) (hbad : (spec x y).2.2 = false)
    (harea : ∀ q ∈ (spec x y).2.1, q.off % q.align = 0 ∧ t.usable q.off q.len = true) (harm : Claims.CanArm s t h (spec x y).1) :
    s.storeSlot g a b h op spec =
      if s.commitOut then s.hold else (Claims.armed s t h (spec x y).1 0).enterStore ⟨(s.newTag t h.toNat 0).1, op, x, y, (spec x y).1⟩ := by
  rw [State.storeSlot, State.engineSlot_sources hr ha hb]
  revert hbad harea harm
  generalize spec x y = needs
  obtain ⟨total, area, bad⟩ := needs
  intro hbad harea harm
  obtain rfl : bad = false := hbad
  have enters (k : Tag → State → State) : s.issueQueued t h total (s.refusal6 h) s.commitOut k =
      if s.commitOut then s.hold else k (s.newTag t h.toNat 0).1 (Claims.armed s t h total 0) := by
    cases hout : s.commitOut with
    | true => exact State.issueQueued_full harm ..
    | false => exact State.issueQueued_ok harm ..
  cases area with
  | none => exact enters _
  | some q =>
    obtain ⟨halign, husable⟩ := harea q rfl
    refine (State.check_passes (bne_eq_false_iff_eq.2 halign) _ _).trans ?_
    refine (State.check_passes (by rw [husable]; rfl) _ _).trans ?_
    exact enters _

end Sys2Proof.Machine

open Sys2Proof Sys2Proof.Machine

/-- Settles O34: each state-store command is the shared slot, with the constant 0 for the b that stmark and stclose lack. -/
theorem stateStoreIssue : Obligations.StateStoreIssue := by
  intro s g a b h x y t enter hr ha hb
  have enters {i : Instr} {op : Nat} {h : BitVec 8} {b : BitVec 7} {y : W64} {spec : W64 → W64 → StoreSpec} (hb : Claims.Reads s b y)
      (hexec : exec i s = .next (s.storeSlot g a b h op spec)) : enter op h y (spec x y) (exec i s) := by
    intro hbad harea harm
    rw [hexec, State.storeSlot_checked hr ha hb hbad harea harm]
    rfl
  have hzero := s.source_noB
  exact ⟨enters hb rfl, enters hb rfl, enters hb rfl, enters (spec := fun x _ => stmarkSpec x) hzero rfl, enters hb rfl, enters hb rfl, enters hb rfl,
    enters (spec := fun x _ => stcloseSpec x) hzero rfl, enters hb rfl⟩

end

section
/-! SUPPORT. The host commands hnote and hintr (R447), and the statement HostResult. -/

namespace Sys2Proof.Machine

section
variable {s : State} {g : BitVec 4} {a b : BitVec 7} {h : BitVec 8} {t : Task} {x y : W64} (hr : Claims.Ready s g t) (ha : Claims.Reads s a x)
  (harm : Claims.CanArm s t h 8)
include hr ha harm

/-- hnote whose count is armed: the code of its ring, a full ring, a denied write, or the entry (R441, R445, R447). -/
theorem exec_hnote (hb : Claims.Reads s b y) :
    let pk := s.myDie / 4
    let tag := (s.newTag t h.toNat 0).1
    let u := Claims.armed s t h 8 0
    let ring := (s.pkg pk).ring y.toNat
    let e : RingEntry := ⟨y.toNat, 3, s.dieId s.myDie, [x, s.ctxId s.cur, w64 t.ia]⟩
    exec (.hnote g a b h) s = .next (
      if s.hostCode t y != 0 then u.endHost tag (s.hostCode t y) 0
      else if ring.full then (u.modPkg pk (fun p => p.dropEntry y.toNat)).endHost tag 3 0
      else if !u.entryGranted pk e then
        ((u.modPkg pk (fun p => p.dropEntry y.toNat)).denied (u.ringDie pk y.toNat) (40 + s.myDie % 4) ring.entryAt).endHost tag 3 0
      else (u.modPkg pk (fun p => p.writeEntry u.tick e)).endHost tag 0 ring.tail) := by
  refine congrArg Host.Outcome.next ?_
  refine (State.engineSlot_sources hr ha hb _).trans ?_
  rw [← s.myDie_armed t h 8 0]
  exact State.issueCommand_ok harm ..

/-- hintr whose count is armed: the code of its ring, or the interrupt (R446, R447). -/
theorem exec_hintr :
    let pk := s.myDie / 4
    let tag := (s.newTag t h.toNat 0).1
    let u := Claims.armed s t h 8 0
    exec (.hintr g a h) s = .next (
      if s.hostCode t x != 0 then u.endHost tag (s.hostCode t x) 0 else (u.modPkg pk (fun p => p.interrupt x.toNat)).endHost tag 0 0) := by
  refine congrArg Host.Outcome.next ?_
  refine (State.engineSlot_source hr ha _).trans ?_
  exact State.issueCommand_ok harm ..

end

end Sys2Proof.Machine

open Sys2Proof Sys2Proof.Machine

/-- Settles O37, by the choices of each command once its count is armed. -/
theorem hostResult : Obligations.HostResult := by
  intro s g a b h x y t pk tag u ring e hr ha hb harm
  rw [exec_hnote hr ha harm hb, exec_hintr hr ha harm]
  have passes {code : Nat} {p q : State} (h : code = 0) : (if code != 0 then p else q) = q := State.check_passes (bne_eq_false_iff_eq.2 h) p q
  refine ⟨fun hcode => ?_, fun hcode hfull => ?_, fun hcode hroom hgrant => ?_, fun hcode hroom hdeny => ?_, fun hcode => ?_, fun hcode => ?_⟩ <;>
    refine congrArg Host.Outcome.next ?_
  · exact if_pos (bne_iff_ne.2 hcode)
  · exact (passes hcode).trans (if_pos hfull)
  · exact (passes hcode).trans ((State.check_passes hroom _ _).trans (State.check_passes (by rw [hgrant]; rfl) _ _))
  · exact (passes hcode).trans ((State.check_passes hroom _ _).trans (if_pos (by rw [hdeny]; rfl)))
  · exact if_pos (bne_iff_ne.2 hcode)
  · exact passes hcode

end

section
/-! SUPPORT. Commands of the index engine at issue (R384, R393, R396), once their operands are there, and the statement IndexIssue. -/

namespace Sys2Proof.Machine

/-- Scratchpad data that a command may name, the barrier page not among it (R155, R177). -/
theorem State.engineSpad_data {s : State} {t : Task} {wr : Bool} {a n align : Nat} (h : Claims.Spad t a n align false) (k : State) :
    s.engineSpad t wr a n align false k = k := by
  obtain ⟨halign, hlow, hfit, hpage⟩ := h
  exact State.engineSpad_ok halign hlow hfit hpage (.inl rfl) k

/-- A handle of 255 counts nothing (R26). -/
theorem State.canArm_255 (s : State) (t : Task) (n : Nat) : Claims.CanArm s t 255 n := .inl rfl

section
variable {s : State} {t : Task} {h : BitVec 8} {op total : Nat} {x y : W64} (hroom : (s.core s.myCore).index.queue.length < 16)
include hroom

/-- A command whose total its object takes enters the queue (R381). -/
theorem State.enterIndex_ok (harm : Claims.CanArm s t h total) (desc : List W64) (z left : Nat) :
    s.enterIndex t h op total x y desc z left = Claims.indexed s t h op total x y desc z left := by
  rw [State.enterIndex, decide_eq_false (Nat.not_le.2 hroom), State.issueQueued_ok harm]
  unfold Claims.indexed
  rw [← State.bun_armed s t h total 0]

/-- wlpush, wlpop and wlins, their operands passed (R396). -/
theorem State.wlSlot_ok (hx : bits x 63 51 = 0) (hy : bits y 63 57 = 0)
    (hhdr : Claims.Spad t (wnHdr x) 64 64 false) (hrow : Claims.Spad t (bits x 43 22) 512 32 false) :
    let z := s.wlSize s.myCore t (s.pre.task.getD 0) (wnHdr x)
    let n := bits x 50 44 + 1
    let total := if op = 0x32 then 512 else n * z
    n * z ≤ 512 → Claims.CanArm s t h total →
    s.wlSlot t h op x y = Claims.indexed s t h op total x y [] z (if op = 0x33 then n else 0) := by
  intro z n total hfit harm
  refine (State.engineSpad_data hhdr _).trans ?_
  refine (State.engineSpad_data hrow _).trans ?_
  refine (State.check_passes (by simp [hx, hy, z, n] at hfit ⊢; exact hfit) _ _).trans ?_
  exact State.enterIndex_ok hroom harm ..

end

section
variable {s : State} {g : BitVec 4} {a b : BitVec 7} {h : BitVec 8} {t : Task} {x y : W64} (hr : Claims.Ready s g t) (ha : Claims.Reads s a x)
  (hroom : (s.core s.myCore).index.queue.length < 16)
include hr ha hroom

/-- gath, scat and scata: the descriptor, then the areas of the list and of the data, then the fields (R383, R384). -/
theorem State.indexSlot_ok {op : Nat} (hx : bits x 63 22 = 0) (hparams : Claims.Params s t x.toNat 32 32) :
    let ws := wordsOf 4 (s.spadRead s.myCore t x.toNat 32)
    let n := ixCnt ws
    Claims.Spad t (ixList ws) (n * ixWidth ws) (ixWidth ws) false →
    Claims.Spad t (ixData ws) (n * ixStride op ws) (if op = 0x2A then ixW ws else 4) false → ixOk op ws = true → Claims.CanArm s t h (n * ixSize ws) →
    s.indexSlot g a h op = Claims.indexed s t h op (n * ixSize ws) x 0 ws 0 n := by
  intro ws n hlist hdata hok harm
  have halign : ixData ws % (if op = 0x2A then ixW ws else 4) = 0 := hdata.1
  refine (State.engineSlot_source hr ha _).trans ?_
  refine (State.check_passes (by simp [hx]) _ _).trans ?_
  refine (State.engineSpad_params hparams _).trans ?_
  refine (State.check_passes (bne_eq_false_iff_eq.2 halign) _ _).trans ?_
  refine (State.engineSpad_data hlist _).trans ?_
  refine (State.engineSpad_data hdata _).trans ?_
  refine (State.check_passes (by rw [hok]; rfl) _ _).trans ?_
  exact State.enterIndex_ok hroom harm ..

theorem exec_fqread_entries (hb : Claims.Reads s b y) (hone : 1 ≤ y.toNat) (hmax : y.toNat ≤ 1024) (hx : bits x 63 22 = 0)
    (harea : Claims.Spad t x.toNat (16 * y.toNat) 16 false) (harm : Claims.CanArm s t h (16 * y.toNat)) :
    exec (.fqread g a b h) s = .next (Claims.indexed s t h 0x2B (16 * y.toNat) x y [] 0 0) := by
  have hsome : bits y 10 0 ≠ 0 := by
    simp only [bits, bitsN]
    omega
  refine congrArg Host.Outcome.next ?_
  refine (State.engineSlot_sources hr ha hb _).trans ?_
  refine (if_neg hsome).trans ?_
  refine (if_neg (by simp [hx, hmax])).trans ?_
  refine (State.engineSpad_data harea _).trans ?_
  exact State.enterIndex_ok hroom harm ..

/-- fqread of no entries names no area, and no object. -/
theorem exec_fqread_none (hb : Claims.Reads s b y) (hy : y = 0) (hx : x = 0) :
    exec (.fqread g a b 255) s = .next (Claims.indexed s t 255 0x2B 0 x y [] 0 0) := by
  refine congrArg Host.Outcome.next ?_
  refine (State.engineSlot_sources hr ha hb _).trans ?_
  subst hx hy
  exact State.enterIndex_ok hroom (State.canArm_255 s t 0) ..

theorem exec_frep (hsel : selOk x = true) : exec (.frep g a) s = .next (Claims.indexed s t 255 0x2C 0 x 0 [] 0 0) := by
  refine congrArg Host.Outcome.next ?_
  refine (State.engineSlot_source hr ha _).trans ?_
  refine (State.check_passes (by rw [hsel]; rfl) _ _).trans ?_
  exact State.enterIndex_ok hroom (State.canArm_255 s t 0) ..

theorem exec_fdrop (hb : Claims.Reads s b y) (hsel : selOk x = true) :
    exec (.fdrop g a b) s = .next (Claims.indexed s t 255 0x2D 0 x y [] 0 0) := by
  refine congrArg Host.Outcome.next ?_
  refine (State.engineSlot_sources hr ha hb _).trans ?_
  refine (State.check_passes (by rw [hsel]; rfl) _ _).trans ?_
  exact State.enterIndex_ok hroom (State.canArm_255 s t 0) ..

/-- wlnew: the header and the ring in scratchpad, and a spill area, if it names one, in global memory (R395). -/
theorem exec_wlnew (hb : Claims.Reads s b y) (hok : wnOk x y = true)
    (hspill : y = 0 ∨ bits y 56 0 % 4096 = 0 ∧ ∃ ia w, translate s.pre.wnd (bits y 56 0) (wnSize x * 2 ^ bits y 62 57) = some (ia, w) ∧
      rwMiss t.card ia (wnSize x * 2 ^ bits y 62 57) = none)
    (hhdr : Claims.Spad t (wnHdr x) 64 64 false) (hring : Claims.Spad t (wnRing x) (wnSize x * 2 ^ wnCap x) 64 false)
    (harm : Claims.CanArm s t h 64) : exec (.wlnew g a b h) s = .next (Claims.indexed s t h 0x30 64 x y [] 0 0) := by
  have hsp : bits y 56 0 % 4096 = 0 := by
    rcases hspill with rfl | ⟨hsp, -⟩
    · rfl
    · exact hsp
  have hhdrAlign : wnHdr x % 64 = 0 := hhdr.1
  have hringAlign : wnRing x % 64 = 0 := hring.1
  have enters : (if !wnOk x y then s.rejectIndex h.toNat else s.enterIndex t h 0x30 64 x y [] 0 0) = Claims.indexed s t h 0x30 64 x y [] 0 0 :=
    (State.check_passes (by rw [hok]; rfl) _ _).trans (State.enterIndex_ok hroom harm ..)
  refine congrArg Host.Outcome.next ?_
  refine (State.engineSlot_sources hr ha hb _).trans ?_
  refine (State.check_passes (bne_eq_false_iff_eq.2 hhdrAlign) _ _).trans ?_
  refine (State.check_passes (bne_eq_false_iff_eq.2 hringAlign) _ _).trans ?_
  refine (State.check_passes (bne_eq_false_iff_eq.2 hsp) _ _).trans ?_
  refine (State.engineSpad_data hhdr _).trans ?_
  refine (State.engineSpad_data hring _).trans ?_
  by_cases hy : y = 0
  · exact (if_pos hy).trans enters
  · obtain ⟨-, ia, w, ht, hmiss⟩ := hspill.resolve_left hy
    refine (if_neg hy).trans ?_
    simp only [ht, hmiss]
    exact enters

theorem exec_wlstat (hx : bits x 63 22 = 0) (harea : Claims.Spad t x.toNat 64 64 false) :
    exec (.wlstat g a) s = .next (Claims.indexed s t 255 0x34 0 x 0 [] 0 0) := by
  refine congrArg Host.Outcome.next ?_
  refine (State.engineSlot_source hr ha _).trans ?_
  refine (State.check_passes (by rw [hx]; rfl) _ _).trans ?_
  refine (State.engineSpad_data harea _).trans ?_
  exact State.enterIndex_ok hroom (State.canArm_255 s t 0) ..

end

end Sys2Proof.Machine

open Sys2Proof Sys2Proof.Machine

/-- Settles O35, by the checks of each command in their order, and then the queue. -/
theorem indexIssue : Obligations.IndexIssue := by
  constructor
  · intro p hp s g a h x t ws n st al hr ha hx hparams hlist hdata hok hroom harm
    have hexec : exec (p.1 g a h) s = .next (s.indexSlot g a h p.2) := by
      simp only [List.mem_cons, List.not_mem_nil, or_false] at hp
      rcases hp with rfl | rfl | rfl <;> rfl
    rw [hexec, State.indexSlot_ok hr ha hroom hx hparams hlist hdata hok harm]
  · intro s g a b h x y t z n row hr ha hb hroom
    have one {i : Instr} {k : Task → W64 → State} (hexec : exec i s = .next (s.engineSlot g (fun t => s.withSource a (k t)))) :
        exec i s = .next (k t x) := hexec.trans (congrArg _ (State.engineSlot_source hr ha k))
    refine ⟨exec_fqread_entries hr ha hroom hb, exec_fqread_none hr ha hroom hb, fun hsel => ⟨exec_frep hr ha hroom hsel, exec_fdrop hr ha hroom hb hsel⟩,
      fun hok hspill _ hhdr hring harm => exec_wlnew hr ha hroom hb hok hspill hhdr hring harm,
      fun hx hfit hhdr hrow => ⟨fun harm => ⟨?_, fun hy => ?_⟩, fun harm => ?_⟩, exec_wlstat hr ha hroom⟩
    · exact (one rfl).trans (congrArg _ (State.wlSlot_ok hroom (op := 0x31) hx rfl hhdr hrow hfit harm))
    · refine congrArg Host.Outcome.next ((State.engineSlot_sources hr ha hb _).trans ?_)
      exact State.wlSlot_ok hroom (op := 0x33) hx hy hhdr hrow hfit harm
    · exact (one rfl).trans (congrArg _ (State.wlSlot_ok hroom (op := 0x32) hx rfl hhdr hrow hfit harm))

end

section
/-! SUPPORT. Collective commands at issue (R408, R409, R416 to R431): the parameters and extents of a descriptor, the entry into the queue, and the
statement CollectiveIssue. -/

namespace Sys2Proof.Machine

/-- A descriptor whose parameters pass is read (R418, R431). -/
theorem State.colDesc_params {s : State} {t : Task} {a n : Nat} (h : Claims.Params s t a n n) (k : List W64 → State) :
    s.colDesc t a n k = k (wordsOf (n / 8) (s.spadRead s.myCore t a n)) := by
  obtain ⟨⟨halign, hlow, hfit, -⟩, hgood⟩ := h
  exact State.colDesc_ok halign hlow hfit hgood k

/-- A local extent that passes its checks gives its base (R431). -/
theorem State.colSide_ok {s : State} {t : Task} {wr scratch : Bool} {a n b : Nat} (h : Claims.ColBase s t wr scratch a n b) (k : Nat → State) :
    s.colSide t wr scratch a n k = k b := by
  obtain ⟨hn, h⟩ := h
  cases scratch with
  | true =>
    obtain ⟨⟨-, hlow, hfit, hpage⟩, rfl⟩ := h
    exact State.colSide_spad hlow hfit (hpage.resolve_left (by decide)) hn k
  | false =>
    obtain ⟨w, ht, hf⟩ := h
    exact State.colSide_global ht hf hn k

/-- A check that only some commands have, made or not needed. -/
theorem State.check_where {p : Prop} [Decidable p] {f : State → State} {k : State} (h : p → f k = k) : (if p then f k else k) = k := by
  by_cases hp : p
  · exact (if_pos hp).trans (h hp)
  · exact if_neg hp

section
variable {s : State} {t : Task} {h : BitVec 8} {op : Nat} {av bv : W64} {grp total : Nat} {f : ColCmd → ColCmd}
  (hroom : collectives (s.die s.myDie).coll.queue < 64)
include hroom

/-- A command enters a queue with fewer than 64 collectives, its bytes armed (R430). -/
theorem State.enterColl_ok (harm : Claims.CanArm s t h total) :
    s.enterColl t h op av bv grp total false f = Claims.collected s t h op av bv grp total false f := by
  rw [State.enterColl, decide_eq_false (Nat.not_le.2 hroom)]
  exact State.issueQueued_ok harm ..

/-- A rejected one enters it and arms nothing (R431). -/
theorem State.enterColl_rejected (harm : Claims.CanArm s t h 0) :
    s.enterColl t h op av bv grp total true f = Claims.collected s t h op av bv grp total true f := by
  rw [State.enterColl, decide_eq_false (Nat.not_le.2 hroom)]
  exact State.issueQueued_ok harm ..

end

-- Collective descriptors (R418, R421) ----------------------------------------------------------------------------------------------

/-- The two layout blocks of a transform lie where its descriptor says, without an uncorrectable error, and hold these words; other kinds have
none (R421). -/
def State.LayoutsAre (s : State) (t : Task) (kind : Nat) (ws lay : List W64) : Prop :=
  let l1 := bits (wordN ws 5) 21 0
  let l2 := bits (wordN ws 6) 21 0
  if kind = 3 then Claims.Spad t l1 128 64 false ∧ Claims.Spad t l2 128 64 false ∧ s.spadBad s.myCore t l1 128 = false ∧
    s.spadBad s.myCore t l2 128 = false ∧ lay = wordsOf 16 (s.spadRead s.myCore t l1 128) ++ wordsOf 16 (s.spadRead s.myCore t l2 128)
  else lay = []

/-- The local extents of a descriptor pass their checks, with these bases; a barrier has none (R419). -/
def State.SidesAre (s : State) (t : Task) (kind : Nat) (ws lay : List W64) (sb db : Nat) : Prop :=
  if kind = 2 then sb = 0 ∧ db = 0
  else Claims.ColBase s t false (bit (wordN ws 1) 63) (bits (wordN ws 1) 56 0) (if kind = 3 then laySpan (lay.take 16) else cdLen ws) sb ∧
    Claims.ColBase s t true (bit (wordN ws 2) 63) (bits (wordN ws 2) 56 0) (cdLen ws) db

/-- What a command keeps of its descriptor (R418). -/
abbrev ColCmd.described (ws lay : List W64) (sb db : Nat) (m : ColCmd) : ColCmd :=
  { m with sig := cdSig ws lay, ws := ws, lay := lay, sbase := sb, dbase := db, ssp := bit (wordN ws 1) 63, dsp := bit (wordN ws 2) 63, trp := cdTrp ws,
           sta := if cdSv ws then some (cdSta ws) else none }

section
variable {s : State} {t : Task} {h : BitVec 8} {op kind a sb db : Nat} {av : W64} {lay : List W64} (hparams : Claims.Params s t a 64 64)
include hparams

/-- A descriptor whose areas and extents pass: the command is a member's and well formed, or it is rejected (R418, R431). -/
theorem State.descCommand_checked {bad : Bool} :
    let ws := wordsOf 8 (s.spadRead s.myCore t a 64)
    let n := (s.grp s.myDie (cdGrp ws)).n
    (cdSv ws = true → Claims.Spad t (cdSta ws) (staBytes n) 32 false) → s.LayoutsAre t kind ws lay → s.SidesAre t kind ws lay sb db →
    s.descCommand t h op kind a av bad =
      if !s.isMember (cdGrp ws) || !(!bad && cdOk kind ws && (kind != 3 || layPairOk (lay.take 16) (lay.drop 16) n (cdLen ws))) then
        s.enterColl t h op av 0 (cdGrp ws) 0 true id
      else s.enterColl t h op av 0 (cdGrp ws) (if kind = 2 then 8 else cdLen ws) false (ColCmd.described ws lay sb db) := by
  intro ws n hsta hlay hsides
  refine (State.colDesc_params hparams _).trans ?_
  refine (State.check_where fun hsv => State.engineSpad_data (hsta hsv) _).trans ?_
  unfold State.LayoutsAre at hlay
  unfold State.SidesAre at hsides
  by_cases h2 : kind = 2
  · subst h2
    obtain ⟨rfl, rfl⟩ := hsides
    obtain rfl : lay = [] := hlay
    rfl
  rw [if_neg h2] at hsides
  obtain ⟨hs, hd⟩ := hsides
  by_cases h3 : kind = 3
  · subst h3
    obtain ⟨h1, h2, hgood1, hgood2, rfl⟩ := hlay
    refine (State.engineSpad_data h1 _).trans ?_
    refine (State.engineSpad_data h2 _).trans ?_
    refine (State.goodParams_ok hgood1 _).trans ?_
    refine (State.goodParams_ok hgood2 _).trans ?_
    refine (State.colSide_ok hs _).trans ?_
    exact State.colSide_ok hd _
  · rw [if_neg h3] at hlay
    subst hlay
    refine (if_pos (bne_iff_ne.2 h3)).trans ?_
    refine (if_neg h2).trans ?_
    refine (State.colSide_ok hs _).trans ?_
    exact State.colSide_ok hd _

variable (hroom : collectives (s.die s.myDie).coll.queue < 64)
include hroom

/-- A member's well-formed descriptor gives a command of the queue (R409, R418). -/
theorem State.descCommand_enters :
    let ws := wordsOf 8 (s.spadRead s.myCore t a 64)
    let n := (s.grp s.myDie (cdGrp ws)).n
    let total := if kind = 2 then 8 else cdLen ws
    (cdSv ws = true → Claims.Spad t (cdSta ws) (staBytes n) 32 false) → s.LayoutsAre t kind ws lay → s.SidesAre t kind ws lay sb db →
    s.isMember (cdGrp ws) = true → cdOk kind ws = true → (kind = 3 → layPairOk (lay.take 16) (lay.drop 16) n (cdLen ws) = true) →
    Claims.CanArm s t h total →
    s.descCommand t h op kind a av = Claims.collected s t h op av 0 (cdGrp ws) total false (ColCmd.described ws lay sb db) := by
  intro ws n total hsta hlay hsides hmember hok hpair harm
  have hpairs : (kind != 3 || layPairOk (lay.take 16) (lay.drop 16) n (cdLen ws)) = true := by
    by_cases h3 : kind = 3
    · rw [hpair h3, Bool.or_true]
    · rw [bne_iff_ne.2 h3, Bool.true_or]
  refine (State.descCommand_checked hparams hsta hlay hsides).trans ?_
  refine (State.check_passes (by rw [hmember, hok, hpairs]; rfl) _ _).trans ?_
  exact State.enterColl_ok hroom harm

end

-- The other commands (R408, R423 to R427, R434) --------------------------------------------------------------------------------------

/-- trap.info of a written VA below 2^57. -/
theorem vaInfo_write {a : Nat} (h : a < 2 ^ 57) : vaInfo true a = w64 (2 ^ 63 + a) := by
  rw [vaInfo, Nat.mod_eq_of_lt h]
  rfl

section
variable {s : State} {g : BitVec 4} {a b : BitVec 7} {h : BitVec 8} {t : Task} {x y : W64} (hr : Claims.Ready s g t) (ha : Claims.Reads s a x)
  (hroom : collectives (s.die s.myDie).coll.queue < 64)
include hr ha hroom

theorem exec_cbar_plain (hx : bit x 63 = false) (hfields : bits x 62 17 = 0) (hmember : s.isMember (bits x 15 0) = true) (harm : Claims.CanArm s t h 8) :
    exec (.cbar g a h) s =
      .next (Claims.collected s t h 0x3D x 0 (bits x 15 0) 8 false (fun m => { m with sig := ⟨2, 0, 0, false, 0, 0, 0⟩, trp := bit x 16 })) := by
  refine congrArg Host.Outcome.next ?_
  refine (State.engineSlot_source hr ha _).trans ?_
  refine (State.check_passes hx _ _).trans ?_
  refine (State.check_passes (by rw [hfields, hmember]; rfl) _ _).trans ?_
  exact State.enterColl_ok hroom harm

/-- A barrier with a descriptor (R418, R419). -/
theorem exec_cbar_desc (hx : bit x 63 = true) (hfields : bits x 62 22 = 0) (hparams : Claims.Params s t (bits x 21 0) 64 64) :
    let ws := wordsOf 8 (s.spadRead s.myCore t (bits x 21 0) 64)
    (cdSv ws = true → Claims.Spad t (cdSta ws) (staBytes (s.grp s.myDie (cdGrp ws)).n) 32 false) →
    (s.isMember (cdGrp ws) = true → cdOk 2 ws = true → Claims.CanArm s t h 8 →
      exec (.cbar g a h) s = .next (Claims.collected s t h 0x3D x 0 (cdGrp ws) 8 false (ColCmd.described ws [] 0 0))) ∧
    (s.isMember (cdGrp ws) = false → Claims.CanArm s t h 0 →
      exec (.cbar g a h) s = .next (Claims.collected s t h 0x3D x 0 (cdGrp ws) 0 true id)) := by
  intro ws hsta
  have hexec : exec (.cbar g a h) s = .next (s.descCommand t h 0x3D 2 (bits x 21 0) x) := by
    refine congrArg Host.Outcome.next ?_
    refine (State.engineSlot_source hr ha _).trans ?_
    refine (if_pos hx).trans ?_
    rw [hfields]
    rfl
  have hlay : s.LayoutsAre t 2 ws [] := rfl
  have hsides : s.SidesAre t 2 ws [] 0 0 := ⟨rfl, rfl⟩
  refine ⟨fun hmember hok harm => hexec.trans (congrArg _ ?_), fun hmember harm => hexec.trans (congrArg _ ?_)⟩
  · exact State.descCommand_enters hparams hroom hsta hlay hsides hmember hok nofun harm
  · refine (State.descCommand_checked hparams hsta hlay hsides).trans ?_
    refine (if_pos (by rw [hmember]; rfl)).trans ?_
    exact State.enterColl_rejected hroom harm

theorem exec_csmp (hparams : Claims.Params s t x.toNat 64 64) :
    let ws := wordsOf 8 (s.spadRead s.myCore t x.toNat 64)
    Claims.Spad t (smpLogits ws) (4 * smpCount ws) 4 false → (smpMasked ws = true → Claims.Spad t (smpMask ws) ((smpCount ws + 7) / 8) 1 false) →
    (h ≠ 255 → Claims.Spad t (smpRes ws) 8 8 false) → smpOk ws = true → s.isMember (smpGrp ws) = true → Claims.CanArm s t h 8 →
    exec (.csmp g a h) s = .next (Claims.collected s t h 0x3E x 0 (smpGrp ws) 8 false (fun m =>
      { m with sig := ⟨4, 4, 0x22, true, 8, 0, 0⟩, ws := ws, trp := smpTrp ws })) := by
  intro ws hlogits hmask hres hok hmember harm
  have result (k : State) : (if h = 255 then k else s.engineSpad t true (smpRes ws) 8 8 false k) = k := by
    by_cases hh : h = 255
    · exact if_pos hh
    · exact (if_neg hh).trans (State.engineSpad_data (hres hh) _)
  refine congrArg Host.Outcome.next ?_
  refine (State.engineSlot_source hr ha _).trans ?_
  refine (State.colDesc_params hparams _).trans ?_
  refine (State.engineSpad_data hlogits _).trans ?_
  refine (State.check_where fun hm => State.engineSpad_data (hmask hm) _).trans ?_
  refine (result _).trans ?_
  refine (State.check_passes (by rw [hok, hmember]; rfl) _ _).trans ?_
  exact State.enterColl_ok hroom harm

/-- A transfer whose descriptor and local extent pass (R423). -/
theorem State.transferSlot_ok {put_ : Bool} {base : Nat} (hparams : Claims.Params s t x.toNat 32 32) :
    let td := wordsOf 4 (s.spadRead s.myCore t x.toNat 32)
    let grp := s.grp s.myDie (tdGrp td)
    let total := tdLen td * (tdTargets td grp.n grp.rank).length
    onlyFields (wordN td 0) [(27, 0)] = true → onlyFields (wordN td 1) [(63, 63), (56, 0)] = true →
    (bit (wordN td 1) 63 = true → bits (wordN td 1) 56 22 = 0) → onlyFields (wordN td 2) [(39, 0)] = true → onlyFields (wordN td 3) [(40, 0)] = true →
    0 < tdLen td → tdLen td ≤ 2 ^ 40 → s.isMember (tdGrp td) = true → Claims.CanArm s t h total →
    (if tdMc td then put_ && tdRank td == 0 else decide (tdRank td < grp.n)) = true →
    Claims.ColBase s t (!put_) (bit (wordN td 1) 63) (bits (wordN td 1) 56 0) (tdLen td) base →
    s.transferSlot g a h put_ = Claims.collected s t h (if put_ then 0x39 else 0x3A) x 0 (tdGrp td) total false (fun m =>
      { m with ws := td, sbase := base, dbase := base, ssp := bit (wordN td 1) 63, dsp := bit (wordN td 1) 63 }) := by
  intro td grp total h0 h1 hlow h2 h3 hpos hmax hmember harm hrank hside
  have hlow' : (!bit (wordN td 1) 63 || bits (wordN td 1) 56 22 == 0) = true := by
    cases hb : bit (wordN td 1) 63 with
    | false => rfl
    | true => simp [hlow hb]
  have hlen : (tdLen td != 0) = true := bne_iff_ne.2 (Nat.ne_of_gt hpos)
  refine (State.engineSlot_source hr ha _).trans ?_
  refine (State.colDesc_params hparams _).trans ?_
  refine (State.colSide_ok hside _).trans ?_
  refine (State.check_passes ?_ _ _).trans ?_
  · rw [h0, h1, hlow', h2, h3, hlen, decide_eq_true hmax, hrank, hmember]
    rfl
  · exact State.enterColl_ok hroom harm

section
variable (hb : Claims.Reads s b y)
include hb

theorem exec_cqsend (hy : onlyFields y [(30, 28), (26, 0)] = true) (hmember : s.isMember (bits y 15 0) = true)
    (hrank : bits y 26 16 < (s.grp s.myDie (bits y 15 0)).n) (harm : Claims.CanArm s t h 8) :
    exec (.cqsend g a b h) s = .next (Claims.collected s t h 0x36 x y (bits y 15 0) 8 false id) := by
  refine congrArg Host.Outcome.next ?_
  refine (State.engineSlot_sources hr ha hb _).trans ?_
  dsimp only
  rw [hy, hmember, decide_eq_true hrank]
  exact State.enterColl_ok hroom harm

theorem exec_cst_rejected (hy : 2 < y.toNat) : exec (.cst g a b) s = .next (Claims.collected s t 255 0x37 x y (bits x 15 0) 0 true id) := by
  refine congrArg Host.Outcome.next ?_
  refine (State.engineSlot_sources hr ha hb _).trans ?_
  refine (if_pos hy).trans ?_
  exact State.enterColl_rejected hroom (State.canArm_255 s t 0)

end

end

-- Groups (R408, R426) ----------------------------------------------------------------------------------------------------------------

/-- Operands of copen without a malformed field (R408). -/
theorem copen_good {x y : W64} (hx : bits x 63 18 = 0) (hy : if bit y 63 then bits y 62 57 = 0 else y = 0) :
    (bits x 63 18 != 0 || (if bit y 63 then bits y 62 57 != 0 else y != 0)) = false := by
  rw [hx]
  by_cases h : bit y 63 = true
  · rw [if_pos h] at hy
    rw [if_pos h, hy]
    rfl
  · rw [if_neg h] at hy
    rw [if_neg h, hy]
    rfl

/-- copen whose receive region passes: it is rejected, or the membership ends, or it is taken or renewed (R408, R431). -/
theorem exec_copen_checked {s : State} {g : BitVec 4} {a b : BitVec 7} {h : BitVec 8} {t : Task} {x y : W64} {region : Option (Nat × Nat)}
    (hr : Claims.Ready s g t) (ha : Claims.Reads s a x) (hb : Claims.Reads s b y) (hregion : Claims.Region s t y region) :
    let grp := bits x 15 0
    let ent := s.grp s.myDie grp
    let bad := bits x 63 18 != 0 || (if bit y 63 then bits y 62 57 != 0 else y != 0)
    let ok := !bad && ent.v && (if bit x 17 then s.isMember grp else ent.member.isNone || s.isMember grp)
    exec (.copen g a b h) s = .next (
      if !ok then s.enterColl t h 0x38 x y grp 8 true id
      else if bit x 17 then (s.leaveGroup s.myDie (s.pre.task.getD 0) grp).enterColl t h 0x38 x y grp 8 false id
      else (s.joinGroup grp region (bit x 16)).enterColl t h 0x38 x y grp 8 false id) := by
  intro grp ent bad ok
  refine congrArg Host.Outcome.next ?_
  refine (State.engineSlot_sources hr ha hb _).trans ?_
  unfold Claims.Region at hregion
  by_cases hy : bit y 63 = true
  · rw [if_pos hy] at hregion
    obtain ⟨ia, w, ht, hmiss, rfl⟩ := hregion
    refine (if_pos hy).trans ?_
    simp only [ht, hmiss]
    rfl
  · rw [if_neg hy] at hregion
    subst hregion
    exact if_neg hy

theorem exec_copen_unmapped {s : State} {g : BitVec 4} {a b : BitVec 7} {h : BitVec 8} {t : Task} {x y : W64}
    (hr : Claims.Ready s g t) (ha : Claims.Reads s a x) (hb : Claims.Reads s b y) (hy : bit y 63 = true)
    (ht : translate s.pre.wnd (bits y 56 16 * 65536) ((bits y 15 0 + 1) * 65536) = none) :
    exec (.copen g a b h) s = .next (s.raise 5 (w64 (2 ^ 63 + bits y 56 16 * 65536))) := by
  have hva : bits y 56 16 * 65536 < 2 ^ 57 := by
    simp only [bits, bitsN]
    omega
  refine congrArg Host.Outcome.next ?_
  refine (State.engineSlot_sources hr ha hb _).trans ?_
  refine (if_pos hy).trans ?_
  simp only [ht, vaInfo_write hva]

-- Streams (R424) ---------------------------------------------------------------------------------------------------------------------

section
variable {s : State} {g : BitVec 4} {a b : BitVec 7} {h : BitVec 8} {t : Task} {x y : W64} (hr : Claims.Ready s g t) (ha : Claims.Reads s a x)
  (hb : Claims.Reads s b y) (hxf : onlyFields x [(34, 7), (3, 0)] = true) (hyf : onlyFields y [(55, 40), (39, 0)] = true)
  (hmember : s.isMember (bits x 23 8) = true)
include hr ha hb hxf hyf hmember

theorem exec_cstr_opens (hx : bit x 7 = false) (hh : h ≠ 255) (hfree : s.openStream (bits x 3 0) = none) (halign : bits y 8 0 = 0)
    (hrows : bits y 55 40 ≠ 0) (hrank : bits x 34 24 < (s.grp s.myDie (bits x 23 8)).n) :
    let u := s.asideStream s.myCore (bits x 3 0)
    exec (.cstr g a b h) s = .next (((u.newTag t h.toNat 0).2).modCore s.myCore (fun k =>
      { k with streams := put (bits x 3 0) ⟨(u.newTag t h.toNat 0).1, s.bun.word.toNat, false, bits x 23 8, bits x 34 24, bits y 39 0, bits y 55 40, 0, []⟩
                            k.streams })) := by
  refine congrArg Host.Outcome.next ?_
  refine (State.engineSlot_sources hr ha hb _).trans ?_
  refine (State.check_passes (by rw [hx, beq_false_of_ne hh]; rfl) _ _).trans ?_
  refine (State.check_passes hx _ _).trans ?_
  refine (State.check_passes ?_ _ _).trans rfl
  simp [hxf, hyf, hmember, hfree, halign, hrows, hrank]

theorem exec_cstr_closes (hroom : collectives (s.die s.myDie).coll.queue < 64) (q : Stream) (hx : bit x 7 = true)
    (hopen : s.openStream (bits x 3 0) = some q) (htask : q.tag.u = s.pre.task.getD 0) (hgrp : q.grp = bits x 23 8) :
    exec (.cstr g a b 255) s = .next (Claims.collected (s.modCore s.myCore (fun k => { k with streams := k.streams.map (fun q =>
      if q.1 = bits x 3 0 then (q.1, { q.2 with shut := true }) else q) })) t 255 0x3F x y (bits x 23 8) 0 false
        (fun m => { m with sbase := q.tag.tok })) := by
  refine congrArg Host.Outcome.next ?_
  refine (State.engineSlot_sources hr ha hb _).trans ?_
  refine (State.check_passes (by simp [hx]) _ _).trans ?_
  refine (if_pos hx).trans ?_
  rw [hopen]
  refine (State.check_passes ?_ _ _).trans ?_
  · simp [hxf, hyf, hmember, htask, hgrp]
  · exact State.enterColl_ok hroom (State.canArm_255 _ t 0)

end

end Sys2Proof.Machine

open Sys2Proof Sys2Proof.Machine

/-- Settles O38, by the checks of each command in their order, and then the queue. -/
theorem collectiveIssue : Obligations.CollectiveIssue := by
  constructor
  · intro s g a b h x y t ws td hr ha hb hroom
    have one {i : Instr} {k : Task → W64 → State} (hexec : exec i s = .next (s.engineSlot g (fun t => s.withSource a (k t)))) :
        exec i s = .next (k t x) := hexec.trans (congrArg _ (State.engineSlot_source hr ha k))
    refine ⟨fun hx hparams hmember harm hsta => ⟨fun hok sb db hsb hdb => ?_, ?_⟩, exec_cbar_plain hr ha hroom, ?_,
      fun hx hparams hlogits hmask hres hok hmember harm => exec_csmp hr ha hroom hparams hlogits hmask hres hok hmember harm,
      ?_, exec_cqsend hr ha hroom hb, fun hy => ?_, exec_cst_rejected hr ha hroom hb⟩
    · refine (one rfl).trans (congrArg _ ?_)
      exact State.descCommand_enters (kind := 1) (lay := []) hparams hroom hsta rfl ⟨hsb, hdb⟩ hmember hok nofun harm
    · intro l1 l2 lay h1 h2 hgood1 hgood2 hok hpair sb db hsb hdb
      refine (one rfl).trans (congrArg _ ?_)
      have hlay : s.LayoutsAre t 3 ws lay := ⟨h1, h2, hgood1, hgood2, rfl⟩
      exact State.descCommand_enters hparams hroom hsta hlay ⟨hsb, hdb⟩ hmember hok (fun _ => hpair) harm
    · intro at_ wb hx hfields hparams hsta
      exact exec_cbar_desc hr ha hroom hx hfields hparams hsta
    · intro hx hparams h0 h1 hlow h2 h3 hpos hmax hmember base grp total sent harm
      have transfers {put_ : Bool} := State.transferSlot_ok (put_ := put_) (base := base) hr ha hroom hparams h0 h1 hlow h2 h3 hpos hmax hmember harm
      refine ⟨fun hrank hside => congrArg Host.Outcome.next (transfers (put_ := true) ?_ hside),
        fun hmc hrank hside => congrArg Host.Outcome.next (transfers (put_ := false) ?_ hside)⟩
      · cases hmc : tdMc td with
        | true => simpa [td, hmc] using hrank
        | false => simpa [td, hmc] using hrank
      · simpa [td, hmc] using hrank
    · refine congrArg Host.Outcome.next ?_
      refine (State.engineSlot_sources hr ha hb _).trans ?_
      exact if_neg (Nat.not_lt.2 hy)
  · intro s g a b h x y t grp ent hr ha hb hroom
    refine ⟨fun hx hv => ⟨?_, ?_⟩,
      exec_copen_unmapped hr ha hb, fun region hx hregion harm => ?_, ?_⟩
    · intro region hclose hfree hy hregion u harm hroom'
      refine (exec_copen_checked hr ha hb hregion).trans (congrArg _ ?_)
      refine (State.check_passes ?_ _ _).trans ?_
      · rw [copen_good hx hy, hv, hclose, if_neg (by decide), hfree]
        rfl
      · refine (State.check_passes hclose _ _).trans ?_
        exact State.enterColl_ok hroom' harm
    · intro region hclose hmember hy hregion u harm hroom'
      refine (exec_copen_checked hr ha hb hregion).trans (congrArg _ ?_)
      refine (State.check_passes ?_ _ _).trans ?_
      · rw [copen_good hx hy, hv, hclose, if_pos rfl, hmember]
        rfl
      · refine (if_pos hclose).trans ?_
        exact State.enterColl_ok hroom' harm
    · refine (exec_copen_checked hr ha hb hregion).trans (congrArg _ ?_)
      refine (if_pos (by simp [bne_iff_ne.2 hx])).trans ?_
      exact State.enterColl_rejected hroom harm
    · intro hxf hyf hmember
      exact ⟨exec_cstr_opens hr ha hb hxf hyf hmember, exec_cstr_closes hr ha hb hxf hyf hmember hroom⟩

end

section
/-! SUPPORT. The home-agent commands at issue (R374 to R380): the turn of their core (R16), and the statement HomeAgentResult. -/

namespace Sys2Proof.Machine

-- The turns of a die's cores (R16) -------------------------------------------------------------------------------------------------

section
variable {s : State}

theorem State.haTaken_first (h : Claims.HaFirst s) (k : State → State) : s.haTaken k = k (Claims.haTurn s) :=
  State.waitWhile_false (bne_eq_false_iff_eq.2 h) _

theorem State.haTaken_later (h : ¬ Claims.HaFirst s) (k : State → State) : s.haTaken k = s.hold :=
  State.waitWhile_true (bne_iff_ne.2 h) _

theorem State.haTaken_turn (k : State → State) : s.haTaken k = if Claims.HaFirst s then k (Claims.haTurn s) else s.hold := by
  by_cases h : Claims.HaFirst s
  · rw [if_pos h, State.haTaken_first h]
  · rw [if_neg h, State.haTaken_later h]

/-- A command that waits for a unit to serve, then for its turn, holds until both have come. -/
theorem State.served_waits {serves : Bool} (h : serves = false ∨ ¬ Claims.HaFirst s) (k : State → State) :
    s.waitWhile (!serves) (s.haTaken k) = s.hold := by
  cases serves with
  | false => exact State.waitWhile_true rfl _
  | true => exact (State.waitWhile_false rfl _).trans (State.haTaken_later (h.resolve_left nofun) k)

variable {t : Task} {h : BitVec 8} {code val : Nat} (harm : Claims.CanArm s t h 8)
include harm

/-- A command that completes when it is taken (R374): its object counts the same bytes after what it does, which leaves the scratchpad. -/
theorem State.haAtOnce_first {f : State → State} (hfirst : Claims.HaFirst s) (hf : Claims.CanArm (f (Claims.haTurn s)) t h 8) :
    s.haAtOnce t h code val f = Claims.haDone (f (Claims.haTurn s)) t h code val := by
  refine (State.armable_ok harm _ _).trans ?_
  refine (State.haTaken_first hfirst _).trans ?_
  exact State.issueCommand_ok hf ..

theorem State.haAtOnce_later {f : State → State} (hlater : ¬ Claims.HaFirst s) : s.haAtOnce t h code val f = s.hold :=
  (State.armable_ok harm _ _).trans (State.haTaken_later hlater _)

end

-- The answer of a page's home (R378) --------------------------------------------------------------------------------------------------

/-- What own of a page without a fresh entry leaves: the home wakes, and the answer is its record, which fills an entry, or that it has none (R378, R450). -/
def State.homeSays (s : State) (ia : Nat) : State :=
  match s.homeRec? s.myDie ia with
  | none => (s.wake (s.homeOf s.myDie ia)).atOnceL5 (haStatus 5 0)
  | some (p, r) => ((s.wake (s.homeOf s.myDie ia)).gazFill s.myDie p r.owner r.big).atOnceL5
      (haStatus 0 (b2n r.migrating * 2 ^ 17 + 2 ^ 16 + s.dieId r.owner))

theorem State.homeSays_unassigned {s : State} {ia : Nat} (h : s.homeRec? s.myDie ia = none) :
    s.homeSays ia = (s.wake (s.homeOf s.myDie ia)).atOnceL5 (haStatus 5 0) := by rw [State.homeSays, h]

theorem State.homeSays_record {s : State} {ia p : Nat} {r : HomeRec} (h : s.homeRec? s.myDie ia = some (p, r)) :
    s.homeSays ia = ((s.wake (s.homeOf s.myDie ia)).gazFill s.myDie p r.owner r.big).atOnceL5
      (haStatus 0 (b2n r.migrating * 2 ^ 17 + 2 ^ 16 + s.dieId r.owner)) := by rw [State.homeSays, h]

-- The commands (R376 to R380) ------------------------------------------------------------------------------------------------------

section
variable {s : State} {g : BitVec 4} {a b : BitVec 7} {h : BitVec 8} {x y : W64} {t : Task} (hr : Claims.Ready s g t)
include hr

/-- lrenew joins the renewals of its task in the turn of its core (R361, R380). -/
theorem exec_lrenew (harm : Claims.CanArm s t h 8) :
    let tag := (s.newTag t h.toNat 0).1
    let u := Claims.armed (Claims.haTurn s) t h 8 0
    exec (.lrenew g h) s =
      .next (if Claims.HaFirst s then u.modTask u.myDie tag.u (fun q => { q with renews := q.renews ++ [(tag, false)] }) else s.hold) := by
  refine congrArg Host.Outcome.next ?_
  refine (State.engineSlot_ready hr _).trans ?_
  refine (State.armable_ok harm _ _).trans ?_
  refine (State.haTaken_turn _).trans ?_
  by_cases hfirst : Claims.HaFirst s
  · rw [if_pos hfirst, if_pos hfirst]
    exact State.issueCommand_ok (s := Claims.haTurn s) harm ..
  · rw [if_neg hfirst, if_neg hfirst]

variable (ha : Claims.Reads s a x)
include ha

section
variable (hb : Claims.Reads s b y)
include hb

/-- An S7 slot of a system instruction with two operands, in system mode (R69). -/
theorem State.systemSlot_sources (hsys : s.sysMode s.cur = true) (k : Task → W64 → W64 → State) :
    s.systemSlot g (fun t => s.with2 a b (k t)) = k t x y := by
  obtain ⟨hg, ht, hacquire⟩ := hr
  exact (State.systemSlot_ok hg ht hsys hacquire _).trans (State.with2_ok ha hb _)

theorem exec_mig_starts (hsys : s.sysMode s.cur = true) (harm : Claims.CanArm s t h 8) {es : List (Nat × Nat)} (hx : bits x 63 57 = 0)
    (hy : onlyFields y [(10, 0), (20, 16), (47, 24), (63, 63)] = true) (hes : translateAll s.pre.wnd (migExtents x y) = .inl es)
    (halign : bits x 15 0 = 0) (hmiss : anyModeMiss t.card es = none) :
    let u := Claims.armed s t h 8 0
    let tag := (s.newTag t h.toNat 0).1
    let m : Mig := { tag := tag, pages := ((es.map (fun e => upFrom (e.1 / 65536) (e.2 / 65536))).flatten).eraseDups, src := 0,
                     dst := u.dieAt u.myDie (bits y 10 0), phase := 0, rounds := 0, dirty := [], copied := 0, frozenAt := 0, frames := [], tables := [],
                     code := 0 }
    exec (.mig g a b h) s = .next { u with migs := put tag.tok m u.migs } := by
  intro u tag m
  refine congrArg Host.Outcome.next ?_
  refine (State.systemSlot_sources hr ha hb hsys _).trans ?_
  refine (State.check_passes (by rw [hx, hy]; rfl) _ _).trans ?_
  simp only [hes]
  refine (State.check_passes (by rw [halign]; rfl) _ _).trans ?_
  simp only [hmiss]
  exact State.issueCommand_ok harm ..

/-- mig of a VA with bits 63:57 set ends with code 1 (R376; log 41). -/
theorem exec_mig_malformed (hsys : s.sysMode s.cur = true) (harm : Claims.CanArm s t h 8) (hfirst : Claims.HaFirst s) (hx : bits x 63 57 ≠ 0) :
    exec (.mig g a b h) s = .next (Claims.haDone (Claims.haTurn s) t h 1 0) := by
  refine congrArg Host.Outcome.next ?_
  refine (State.systemSlot_sources hr ha hb hsys _).trans ?_
  refine (if_pos (by rw [bne_iff_ne.2 hx, Bool.true_or])).trans ?_
  exact State.haAtOnce_first harm hfirst harm

theorem exec_ocinv_malformed (hsys : s.sysMode s.cur = true) (harm : Claims.CanArm s t h 8) (hfirst : Claims.HaFirst s) (hy : 2 ≤ y.toNat) :
    exec (.ocinv g a b h) s = .next (Claims.haDone (Claims.haTurn s) t h 1 0) := by
  refine congrArg Host.Outcome.next ?_
  refine (State.systemSlot_sources hr ha hb hsys _).trans ?_
  refine (if_pos (by simp [hy])).trans ?_
  exact State.haAtOnce_first harm hfirst harm

/-- ocinv 1 forgets every entry (R379). -/
theorem exec_ocinv_all (hsys : s.sysMode s.cur = true) (hy : y = 1) (hx : x = 0) :
    exec (.ocinv g a b h) s = .next (s.haAtOnce t h 0 (s.die s.myDie).gaz.length (fun v => v.modDie s.myDie (fun k => { k with gaz := [] }))) := by
  subst hx hy
  exact congrArg Host.Outcome.next (State.systemSlot_sources hr ha hb hsys _)

/-- ocinv 0 of a page without an entry forgets none (R379). -/
theorem exec_ocinv_page_absent (hsys : s.sysMode s.cur = true) (hy : y = 0) (hx : onlyFields x [(56, 16)] = true) {ia w : Nat}
    (ht : translate s.pre.wnd x.toNat 1 = some (ia, w)) (hgaz : pageFind? Gaz.big (ia / 65536) (s.die s.myDie).gaz = none) :
    exec (.ocinv g a b h) s = .next (s.haAtOnce t h 0 0) := by
  subst hy
  refine congrArg Host.Outcome.next ?_
  refine (State.systemSlot_sources hr ha hb hsys _).trans ?_
  refine (State.check_passes (by rw [hx]; rfl) _ _).trans ?_
  refine (if_neg (by decide)).trans ?_
  simp only [ht, hgaz]

/-- ocinv 0 forgets the entry of its page (R379). -/
theorem exec_ocinv_page (hsys : s.sysMode s.cur = true) (hy : y = 0) (hx : onlyFields x [(56, 16)] = true) {ia w p : Nat} {e : Gaz}
    (ht : translate s.pre.wnd x.toNat 1 = some (ia, w)) (hgaz : pageFind? Gaz.big (ia / 65536) (s.die s.myDie).gaz = some (p, e)) :
    exec (.ocinv g a b h) s = .next (s.haAtOnce t h 0 1 (fun v => v.modDie s.myDie (fun k => { k with gaz := del p k.gaz }))) := by
  subst hy
  refine congrArg Host.Outcome.next ?_
  refine (State.systemSlot_sources hr ha hb hsys _).trans ?_
  refine (State.check_passes (by rw [hx]; rfl) _ _).trans ?_
  refine (if_neg (by decide)).trans ?_
  simp only [ht, hgaz]

theorem exec_pkset_malformed (h : 32 ≤ x.toNat ∨ 4 ≤ y.toNat) : exec (.pkset g a b) s = .next (s.atOnceL5 (haStatus 1 0)) := by
  refine congrArg Host.Outcome.next ?_
  refine (State.engineSlot_sources hr ha hb _).trans ?_
  exact if_pos (by simpa using h)

theorem exec_pkset_sets (hx : x.toNat < 32) (hy : y.toNat < 4) :
    let r := y.toNat &&& (if t.sys then 3 else bits (s.graphKeys s.cur t) (2 * x.toNat + 1) (2 * x.toNat))
    exec (.pkset g a b) s = .next ((s.modMe (fun c => { c with pkr := w64 (setBitsN c.pkr.toNat (2 * x.toNat + 1) (2 * x.toNat) r) })).atOnceL5
      (haStatus 0 (x.toNat * 4 + r))) := by
  refine congrArg Host.Outcome.next ?_
  refine (State.engineSlot_sources hr ha hb _).trans ?_
  exact if_neg (by simp [hx, hy])

end

/-- own of a page with a fresh gazetteer entry, in the turn of its core (R378). -/
theorem exec_own_fresh {ia w o : Nat} (hx : bits x 63 57 = 0) (ht : translate s.pre.wnd x.toNat 1 = some (ia, w))
    (ho : s.gazFresh s.myDie ia = some o) :
    exec (.own g a) s = .next (s.haTaken (fun v => v.atOnceL5 (haStatus 0 (v.dieId o)))) := by
  refine congrArg Host.Outcome.next ?_
  refine (State.engineSlot_source hr ha _).trans ?_
  refine (State.check_passes (by rw [hx]; rfl) _ _).trans ?_
  simp only [ht, ho]

/-- own of a page without one asks the page's home, once that serves (R378). -/
theorem exec_own_asks {ia w : Nat} (hx : bits x 63 57 = 0) (ht : translate s.pre.wnd x.toNat 1 = some (ia, w))
    (hnone : s.gazFresh s.myDie ia = none) :
    exec (.own g a) s = .next (s.waitWhile (!s.serving (s.homeOf s.myDie ia)) (s.haTaken (fun v => v.homeSays ia))) := by
  refine congrArg Host.Outcome.next ?_
  refine (State.engineSlot_source hr ha _).trans ?_
  refine (State.check_passes (by rw [hx]; rfl) _ _).trans ?_
  simp only [ht, hnone]
  rfl

theorem exec_own_malformed (hx : bits x 63 57 ≠ 0) (hfirst : Claims.HaFirst s) :
    exec (.own g a) s = .next ((Claims.haTurn s).atOnceL5 (haStatus 1 0)) := by
  refine congrArg Host.Outcome.next ?_
  refine (State.engineSlot_source hr ha _).trans ?_
  refine (if_pos (bne_iff_ne.2 hx)).trans ?_
  exact State.haTaken_first hfirst _

end

end Sys2Proof.Machine

open Sys2Proof Sys2Proof.Machine

/-- Settles O36, by the checks of each command in their order, and the turn of its core for those that wait for it. -/
theorem homeAgentResult : Obligations.HomeAgentResult := by
  constructor
  · intro s g a b h x y t es ia w tag v hr ha hb harm
    refine ⟨fun hsys => ⟨fun hx hy hes halign hmiss => exec_mig_starts hr ha hb hsys harm hx hy hes halign hmiss,
      fun hfirst => ⟨fun hy hx => ?_, fun hy hx ht => ⟨fun hnone => ?_, fun p e hsome => ?_⟩⟩, fun hlater hy hx => ?_⟩,
      exec_pkset_sets hr ha hb, fun hx ht => ⟨fun o ho => ?_, fun hnone => ?_⟩, ?_⟩
    · exact (exec_ocinv_all hr ha hb hsys hy hx).trans (congrArg _ (State.haAtOnce_first harm hfirst harm))
    · exact (exec_ocinv_page_absent hr ha hb hsys hy hx ht hnone).trans (congrArg _ (State.haAtOnce_first harm hfirst harm))
    · exact (exec_ocinv_page hr ha hb hsys hy hx ht hsome).trans (congrArg _ (State.haAtOnce_first harm hfirst harm))
    · exact (exec_ocinv_all hr ha hb hsys hy hx).trans (congrArg _ (State.haAtOnce_later harm hlater))
    · exact (exec_own_fresh hr ha hx ht ho).trans (congrArg _ (State.haTaken_turn _))
    · have hexec := exec_own_asks hr ha hx ht hnone
      refine ⟨fun hwait => hexec.trans (congrArg _ (State.served_waits hwait _)), fun hserve hfirst => ?_⟩
      have asked : exec (.own g a) s = .next (v.homeSays ia) :=
        hexec.trans (congrArg _ ((State.waitWhile_false (by rw [hserve]; rfl) _).trans (State.haTaken_first hfirst _)))
      exact ⟨fun hrec => asked.trans (congrArg _ (State.homeSays_unassigned hrec)), fun p r hrec => asked.trans (congrArg _ (State.homeSays_record hrec))⟩
    · exact exec_lrenew hr harm
  · intro s g a b h x y t hg
    refine ⟨fun hsys => ?_, fun hr ha hb => ⟨fun hsys harm hfirst => ⟨exec_mig_malformed hr ha hb hsys harm hfirst,
      exec_ocinv_malformed hr ha hb hsys harm hfirst⟩, exec_pkset_malformed hr ha hb, exec_own_malformed hr ha⟩⟩
    constructor <;> exact congrArg Host.Outcome.next (State.systemSlot_task hg hsys _)

end

section
/-! SUPPORT. How a request finds its owner, and how signposts and lineage are retired (R353 to R371): what each event does where its conditions
hold, and the statement RoutingEvents. -/

namespace Sys2Proof.Machine

/-- Two changes of a die that agree on the die's state. -/
theorem State.modDie_congr {s : State} {d : Nat} {f f' : Die → Die} (h : f (s.die d) = f' (s.die d)) : s.modDie d f = s.modDie d f' :=
  congrArg (s.setDie d) h

/-- An event of a die that exists. -/
theorem onUnit_die {d : Nat} (h : d < 2048) (u : State) : onUnit (dieOk d) u = .next u := onUnit_ok (dieOk_lt h) u

-- Requests (R354, R362, R368, R370, R371) ------------------------------------------------------------------------------------------

section
variable {s0 : State} {id : Nat} {m : Msg} (hm : Claims.Sent s0 id m)
include hm

/-- The home names the owner of a page, or finds it unassigned (R354, R362). -/
theorem exec_homeOwnerQuery (hstage : m.stage = .query) :
    let s := s0.arrive m
    s.answers m.origin (s.homeOf m.origin m.ia) = true →
    exec (.homeOwnerQuery id) s0 = .next (match s.homeRec? m.origin m.ia with
      | some (p, r) => s.modMsg id (fun m => { m with ans := { Answer.none with redirect := some (p, r.owner), bytes := [BitVec.ofNat 8 (b2n r.big)] } })
      | none => s.modMsg id (fun m => { m with ans := { Answer.none with denied := some 5 } })) := by
  intro s hans
  refine congrArg Host.Outcome.next ?_
  refine (State.onMsg_found hm _).trans ?_
  refine (State.check_passes (by rw [hstage, hans]; rfl) _ _).trans ?_
  rfl

/-- The owner that the home named fills an entry, and the request is routed again (R362). -/
theorem exec_homeOwnerAnswer_names {p o : Nat} (hstage : m.stage = .query) (hans : m.ans.redirect = some (p, o)) :
    exec (.homeOwnerAnswer id) s0 = .next ((((s0.arrive m).gazFill m.origin p o (m.ans.bytes.headD 0 == 1)).modMsg id (fun m =>
      { m with stage := .wait, ans := Answer.none })).routeAll m.origin) := by
  refine congrArg Host.Outcome.next ?_
  refine (State.onMsg_found hm _).trans ?_
  refine (State.check_passes (by rw [hstage]; rfl) _ _).trans ?_
  rw [hans]

/-- A request that the home finds unassigned is answered so (R354, R358). -/
theorem exec_homeOwnerAnswer_denies (hstage : m.stage = .query) {w : Nat} (hnone : m.ans.redirect = none) (hdenied : m.ans.denied = some w) :
    let r := ((s0.arrive m).resolvesOf m).unassigned m
    exec (.homeOwnerAnswer id) s0 = .next ((r.2.modMsg id (fun m => { m with stage := .served, ans := r.1 })).routeAll m.origin) := by
  refine congrArg Host.Outcome.next ?_
  refine (State.onMsg_found hm _).trans ?_
  refine (State.check_passes (by rw [hstage]; rfl) _ _).trans ?_
  rw [hnone, hdenied]

/-- A request answered redirect only is sent again to the owner it names (R370, R371). -/
theorem exec_redirect_resends {p o : Nat} (hstage : m.stage = .redirected) (hans : m.ans.redirect = some (p, o)) :
    exec (.redirect id) s0 = .next ((((s0.arrive m).takeRedirect id m).modMsg id (fun m => { m with stage := .wait, path := [], ans := Answer.none })).sendTo
      id o { m with stage := .wait, path := [] }) := by
  refine congrArg Host.Outcome.next ?_
  refine (State.onMsg_found hm _).trans ?_
  refine (if_pos hstage).trans ?_
  rw [hans]

theorem exec_redirect_taken (hstage : m.stage = .served) : exec (.redirect id) s0 = .next ((s0.arrive m).takeRedirect id m) := by
  refine congrArg Host.Outcome.next ?_
  refine (State.onMsg_found hm _).trans ?_
  refine (if_neg (by rw [hstage]; decide)).trans ?_
  exact if_pos hstage

section
variable (hstage : m.stage = .sent) (hkind : m.kind ≠ .probe) (hans : (s0.arrive m).answers m.origin m.target = true)
  (hown : (s0.arrive m).ownPage? m.target m.ia = none)
include hstage hkind hans hown

theorem exec_notHere (hsign : find? (m.ia / 65536) ((s0.arrive m).die m.target).signs = none) :
    exec (.notHere id) s0 = .next (((s0.arrive m).gazDrop m.origin m.ia).modMsg id (fun m => { m with stage := .query, ans := Answer.none, path := [] })) := by
  refine congrArg Host.Outcome.next ?_
  refine (State.onMsg_found hm _).trans ?_
  exact State.check_passes (by rw [hstage, hans, hown, hsign, beq_false_of_ne hkind]; rfl) _ _

/-- A signpost relays a request, and at a relay count of 2 asks the home (R368). -/
theorem exec_signpostRelay {g : Sign} (hsign : find? (m.ia / 65536) ((s0.arrive m).die m.target).signs = some g)
    (horder : m.kind.causal = true → (s0.arrive m).relayInOrder m g.owner = true) :
    let s := s0.arrive m
    (m.path.length < 2 → exec (.signpostRelay id) s0 = .next (s.modMsg id (fun x => { x with target := g.owner, path := x.path ++ [m.target] }))) ∧
    (∀ p r, 2 ≤ m.path.length → s.answers m.target (s.homeOf m.target m.ia) = true → s.homeRec? m.target m.ia = some (p, r) →
      exec (.signpostRelay id) s0 =
        .next (s.modMsg id (fun m => { m with stage := .redirected, ans := { Answer.none with redirect := some (p, r.owner) } }))) := by
  intro s
  have hcausal : (m.kind.causal && !s.relayInOrder m g.owner) = false := by
    cases hc : m.kind.causal with
    | false => rfl
    | true => rw [horder hc]; rfl
  have relays : exec (.signpostRelay id) s0 = .next (if 2 ≤ m.path.length then
        if !s.answers m.target (s.homeOf m.target m.ia) then s
        else match s.homeRec? m.target m.ia with
          | none => let (ans, s) := (s.resolveAll m).unassigned m; s.modMsg id (fun m => { m with stage := .served, ans := ans })
          | some (p, r) => s.modMsg id (fun m => { m with stage := .redirected, ans := { Answer.none with redirect := some (p, r.owner) } })
      else s.modMsg id (fun x => { x with target := g.owner, path := x.path ++ [m.target] })) := by
    refine congrArg Host.Outcome.next ?_
    refine (State.onMsg_found hm _).trans ?_
    refine (State.check_passes (by rw [hstage, hans, hown, beq_false_of_ne hkind]; rfl) _ _).trans ?_
    rw [hsign]
    exact State.check_passes hcausal _ _
  refine ⟨fun hshort => relays.trans (congrArg _ (if_neg (Nat.not_le.2 hshort))), fun p r hlong hhome hrec => relays.trans (congrArg _ ?_)⟩
  refine (if_pos hlong).trans ?_
  refine (State.check_passes (by rw [hhome]; rfl) _ _).trans ?_
  rw [hrec]

end

end

-- Gazetteers, signposts and lineage (R362, R365, R369, R371) --------------------------------------------------------------------------

section
variable {s : State} {d p : Nat} (hd : d < 2048)
include hd

theorem exec_gazetteerEntryExpiry {z : Gaz} (hz : find? p (s.die d).gaz = some z) (hold : z.since + 2 ^ 17 < s.tick) :
    exec (.gazetteerEntryExpiry d p) s = .next (s.modDie d (fun k => { k with gaz := del p k.gaz })) := by
  refine (onUnit_die hd _).trans (congrArg _ ?_)
  rw [hz]
  exact if_pos hold

/-- A former owner reports its frontiers (R365). -/
theorem exec_lineageFrontierReport {t : Nat} (ht : t < 2048) {pg : PageSt} (hpg : find? p (s.die d).pages = some pg) :
    let v := (s.wake d).wake t
    exec (.lineageFrontierReport d p t) s = .next (v.modDie d (fun k =>
      { k with pages := put p { pg with lineage := pg.lineage.map (fun l => if l.die = t then
          { l with frontier := (v.die t).fronts.foldl (fun m o => put o.1 (Nat.max (getD o.1 0 m) o.2.f) m) l.frontier } else l) } k.pages })) := by
  refine (onUnit_ok (by rw [dieOk_lt hd, dieOk_lt ht]; rfl) _).trans (congrArg _ ?_)
  rw [hpg]

section
variable {g : Sign} (hg : find? p (s.die d).signs = some g)
include hg

theorem exec_signpostRetirement (hstage : g.stage = 0) (hold : g.since + 2 ^ 18 ≤ s.tick) (hsettled : s.settledFor d p = true) :
    exec (.signpostRetirement d p) s = .next (s.modDie d (fun k => { k with signs := put p { g with stage := 1 } k.signs })) := by
  refine (onUnit_die hd _).trans (congrArg _ ?_)
  rw [hg]
  exact if_pos (by rw [decide_eq_true hstage, decide_eq_true hold, hsettled]; rfl)

/-- The current owner drops the die from the lineage of the page, and confirms (R369). -/
theorem exec_lineageDrop (hstage : g.stage = 1) (hsettled : s.settledFor d p = true) (hhome : s.serving (s.homeOf d (p * 65536)) = true)
    {q : Nat} {r : HomeRec} {pg : PageSt} :
    let v := (s.wake d).wake (s.homeOf d (p * 65536))
    v.homeRec? d (p * 65536) = some (q, r) → v.serving r.owner = true → find? q ((v.wake r.owner).die r.owner).pages = some pg →
    exec (.lineageDrop d p) s = .next (((v.wake r.owner).modDie r.owner (fun k =>
      { k with pages := put q { pg with lineage := pg.lineage.filter (fun l => l.die != d) } k.pages })).modDie d
        (fun k => { k with signs := put p { g with stage := 2 } k.signs })) := by
  intro v hrec howner hpg
  refine (onUnit_die hd _).trans (congrArg _ ?_)
  rw [hg]
  refine (State.check_passes (by rw [hstage, hsettled, hhome]; rfl) _ _).trans ?_
  simp only [v] at hrec
  simp only [hrec]
  refine (State.check_passes (by rw [howner]; rfl) _ _).trans ?_
  refine congrArg (fun u : State => u.modDie d _) (State.modDie_congr ?_)
  rw [hpg]

theorem exec_signpostRemove (hstage : g.stage = 2) (hanswered : s.relayedAnswered d p = true) :
    exec (.signpostRemove d p) s = .next ((s.wake d).modDie d (fun k => { k with signs := del p k.signs })) := by
  refine (onUnit_die hd _).trans (congrArg _ ?_)
  rw [hg]
  exact if_pos (by rw [decide_eq_true hstage, hanswered]; rfl)

end

end

end Sys2Proof.Machine

open Sys2Proof Sys2Proof.Machine

/-- Settles O41, event by event. -/
theorem routingEvents : Obligations.RoutingEvents := by
  refine ⟨?_, ?_, ?_⟩
  · intro s0 id m hm s
    refine ⟨fun hstage hans => ⟨fun p r hrec => ?_, fun hrec => ?_⟩, fun p o => exec_homeOwnerAnswer_names hm,
      fun w hstage hnone hdenied => ⟨fun hkind => ?_, fun hkind => ?_⟩, fun p o => exec_redirect_resends hm, exec_redirect_taken hm, exec_notHere hm,
      fun g hstage hkind hans hown hsign horder => exec_signpostRelay hm hstage hkind hans hown hsign horder⟩
    · refine (exec_homeOwnerQuery hm hstage hans).trans (congrArg _ ?_)
      simp only [s] at hrec ⊢
      rw [hrec]
    · refine (exec_homeOwnerQuery hm hstage hans).trans (congrArg _ ?_)
      simp only [s] at hrec ⊢
      rw [hrec]
    · refine (exec_homeOwnerAnswer_denies hm hstage hnone hdenied).trans ?_
      rw [State.unassigned, hkind]
    · refine (exec_homeOwnerAnswer_denies hm hstage hnone hdenied).trans ?_
      rcases hkind with hkind | hkind <;> rw [State.unassigned, hkind]
  · intro s id r hr
    refine congrArg Host.Outcome.next ?_
    rw [hr]
  · intro s d p t hd ht
    refine ⟨fun z => exec_gazetteerEntryExpiry hd, onUnit_die hd _, fun pg => exec_lineageFrontierReport hd ht, fun g hg =>
      ⟨exec_signpostRetirement hd hg, fun q r pg hstage hsettled hhome => exec_lineageDrop hd hg hstage hsettled hhome, exec_signpostRemove hd hg⟩⟩

end

section
/-! SUPPORT. Migrations, leases and home records (R359 to R376, R380): what each event does where its conditions hold, and the statement
HomeAgentEvents. -/

namespace Sys2Proof.Machine

-- Migrations (R366, R367) ------------------------------------------------------------------------------------------------------------

section
variable {s : State} {k : Nat} {m : Mig} (hm : find? k s.migs = some m)
include hm

section
variable (hnext : s.migNext (dieOfCtx m.tag.g) = some k)
include hnext

/-- The state in which the home takes a migration request: it is awake, and the turns of the issuing die go on from the command's core (R16, R450). -/
abbrev State.migTaken (s : State) (m : Mig) : State :=
  (s.wake (s.homeOf (dieOfCtx m.tag.g) (m.pages.headD 0 * 65536))).modDie (dieOfCtx m.tag.g) (fun q => { q with haLast := coreOfCtx m.tag.g % 64 })

theorem exec_migrationRequest_refused {c : Nat}
    (hcheck : (s.migTaken m).migCheck (s.homeOf (dieOfCtx m.tag.g) (m.pages.headD 0 * 65536)) m = .inl c) :
    exec (.migrationRequest k) s = .next ((s.migTaken m).endMig k c) := by
  refine congrArg Host.Outcome.next ?_
  rw [hm]
  refine (State.check_passes (by rw [hnext]; exact bne_self_eq_false _) _ _).trans ?_
  simp only [hcheck]

/-- A set that passes: frames and table pages are taken from the destination's pools, and its records and leaves are marked (R366, R367). -/
theorem exec_migrationRequest_accepted {src n : Nat} :
    let home := s.homeOf (dieOfCtx m.tag.g) (m.pages.headD 0 * 65536)
    let fs := (((s.migTaken m).wake src).wake m.dst).takeFrames m.dst m.pages.length
    let ts := fs.2.takeTables m.dst n
    (s.migTaken m).migCheck home m = .inr (src, n) →
    exec (.migrationRequest k) s = .next (((ts.2.modRecs home m.pages (fun r => { r with migrating := true })).markLeaves src m.pages true).modMig k (fun m =>
      { m with phase := 1, src := src, frames := m.pages.zip fs.1, tables := ts.1 })) := by
  intro home fs ts hcheck
  refine congrArg Host.Outcome.next ?_
  rw [hm]
  refine (State.check_passes (by rw [hnext]; exact bne_self_eq_false _) _ _).trans ?_
  simp only [home] at hcheck
  simp only [hcheck]
  rfl

end

theorem exec_migrationCopyRound_first (hphase : m.phase = 1) (hfirst : m.rounds = 0) :
    exec (.migrationCopyRound k) s = .next ((s.copyPages m).modMig k (fun m => { m with rounds := 1, dirty := [] })) := by
  refine congrArg Host.Outcome.next ?_
  rw [hm]
  refine (State.check_passes (by rw [hphase, hfirst]; rfl) _ _).trans ?_
  exact if_pos hfirst

theorem exec_migrationCopyRound_dirty (hphase : m.phase = 1) (hone : 1 ≤ m.rounds) (hmax : m.rounds < 5) (hdirty : 64 < m.dirty.length) :
    exec (.migrationCopyRound k) s = .next ((s.copySectors m m.dirty).modMig k (fun m => { m with rounds := m.rounds + 1, dirty := [] })) := by
  refine congrArg Host.Outcome.next ?_
  rw [hm]
  refine (State.check_passes (by rw [hphase, decide_eq_false (Nat.not_le.2 hmax)]; rfl) _ _).trans ?_
  refine (if_neg (Nat.ne_of_gt hone)).trans ?_
  exact if_neg (Nat.not_le.2 hdirty)

theorem exec_migrationFreeze (hphase : m.phase = 1) (hone : 1 ≤ m.rounds) (hfew : m.dirty.length ≤ 64 ∨ 5 ≤ m.rounds) :
    exec (.migrationFreeze k) s = .next ((s.copySectors m m.dirty).modMig k (fun m =>
      { m with phase := 2, copied := m.dirty.length, dirty := [], frozenAt := s.tick })) := by
  have hends : (decide (64 < m.dirty.length) && decide (m.rounds < 5)) = false := by
    rw [Bool.and_eq_false_iff, decide_eq_false_iff_not, decide_eq_false_iff_not, Nat.not_lt, Nat.not_lt]
    exact hfew
  refine congrArg Host.Outcome.next ?_
  rw [hm]
  exact State.check_passes (by rw [hphase, decide_eq_false (Nat.ne_of_gt hone), hends]; rfl) _ _

/-- A freeze that lasts too long clears the marks, gives the frames back and ends with code 6 (R367). -/
theorem exec_freezeTimeout (hphase : m.phase = 2) (hlong : m.frozenAt + 800 ≤ s.tick) :
    exec (.freezeTimeout k) s = .next ((((s.markLeaves m.src m.pages false).modRecs (s.homeOf (dieOfCtx m.tag.g) (m.pages.headD 0 * 65536)) m.pages
      (fun r => { r with migrating := false })).giveBack m.dst (m.frames.map (·.2)) m.tables).endMig k 6) := by
  refine congrArg Host.Outcome.next ?_
  rw [hm]
  exact State.check_passes (by rw [hphase, decide_eq_false (Nat.not_lt.2 hlong)]; rfl) _ _

theorem exec_migrationComplete (hphase : m.phase = 3) :
    let val := if m.code = 0 then s.dieId m.src * 65536 + m.copied % 65536 else if m.code = 6 then s.dieId m.src * 65536 else 0
    exec (.migrationComplete k) s = .next ((({ s with migs := del k s.migs }).credit m.tag 8).reportL5 m.tag (haStatus m.code val)) := by
  refine congrArg Host.Outcome.next ?_
  rw [hm]
  exact State.check_passes (by rw [hphase]; rfl) _ _

end

-- Leases (R359, R361, R380) ----------------------------------------------------------------------------------------------------------

/-- A lease of a page that its owner holds with a valid leaf is granted (R359). -/
theorem State.askLease_granted {s : State} {d o q a : Nat} {l : Lease} {pg : PageSt} {big : Bool} {e : Nat} (hplace : s.placeOf d (l.page * 65536) [] = .at_ o)
    (hown : s.ownPage? o (l.page * 65536) = some (q, pg)) (hwalk : s.walk o (l.page * 65536) = .leaf a big e) :
    s.askLease d l = (⟨q, bitN e 60, 2⟩, s.addLeases o q 1) := by
  simp only [State.askLease, hplace, hown, hwalk]

/-- The owner of a page counts one lease of it less (R359). -/
def Die.releaseLease (k : Die) (p : Nat) : Die :=
  match pageFind? PageSt.big p k.pages with | none => k | some (q, pg) => { k with pages := put q { pg with leases := pg.leases - 1 } k.pages }

section
variable {s : State} {d u p : Nat} (hd : d < 2048)
include hd

section
variable {t : Task} (hbegin : s.beginRenewal d u = s) (ht : s.task? d u = some t)
include hbegin ht

theorem exec_leaseRequest_leases {l : Lease} (hl : t.leases.find? (fun l => l.page == p && l.stage == 0) = some l) :
    exec (.leaseRequest d u p) s = .next ((s.askLease d l).2.modTask d u (fun t => { t with leases := setLease p (s.askLease d l).1 t.leases })) := by
  refine (onUnit_die hd _).trans (congrArg _ ?_)
  simp only [hbegin, ht, hl]

theorem exec_leaseRequest_newLeases {l : Lease} (hnone : t.leases.find? (fun l => l.page == p && l.stage == 0) = none)
    (hl : t.newLeases.find? (fun l => l.page == p && l.stage == 0) = some l) :
    exec (.leaseRequest d u p) s = .next ((s.askLease d l).2.modTask d u (fun t => { t with newLeases := setLease p (s.askLease d l).1 t.newLeases })) := by
  refine (onUnit_die hd _).trans (congrArg _ ?_)
  simp only [hbegin, ht, hnone, hl]

/-- A renewal whose leases are all granted brings the new card into force (R361). -/
theorem exec_leaseRenewalComplete {tag : Tag} {more : List (Tag × Bool)} (hrenews : t.renews = (tag, true) :: more) (hcard : t.newCard ≠ [])
    (hgranted : ∀ l ∈ t.newLeases, l.stage = 2) :
    let keep := t.st == 4
    exec (.leaseRenewalComplete d u) s = .next (((s.giveUp d u (t.leases ++ (if keep then [] else t.newLeases)) 0).modTask d u (fun x =>
      { x with card := x.newCard, leases := if keep then x.newLeases else [] })).endRenewal d u tag 0 t.newLeases.length) := by
  have hasked : t.newLeases.any (fun l => decide (l.stage < 2)) = false :=
    List.any_eq_false.2 fun l hl => by rw [hgranted l hl]; decide
  have hrefused : t.newLeases.any (fun l => l.stage == 3) = false :=
    List.any_eq_false.2 fun l hl => by rw [hgranted l hl]; decide
  refine (onUnit_die hd _).trans (congrArg _ ?_)
  simp only [hbegin, ht, hrenews]
  refine (State.check_passes (by simpa using hcard) _ _).trans ?_
  refine (State.check_passes hasked _ _).trans ?_
  exact State.check_passes hrefused _ _

end

theorem exec_leaseRelease {n o : Nat} (hrel : (s.die d).compass.releases.find? (fun r => r.1 == u && r.2.1 == p) = some (u, p, n))
    (hout : s.cmdsOut d u (fun k => decide (k < n)) = false) (hplace : s.placeOf d (p * 65536) [] = .at_ o) :
    exec (.leaseRelease d u p) s =
      .next ((s.modCompass d (fun k => { k with releases := k.releases.erase (u, p, n) })).modDie o (fun k => k.releaseLease p)) := by
  refine (onUnit_die hd _).trans (congrArg _ ?_)
  simp only [hrel]
  refine (State.check_passes hout _ _).trans ?_
  rw [hplace]
  rfl

/-- The home records a page that its owner creates (R354, R357; log 40). -/
theorem exec_homeRecordCreate {page : Nat} {big : Bool} {comp : Option Nat} (hpend : (s.die d).haPend = some (page, big, comp)) :
    let h := s.homeOf d (page * 65536)
    s.serving h = true → s.homeRec? d (page * 65536) = none → (big = true → (s.die h).homeRecs.any (fun r => r.1 / 512 == page / 512) = false) →
    exec (.homeRecordCreate d) s = .next (((s.modDie h (fun k => { k with homeRecs := put page ⟨d, big, comp, false, none⟩ k.homeRecs })).modDie d (fun k =>
      { k with pages := put page ⟨big, 0, []⟩ k.pages, signs := del page k.signs })).uopDone d 0) := by
  intro h hserve hrec hbig
  have hregion : (big && (s.die h).homeRecs.any (fun r => r.1 / 512 == page / 512)) = false := by
    cases big with
    | false => rfl
    | true => exact hbig rfl
  refine (onUnit_die hd _).trans (congrArg _ ?_)
  rw [hpend]
  refine (State.check_passes (by rw [hserve]; rfl) _ _).trans ?_
  exact State.check_passes (by rw [hrec, hregion]; rfl) _ _

end

end Sys2Proof.Machine

open Sys2Proof Sys2Proof.Machine

/-- Settles O42, event by event. -/
theorem homeAgentEvents : Obligations.HomeAgentEvents := by
  constructor
  · intro s k m hm d home
    refine ⟨fun hnext => ⟨fun c => exec_migrationRequest_refused hm hnext, fun src n => exec_migrationRequest_accepted hm hnext⟩,
      fun hphase => ⟨exec_migrationCopyRound_first hm hphase, exec_migrationCopyRound_dirty hm hphase, exec_migrationFreeze hm hphase⟩,
      fun hphase => ⟨exec_freezeTimeout hm hphase, ?_⟩, exec_migrationComplete hm⟩
    intro s1 left hsoon leaves hinstall unused freed moved
    refine congrArg Host.Outcome.next ?_
    rw [hm]
    refine (State.check_passes (by rw [hphase, decide_eq_false (Nat.not_lt.2 hsoon)]; rfl) _ _).trans ?_
    simp only [leaves] at hinstall
    simp only [hinstall]
    rfl
  · intro s d u p hd
    refine ⟨fun t l o q pg a big e hbegin ht hl hplace hown hwalk => ?_, fun t l hbegin ht => exec_leaseRequest_newLeases hd hbegin ht,
      fun n o => exec_leaseRelease hd, fun t tag more hbegin ht => exec_leaseRenewalComplete hd hbegin ht, fun page big comp => exec_homeRecordCreate hd⟩
    rw [exec_leaseRequest_leases hd hbegin ht hl, State.askLease_granted hplace hown hwalk]

end

section
/-! SUPPORT. The collective engine, the reduction engines of the switches, and queue messages (R408 to R432): what each event does where its
conditions hold, and the statement CollectiveEvents. -/

namespace Sys2Proof.Machine

-- A die's collective engine (R409, R419, R423, R430) --------------------------------------------------------------------------------

section
variable {s : State} {d k : Nat} {m : ColCmd} (hd : d < 2048)
include hd

section
variable (hnext : s.colNext d = some (k, m))
include hnext

theorem exec_collectiveCommandStart_rejected (hrej : m.rej = true) :
    exec (.collectiveCommandStart d) s = .next ((s.modColl d (fun c => { c with last := m.tag.g / 4 % 64 })).modCol d k (fun m =>
      { m with phase := 3, fault := some 1 })) := by
  refine (onUnit_die hd _).trans (congrArg _ ?_)
  rw [hnext]
  exact if_pos hrej

theorem exec_collectiveCommandStart_taken (hrej : m.rej = false) (hopen : m.op ≠ 0x38) (hsend : m.op ≠ 0x36) :
    exec (.collectiveCommandStart d) s =
      .next ((s.modColl d (fun c => { c with last := m.tag.g / 4 % 64 })).modCol d k (fun m => { m with phase := 1 })) := by
  refine (onUnit_die hd _).trans (congrArg _ ?_)
  rw [hnext]
  refine (State.check_passes hrej _ _).trans ?_
  exact (if_neg hopen).trans (if_neg hsend)

end

section
variable (hm : find? k (s.die d).coll.queue = some m)
include hm

/-- A unit of a transfer that is made is credited (R423). -/
theorem exec_transferUnitCredit (n : Nat) (x : State) (hop : m.op = 0x39 ∨ m.op = 0x3A) (hphase : m.phase = 1) (hfault : m.fault = none)
    (hmore : m.pos < tdLen m.ws) (hheld : s.cmdHeld m.tag = false) (hbehind : s.transferBehind d k m = false) (hunit : s.transferUnit d m = .ok (n, x)) :
    let b := n * (if m.op = 0x39 then (tdTargets m.ws m.n m.rank).length else 1)
    exec (.transferUnitCredit d k) s = .next ((x.credit m.tag b).modCol d k (fun m => { m with pos := m.pos + n, cred := m.cred + b })) := by
  have hops : (m.op == 0x39 || m.op == 0x3A) = true := by simpa using hop
  refine (onUnit_die hd _).trans (congrArg _ ?_)
  rw [hm]
  refine (State.check_passes (by rw [hops, hphase, hfault, decide_eq_false (Nat.not_le.2 hmore), hheld, hbehind]; rfl) _ _).trans ?_
  rw [hunit]

section
variable (hnum : numbered m.op = true) (hphase : m.phase = 1) (hfault : m.fault = none) (hrel : s.releasable m.tag = true) (hheld : s.cmdHeld m.tag = false)
include hnum hphase hfault hrel hheld

/-- A transform without ranks to exchange with sends nothing (R422; log 44). -/
theorem exec_contributionSend_alone (bs : List Byte) (nan : Bool) (hkind : m.sig.kind = 3) (haxis : m.axis = none) (hpay : s.payload m = .ok (bs, nan)) :
    exec (.contributionSend d k) s = .next (s.localTransform d k m bs) := by
  refine (onUnit_die hd _).trans (congrArg _ ?_)
  rw [hm]
  refine (State.check_passes (by rw [hnum, hphase, hfault, hkind, haxis, hrel, hheld]; rfl) _ _).trans ?_
  rw [hpay]
  exact if_pos (by rw [hkind, haxis]; rfl)

section
variable (hlinked : s.linked d = true)
include hlinked

/-- A payload that cannot be read ends the command (R432). -/
theorem exec_contributionSend_fails {sub at_ : Nat} {used : Used} (hpay : s.payload m = .fail sub at_ used) :
    exec (.contributionSend d k) s = .next (s.modCol d k (fun m => { m with fault := some 4, phase := 3 })) := by
  refine (onUnit_die hd _).trans (congrArg _ ?_)
  rw [hm]
  refine (State.check_passes (by rw [hnum, hphase, hfault, hlinked, hrel, hheld, Bool.or_true]; rfl) _ _).trans ?_
  rw [hpay]

/-- The contributions leave, one for each chunk (R411, R419). -/
theorem exec_contributionSend_leaves (hothers : m.sig.kind ≠ 3 ∨ m.axis ≠ none) {bs : List Byte} {nan : Bool} (hpay : s.payload m = .ok (bs, nan)) :
    exec (.contributionSend d k) s = .next ((s.contribute d m bs nan).modCol d k (fun m =>
      { m with phase := 2, fault := if m.sig.kind = 4 && smpMode (smpTemp m.ws) = 3 then some 5 else none })) := by
  have hthere : (m.sig.kind == 3 && m.axis.isNone) = false := by
    rw [Bool.and_eq_false_iff, beq_eq_false_iff_ne, Option.isNone_eq_false_iff, Option.isSome_iff_ne_none]
    exact hothers
  refine (onUnit_die hd _).trans (congrArg _ ?_)
  rw [hm]
  refine (State.check_passes (by rw [hnum, hphase, hfault, hlinked, hrel, hheld, Bool.or_true]; rfl) _ _).trans ?_
  rw [hpay]
  exact State.check_passes hthere _ _

end

end

section
variable (hdone : s.colDone m = true) (hnode : m.node = false) (hsta : m.sta = none) (hsmp : m.op ≠ 0x3E) (hstr : m.op ≠ 0x3F)
include hdone hnode hsta hsmp hstr

/-- A command that ends well, with no status area to write, credits its bytes and reports to l5 (R419, R432). -/
theorem exec_collectiveComplete_ends (hend : m.ending = none) (hput : m.op ≠ 0x39) (hget : m.op ≠ 0x3A) :
    let u := s.modColl d (fun c => { c with queue := del k c.queue })
    exec (.collectiveComplete d k) s = .next ((u.credit m.tag m.total).reportL5 m.tag m.status) := by
  intro u
  refine (onUnit_die hd _).trans (congrArg _ ?_)
  rw [hm]
  refine (State.check_passes (by rw [hdone]; rfl) _ _).trans ?_
  refine (State.check_passes hnode _ _).trans ?_
  simp only [hsta, hend]
  cases (s.modColl d (fun c => { c with queue := del k c.queue })).task? d m.tag.u <;> simp [hsmp, hstr, hput, hget, u]

/-- One that fails leaves a deferred fault (R433). -/
theorem exec_collectiveComplete_fails {sub : Nat} (hend : m.ending = some sub) :
    let u := s.modColl d (fun c => { c with queue := del k c.queue })
    exec (.collectiveComplete d k) s = .next (
      (u.deferFault m.tag 0x15 (info15 sub m.tag.h m.grp (if sub = 1 || !numbered m.op then m.word else m.seq)) m.writes).reportL5 m.tag m.status) := by
  intro u
  refine (onUnit_die hd _).trans (congrArg _ ?_)
  rw [hm]
  refine (State.check_passes (by rw [hdone]; rfl) _ _).trans ?_
  refine (State.check_passes hnode _ _).trans ?_
  simp only [hsta, hend]
  cases (s.modColl d (fun c => { c with queue := del k c.queue })).task? d m.tag.u <;> simp [hsmp, hstr, u]

end

end

end

-- The slots of the reduction engines (R411 to R414) -------------------------------------------------------------------------------------

/-- What a contribution leaves at a slot of its key and its signature, by the slot's phase: one that waits for all takes it, one that has passed its
own up drops it, one that has timed out keeps it as late, and one with its result answers it (R411, R414). -/
def State.meetSlot (s taken : State) (m : ColMsg) (i : Nat) (q : Slot) : State :=
  match q.phase with
  | 0 =>
    let q := { q with parts := put m.idx m.part q.parts }
    if (s.slotKids q).all (fun k => (find? k q.parts).isSome) then taken.slotDone i q false else taken.setSlot i q
  | 1 => taken
  | 2 => taken.setSlot i { q with late := q.late ++ m.part.who }
  | _ => taken.turnBack m (if q.res.isSome then 1 else 2) (q.res.getD ⟨[], [], false, []⟩)

theorem State.meetSlot_open {s taken : State} {m : ColMsg} {i : Nat} {q : Slot} (h : q.phase = 0) :
    let q' := { q with parts := put m.idx m.part q.parts }
    s.meetSlot taken m i q = if (s.slotKids q').all (fun k => (find? k q'.parts).isSome) then taken.slotDone i q' false else taken.setSlot i q' := by
  simp only [State.meetSlot, h]

theorem State.meetSlot_late {s taken : State} {m : ColMsg} {i : Nat} {q : Slot} (h : q.phase = 2) :
    s.meetSlot taken m i q = taken.setSlot i { q with late := q.late ++ m.part.who } := by
  simp only [State.meetSlot, h]

/-- A contribution meets a slot that has not failed: what a failed slot below sent on fails it, another signature fails it, and one of its signature
is taken as its phase has it (R411, R413, R414). -/
theorem exec_slotContributionArrival {s : State} {id i : Nat} {m : ColMsg} {q : Slot} (hm : find? id s.colMsgs = some m) (hup : m.up = true)
    (hrefused : m.refused = none) (hslot : s.slotFor m = some (i, q)) (hphase : q.phase ≠ 4) :
    let taken : State := { s with colMsgs := del id s.colMsgs }
    exec (.slotContributionArrival id) s = .next (
      if m.bad then taken.failSlot i q [] m.part.who
      else if m.sig != q.sig then taken.failSlot i q m.part.who []
      else s.meetSlot taken m i q) := by
  intro taken
  refine congrArg Host.Outcome.next ?_
  rw [hm]
  refine (State.check_passes (by rw [hup, hrefused]; rfl) _ _).trans ?_
  rw [hslot]
  exact if_neg hphase

/-- A refused contribution is sent again after 64 ticks (R411). -/
theorem exec_contributionRefusedResend {s : State} {id t : Nat} {m : ColMsg} (hm : find? id s.colMsgs = some m) (hrefused : m.refused = some t)
    (hold : t + 64 ≤ s.tick) : exec (.contributionRefusedResend id) s = .next { s with colMsgs := put id { m with refused := none } s.colMsgs } := by
  refine congrArg Host.Outcome.next ?_
  rw [hm]
  simp only [hrefused]
  exact if_pos hold

section
variable {s : State} {i : Nat} {q : Slot} (hq : find? i s.slots = some q)
include hq

theorem exec_slotTimeout_open (hold : q.alloc + q.tier * q.tmo ≤ s.tick) (hopen : q.phase = 0) :
    exec (.slotTimeout i) s = .next (s.slotDone i q true) := by
  refine congrArg Host.Outcome.next ?_
  rw [hq]
  exact (if_neg (Nat.not_lt.2 hold)).trans (if_pos hopen)

theorem exec_slotTimeout_failed (hold : q.alloc + q.tier * q.tmo ≤ s.tick) (hfailed : q.phase = 4) (hsince : q.since = 0) :
    exec (.slotTimeout i) s = .next (s.dropSlot i) := by
  refine congrArg Host.Outcome.next ?_
  rw [hq]
  refine (if_neg (Nat.not_lt.2 hold)).trans ?_
  refine (if_neg (by omega)).trans ?_
  exact if_pos (by rw [hfailed, hsince]; rfl)

/-- The late window over, the expiry mark rises; the slot stays while it holds what came late (R414). -/
theorem exec_lateWindowEnd (hphase : q.phase = 2 ∨ q.phase = 3 ∨ q.phase = 4) (hsince : q.since ≠ 0) (hold : q.since + q.tmo ≤ s.tick) :
    let key := markKey q.tier q.block q.grp
    let mark := match find? key s.marks with | some k => if seqAtMost q.seq k then k else q.seq | none => q.seq
    exec (.lateWindowEnd i) s = .next { (if q.phase = 2 && !q.late.isEmpty then s.setSlot i { q with phase := 5 } else s.dropSlot i) with
      marks := put key mark s.marks } := by
  refine congrArg Host.Outcome.next ?_
  rw [hq]
  have hwaits : ¬ q.phase < 2 := by omega
  have hstays : q.phase ≠ 5 := by omega
  exact State.check_passes (by rw [decide_eq_false hwaits, decide_eq_false hstays, decide_eq_false hsince, decide_eq_false (Nat.not_lt.2 hold)]; rfl) _ _

end

-- Results and queue messages (R415, R425) --------------------------------------------------------------------------------------------------

/-- An answer reaches the command it is for, which writes it as far as it may (R415, R419, R432). -/
theorem exec_resultDelivery {s r : State} {id k : Nat} {x : ColMsg} {m : ColCmd} {whole : Bool} (hx : find? id s.colMsgs = some x) (hdown : x.up = false)
    (hlinked : s.linked x.die = true)
    (hcmd : (s.die x.die).coll.queue.find? (fun q => numbered q.2.op && !q.2.rej && q.2.phase == 2 && q.2.grp == x.grp && q.2.seq == x.seq) = some (k, m))
    (hwrite : ({ s.wake x.die with colMsgs := del id s.colMsgs } : State).colPieces m m.dsp m.dbase true (resultBytes m x) = .ok (whole, r)) :
    exec (.resultDelivery id) s = .next (r.modCol x.die k (fun c =>
      ({ c with got := put x.chunk ⟨x.ans, x.part.nan, x.part.miss, if m.sig.kind = 4 then ofBytes ((getD 0 [] x.part.data).drop 4) else 0,
                                    if m.sig.kind = 3 && !m.lastExchange then x.part.data else []⟩ c.got,
                fault := if whole then c.fault else some (c.fault.getD 4) } : ColCmd).advanced)) := by
  refine congrArg Host.Outcome.next ?_
  rw [hx]
  refine (State.check_passes (by rw [hdown, hlinked]; rfl) _ _).trans ?_
  simp only [hcmd, hwrite]

section
variable {s : State} {id : Nat} {m : QMsg} (hm : find? id s.qMsgs = some m)
include hm

/-- A refused queue message is sent again after 64 ticks (R425). -/
theorem exec_queueMessageResend (t : Nat) (hrefused : m.refused = some t) (hold : t + 64 ≤ s.tick) :
    exec (.queueMessageResend id) s = .next { s with qMsgs := put id { m with refused := none } s.qMsgs } := by
  refine congrArg Host.Outcome.next ?_
  rw [hm]
  simp only [hrefused]
  exact if_pos hold

/-- A queue message whose turn it is reaches the queue of a member: it is refused when the queue is full, or enters it (R425). -/
theorem exec_queueMessageArrival (hrefused : m.refused = none) (hways : m.src = m.dst ∨ s.linked m.src = true ∧ s.linked m.dst = true)
    (hfirst : s.qMsgs.any (fun q => decide (q.1 < id) && q.2.src == m.src && q.2.dst == m.dst && q.2.grp == m.grp && q.2.q == m.q) = false) :
    let x := s.grp m.dst m.grp
    let u := s.wake m.dst
    let taken := { u with qMsgs := del id u.qMsgs }
    x.v = true → x.member ≠ none →
    exec (.queueMessageArrival id) s = .next (
      if 32 ≤ (getD m.q [] x.queues).length then { u with qMsgs := put id { m with refused := some u.tick } u.qMsgs }
      else ((taken.setGrp m.dst m.grp { x with queues := put m.q (getD m.q [] x.queues ++ [m.val]) x.queues }).learnAll m.dst).modCol m.src m.cmd (fun c =>
        { c with phase := 3 })) := by
  intro x u taken hv hmember
  have hway : (m.src == m.dst || (s.linked m.src && s.linked m.dst)) = true := by simpa using hways
  have hmember' : x.member.isNone = false := by rwa [Option.isNone_eq_false_iff, Option.isSome_iff_ne_none]
  refine congrArg Host.Outcome.next ?_
  rw [hm]
  refine (State.check_passes (by rw [hrefused, hway, hfirst]; rfl) _ _).trans ?_
  exact State.check_passes (by rw [hv, hmember']; rfl) _ _

end

end Sys2Proof.Machine

open Sys2Proof Sys2Proof.Machine

/-- Settles O45, event by event. -/
theorem collectiveEvents : Obligations.CollectiveEvents := by
  intro s r d k id i hd
  refine ⟨fun m hnext => ⟨exec_collectiveCommandStart_rejected hd hnext, exec_collectiveCommandStart_taken hd hnext⟩, fun m hm => ?_,
    fun m q hm hup hrefused hslot hphase => ?_, fun m t hm => exec_contributionRefusedResend hm,
    fun q hq => ⟨fun hold => ⟨exec_slotTimeout_open hq hold, exec_slotTimeout_failed hq hold⟩, exec_lateWindowEnd hq⟩,
    fun x m hx hdown hlinked hcmd whole hwrite => exec_resultDelivery hx hdown hlinked hcmd hwrite,
    fun m hm => ⟨exec_queueMessageResend hm, fun hrefused hways hfirst => ?_⟩⟩
  · refine ⟨exec_transferUnitCredit hd hm, ?_, ?_, ?_, fun hdone hnode hsta hsmp hstr => ?_⟩
    · exact fun sub at_ used hnum hphase hfault _ hlinked hrel hheld => exec_contributionSend_fails hd hm hnum hphase hfault hrel hheld hlinked
    · exact fun bs nan hnum hphase hfault hkind haxis hrel hheld => exec_contributionSend_alone hd hm hnum hphase hfault hrel hheld bs nan hkind haxis
    · exact fun bs nan hnum hphase hfault hothers hlinked hrel hheld => exec_contributionSend_leaves hd hm hnum hphase hfault hrel hheld hlinked hothers
    · exact ⟨exec_collectiveComplete_ends hd hm hdone hnode hsta hsmp hstr, fun sub => exec_collectiveComplete_fails hd hm hdone hnode hsta hsmp hstr⟩
  · have arrives := exec_slotContributionArrival hm hup hrefused hslot hphase
    have matching (hbad : m.bad = false) (hsig : m.sig = q.sig) {u v w : State} : (if m.bad then u else if m.sig != q.sig then v else w) = w :=
      (State.check_passes hbad _ _).trans (State.check_passes (by rw [hsig]; exact bne_self_eq_false _) _ _)
    refine ⟨fun hbad => ?_, fun hbad hsig => ?_, fun hbad hsig hlate => ?_, fun hbad hsig hopen => ?_⟩ <;> refine arrives.trans (congrArg _ ?_)
    · exact if_pos hbad
    · exact (State.check_passes hbad _ _).trans (if_pos (bne_iff_ne.2 hsig))
    · exact (matching hbad hsig).trans (State.meetSlot_late hlate)
    · exact (matching hbad hsig).trans (State.meetSlot_open hopen)
  · intro x before u taken hv hmember
    have arrives := exec_queueMessageArrival hm hrefused hways hfirst hv hmember
    exact ⟨fun hfull => arrives.trans (congrArg _ (if_pos hfull)), fun hroom => arrives.trans (congrArg _ (if_neg (Nat.not_le.2 hroom)))⟩

end
